-- ==== Sys2Proof/Word.lean ====
section
/-!
DEFINITION. The words the NZ-4810 moves: link characters, EEPROM words and FREF timestamps.
-/
namespace Sys2Proof

/-- A character of the Cluster Serial Link, one byte of a frame (R170, R179). -/
abbrev Byte := BitVec 8

/-- An EEPROM word, and a two-byte field of a frame (00_scope section 8, R180). -/
abbrev Word := BitVec 16

/-- A count of FREF, the 24-bit timestamp at 256 kHz (00_scope section 5, R1). -/
abbrev Stamp := BitVec 24

end Sys2Proof
end

