-- ==== Sys2Proof/Syntax.lean ====
section
/-!
DEFINITION. The commands of the NZ-4810: one constructor per row of spec/opcode_table.json.

An event row (a timer, an edge, a character, a change of a line) carries what the event brings with it.
A request row carries the fields of its request frame, each of the width R180 and section 11.3 give, so
that every value the frame can carry, allowed or not, is a command.
-/
namespace Sys2Proof

/-- The 27 bytes of a Monitor Configure payload after the monitor index (11.3, offsets 1 to 27). -/
structure MonitorFields where
  enabled : Byte
  srcKind : Byte
  srcIndex : Byte
  method : Byte
  setLo : Word
  setHi : Word
  hyst : Word
  q1Kind : Byte
  q1Index : Byte
  q2Kind : Byte
  q2Index : Byte
  assertDelay : Byte
  releaseDelay : Byte
  faultSense : Byte
  runIn : Byte
  latching : Byte
  lamp : Byte
  lampMode : Byte
  pattern : Byte
  priority : Byte
  passes : Byte
  reminder : Byte
  notice : Byte
  snapshot : Byte
  deriving DecidableEq, Repr

/-- The nine settings of a gauge as Gauge Configure carries them (11.3, offsets 1 to 11). -/
structure GaugeFields where
  source : Byte
  curve : Byte
  rest : Word
  faultMode : Byte
  rLo : Byte
  rHi : Word
  accel : Byte
  deadband : Byte
  sweep : Byte
  deriving DecidableEq, Repr

/-- The eight settings of a service item as Service Configure carries them (R180). -/
structure ServiceFields where
  enabled : Byte
  km : Word
  days : Word
  mrev : Byte
  margin : Byte
  grace : Byte
  lamp : Byte
  pattern : Byte
  priority : Byte
  passes : Byte
  deriving DecidableEq, Repr

/-- The moment of a command whose effect takes the present level of a pulse input or of SYNC (R1, R3, R89): the FREF
count within the present tick, and the levels the pins then have, as TICK carries them. A row that is written without one
comes with the tick, and finds every pin low. -/
structure Moment where
  sub : BitVec 8 := 0
  pulse : BitVec 5 := 0
  deriving DecidableEq, Repr

/-- The commands. `sub` of an edge is the FREF count within the present tick at its acceptance; `di`,
`ign` and `pulse` are the pin levels of DI0 to DI11 (bit k), IGN, and SPD, TAC, INJ, IDX and SYNC (bits 0 to 4), SYNC as
the other parts on the line leave it. -/
inductive Instr where
  /-- POWER_ON_RESET (R155): the levels the reset samples. -/
  | powerOnReset (di : BitVec 12) (ign : Bool) (pulse : BitVec 5) (lrate drumfit : Bool)
  /-- RESETN_RELEASE (R155). -/
  | resetnRelease
  /-- INIT_END (R156), which enables the inputs (R1, R2). -/
  | initEnd (m : Moment := {})
  /-- TICK (R19): one 1 ms tick and the levels it samples. -/
  | tick (di : BitVec 12) (ign : Bool) (pulse : BitVec 5)
  /-- DISCRETE_CHANGE (R19) of DIk. -/
  | discreteChange (k : Fin 12)
  /-- RUN_ENTRY (R160), which enables the inputs (R1, R2). -/
  | runEntry (m : Moment := {})
  /-- RUN_EXIT (R160): which of the ODOMETER and SERVICE posts is taken first, which R160 leaves open. -/
  | runExit (serviceFirst : Bool)
  /-- SECOND_END (R141). -/
  | secondEnd
  /-- DAY_END (R141). -/
  | dayEnd
  /-- FRESHNESS_EXPIRY (R31) of EXT_(e+1), channel 11 + e. -/
  | freshnessExpiry (e : Fin 5)
  /-- LINGER_EXPIRY (R162). -/
  | lingerExpiry
  /-- ASLEEP_ENTRY (R162). -/
  | asleepEntry
  /-- SPD_EDGE (R40). -/
  | spdEdge (sub : BitVec 8)
  /-- TAC_EDGE (R42). -/
  | tacEdge (sub : BitVec 8)
  /-- INJ_LEVEL_CHANGE (R9). -/
  | injLevelChange (sub : BitVec 8)
  /-- IDX_EDGE (R58). -/
  | idxEdge
  /-- WINDOW_CLOSE (R5): whether the Trip Computer's handling is taken before the PIU's, which R73 leaves open. -/
  | windowClose (tripFirst : Bool)
  /-- ANALOG_SAMPLE (R11): the raw sample of input Ai. -/
  | analogSample (i : Fin 6) (raw : BitVec 10)
  /-- TRIP_SECOND (R65). -/
  | tripSecond
  /-- GAUGE_MOTION_STEP (R81). -/
  | gaugeMotionStep
  /-- SWEEP_DELAY_EXPIRY (R88). -/
  | sweepDelayExpiry
  /-- SWEEP_TIMEOUT_EXPIRY (R91). -/
  | sweepTimeoutExpiry
  /-- SYNC_FALLING_EDGE (R89). -/
  | syncFallingEdge
  /-- SYNC_PULSE_END (R88). -/
  | syncPulseEnd
  /-- MONITOR_EVALUATION (R100) of monitor m; the sixteen of one moment are separate events (R100). -/
  | monitorEvaluation (m : Fin 16)
  /-- ASSERT_TIMER_EXPIRY (R103) of monitor m. -/
  | assertTimerExpiry (m : Fin 16)
  /-- RELEASE_TIMER_EXPIRY (R106) of monitor m. -/
  | releaseTimerExpiry (m : Fin 16)
  /-- REMINDER_EXPIRY (R110) of monitor m. -/
  | reminderExpiry (m : Fin 16)
  /-- CHIME_STEP_END (R124). -/
  | chimeStepEnd
  /-- GAP_END (R123). -/
  | gapEnd
  /-- BULB_CHECK_END (R134). -/
  | bulbCheckEnd
  /-- FLASH_HALF_CHANGE (R135). -/
  | flashHalfChange
  /-- DUTY_SETTING (R136). -/
  | dutySetting
  /-- DRUM_STEP (R57). -/
  | drumStep
  /-- DRUM_INDEX_MISS (R59). -/
  | drumIndexMiss
  /-- DRUM_COIL_OFF (R57). -/
  | drumCoilOff
  /-- EEPROM_WRITE_BEGIN (R165). -/
  | eepromWriteBegin
  /-- EEPROM_WORD_COMPLETE (R166). -/
  | eepromWordComplete
  /-- EEPROM_WORD_FAIL (R166). -/
  | eepromWordFail
  /-- CHARACTER_RECEIVED (R171): the character and whether its stop bit was found high. A lead byte may enable IDX (R164),
  and the last character of a frame may bring new pulse settings (R3). -/
  | characterReceived (c : Byte) (stopHigh : Bool) (m : Moment := {})
  /-- CHARACTER_GAP_TIMEOUT (R171). -/
  | characterGapTimeout
  /-- REPLY_END (R173): the frame then taken may bring new pulse settings (R3). -/
  | replyEnd (m : Moment := {})
  /-- STATUS_READ, kind 0x01 (R178). -/
  | statusRead
  /-- NOTICE_FETCH, kind 0x02 (R177). -/
  | noticeFetch
  /-- SOFT_RESTART, kind 0x03 (R169), which may restart filters (R10). -/
  | softRestart (m : Moment := {})
  /-- VEHICLE_CONSTANTS_WRITE, kind 0x08 (R158). -/
  | vehicleConstantsWrite (kvss cinj : Word) (ppr : Byte) (consumption : Word) (reserve : Byte)
  /-- VEHICLE_CONSTANTS_READ, kind 0x09 (R159). -/
  | vehicleConstantsRead
  /-- EEPROM_READ, kind 0x0A (R167). -/
  | eepromRead (first count : Byte)
  /-- EEPROM_WRITE, kind 0x0B (R168). -/
  | eepromWrite (address : Byte) (value : Word)
  /-- CURVE_LOAD, kind 0x10 (R37): the count as the frame carries it, and the points it carries. -/
  | curveLoad (curve count : Byte) (points : List (Word × Word))
  /-- CURVE_READ, kind 0x11 (R39). -/
  | curveRead (curve : Byte)
  /-- ANALOG_INPUT_CONFIGURE, kind 0x12 (R17). -/
  | analogInputConfigure (input curve : Byte) (low high : Word) (decimation shift : Byte) (threshold : Word)
  /-- PULSE_INPUT_CONFIGURE, kind 0x13 (R3). -/
  | pulseInputConfigure (input filter selection loss : Byte) (m : Moment := {})
  /-- DISCRETE_INPUT_CONFIGURE, kind 0x14 (R21). -/
  | discreteInputConfigure (input polarity debounce wake : Byte)
  /-- CHANNEL_READ, kind 0x15 (R34). -/
  | channelRead (first count : Byte)
  /-- CHANNEL_HOLD, kind 0x16 (R27). -/
  | channelHold (channel : Byte) (value : Word)
  /-- CHANNEL_RELEASE, kind 0x17 (R28). -/
  | channelRelease (channel : Byte)
  /-- CHANNEL_PUT, kind 0x18 (R30). -/
  | channelPut (channel : Byte) (value : Word)
  /-- EXTERNAL_CHANNEL_CONFIGURE, kind 0x19 (R32). -/
  | externalChannelConfigure (channel freshness withdraw : Byte)
  /-- DISCRETE_READ, kind 0x1A (R22). -/
  | discreteRead
  /-- GAUGE_CONFIGURE, kind 0x20 (R95). -/
  | gaugeConfigure (gauge : Byte) (fields : GaugeFields) (delay : Word)
  /-- GAUGE_READ, kind 0x21 (R98). -/
  | gaugeRead (gauge : Byte)
  /-- SWEEP_START, kind 0x22 (R97). -/
  | sweepStart
  /-- MONITOR_CONFIGURE, kind 0x28 (R114). -/
  | monitorConfigure (monitor : Byte) (fields : MonitorFields)
  /-- MONITOR_READ, kind 0x29 (R116). -/
  | monitorRead (monitor part : Byte)
  /-- MONITOR_ACKNOWLEDGE, kind 0x2A (R109). -/
  | monitorAcknowledge (monitor : Byte)
  /-- MONITOR_CLEAR_SNAPSHOT, kind 0x2B (R117). -/
  | monitorClearSnapshot (monitor : Byte)
  /-- CHIME_POST, kind 0x30 (R129). -/
  | chimePost (slot pattern priority passes : Byte)
  /-- CHIME_WITHDRAW, kind 0x31 (R130). -/
  | chimeWithdraw (slot : Byte)
  /-- PATTERN_LOAD, kind 0x32 (R128): the count as the frame carries it, and the (tone, duration) steps. -/
  | patternLoad (pattern count : Byte) (steps : List (Byte × Byte))
  /-- CHIME_READ, kind 0x33 (R131). -/
  | chimeRead (first : Byte)
  /-- LAMP_SET, kind 0x34 (R137). -/
  | lampSet (lamp mode : Byte)
  /-- LAMP_CONFIGURE, kind 0x35 (R138). -/
  | lampConfigure (discrete : Byte)
  /-- LAMP_READ, kind 0x36 (R139). -/
  | lampRead (lamp : Byte)
  /-- TRIP_READ, kind 0x38 (R70). -/
  | tripRead (selector : Byte)
  /-- TRIP_RESET, kind 0x39 (R66). -/
  | tripReset (selector : Byte)
  /-- TRIP_CONTROL, kind 0x3A (R67). -/
  | tripControl (actionA actionB hours : Byte)
  /-- ODOMETER_READ, kind 0x3B (R54). -/
  | odometerRead
  /-- DRUM_READ, kind 0x3C (R62). -/
  | drumRead
  /-- DRUM_RESTART, kind 0x3D (R60). -/
  | drumRestart
  /-- SERVICE_CONFIGURE, kind 0x40 (R147). -/
  | serviceConfigure (item : Byte) (fields : ServiceFields)
  /-- SERVICE_READ, kind 0x41 (R150). -/
  | serviceRead (item : Byte)
  /-- SERVICE_RESET, kind 0x42 (R149). -/
  | serviceReset (item : Byte)
  deriving DecidableEq, Repr

end Sys2Proof
end

