-- ==== Sys2Proof/Decode.lean ====
section
/-!
DEFINITION. The commands that words spell. No row of spec/opcode_table.json gives bits: a command of the
part is an event, or a frame of characters on the link, and no word spells one (log entry 34).
-/
namespace Sys2Proof

/-- The command that a word of the table spells: none, since no row gives bits. -/
def decodeTableWord (_nbits _w : Nat) : Option Instr := none

end Sys2Proof
end

