-- ==== Sys2Proof/Config.lean ====
section
/-!
DEFINITION. What the data book fixes for every part, and the values it leaves open.

The opaque constants have no body: nothing can be proved of a value of theirs.
-/
namespace Sys2Proof.Config

/-- The word a device leaves where a word write failed or was cut off (R155, R166: "whatever the device
left"). FREE VALUE, log entry 9: the argument is a fresh number for each such word. -/
opaque leftWord : Nat → Word

/-- The rate of R8 over a span of 0 FREF counts, which R1 says never comes about and no rule gives.
FREE VALUE, log entry 10: the argument is the numerator of the quotient. -/
opaque rateAtZeroSpan : Nat → Nat

/-- Which write state a reading gives when an entry of a kind is in flight and another of it waits: the
waiting one or the one in flight (R54, R150, R159 give one state). FREE VALUE, log entry 35. -/
opaque reportWaiting : Bool

/-- EEPROM size in words (00_scope section 5). -/
def eepromWords : Nat := 128

/-- What a word of the EEPROM that nothing has written holds. DESIGN CHOICE, log entry 2. -/
def blankWord : Word := 0

/-- 0xA5A5, the sum of every record that carries a check word (00_scope section 8). -/
def checkSum : Nat := 0xA5A5

/-- The header marker of word 0 (9.2). -/
def headerMarker : Nat := 0x4E5A

/-- FREF counts per 1 ms tick: 256,000 Hz (00_scope section 5). -/
def frefPerTick : Nat := 256

/-- Part code and revision code of Status Read (R178). -/
def partCode : Word := 0x4810
def revisionCode : Byte := 1

/-- Full time of the linger timer, in ms (R162). -/
def lingerMs : Nat := 30000

/-- Length of the bulb check, in ms (R134). -/
def bulbCheckMs : Nat := 3000

/-- Length of the silent gap between passes, in ms (R125). -/
def gapMs : Nat := 200

/-- The sweep timeout, in ms (R87, R91). -/
def sweepTimeoutMs : Nat := 5000

/-- Debounce time of IGN, in ms (R20). -/
def ignDebounceMs : Nat := 50

/-- How long the port waits for EDO after a word command, in ms (R166). -/
def wordWaitMs : Nat := 25

/-- Highest odometer total, in DU, plus one: the total rolls to 0 here (R47). -/
def odometerModulus : Nat := 100000000

/-- Ceilings of the counts (4.1, R74, R140, R56, R161). -/
def tripDistanceMax : Nat := 9999999
def tripFuelMax : Nat := 16777215
def tripSecondsMax : Nat := 16777215
def basisFuelMax : Nat := 16777215
def sinceDuMax : Nat := 6553500
def sinceDaysMax : Nat := 4095
def sinceKrMax : Nat := 65535
def drumDebtMax : Nat := 65535
def offDurationMax : Nat := 16777215

end Sys2Proof.Config
end

