-- ==== Sys2Proof/Machine/State.lean ====
section
/-!
DEFINITION. The state of the NZ-4810, block by block (00_scope section 3), and the state right after
power-on reset.

Counts and times are `Nat`, in the unit the data book states; a timer that is stopped is `none`. A field
marked "the model's" is not the data book's: it says that an event is due and has not yet been taken
(log entry 5), or holds the place of a phase the data book counts in words (log entry 6).
-/
namespace Sys2Proof.Machine

/-! ## Time Base and Power Control -/

/-- The Time Base (00_scope section 3, R141). -/
structure TimeBase where
  /-- FREF at the latest tick (R1). -/
  fref : Stamp
  /-- FREF counts since that tick at the latest timestamped event. The model's (log entry 7). -/
  sub : BitVec 8
  /-- Ticks into the present second (R141). -/
  ms : Nat
  /-- Seconds-of-day count, 0 to 86,399 (R141). -/
  seconds : Nat
  /-- Day count, 0 to 65,535 (R141). -/
  days : Nat
  /-- Day ends not yet taken. The model's (log entry 5). -/
  dayEnds : Nat
  deriving DecidableEq, Repr

/-- The three power states of 9.1 to 9.4, with the part held in reset and INIT, which are none (R155). -/
inductive PowerState where
  | held | init | awakeOff | run | asleep
  deriving DecidableEq, Repr

/-- The linger timer (R162): stopped, running with the ms left, or expired. -/
inductive Linger where
  | stopped
  | running (ms : Nat)
  | expired
  deriving DecidableEq, Repr

/-- Power Control (R155 to R164). -/
structure PowerControl where
  state : PowerState
  linger : Linger
  /-- The off-duration in seconds, or unknown (R161). -/
  offDuration : Option Nat
  /-- The four start-up flags (R156). -/
  headerDefaulted : Bool
  ringEmpty : Bool
  serviceDefaulted : Bool
  clockLost : Bool
  /-- The straps as sampled at power-on reset (R155): high is yes. -/
  lrate : Bool
  drumfit : Bool
  deriving DecidableEq, Repr

/-- Where the vehicle constants in force came from (R159). -/
inductive Origin where
  | header | defaults | written
  deriving DecidableEq, Repr

/-- The vehicle constants in force (9.2). -/
structure Constants where
  kvss : Nat
  cinj : Nat
  ppr : Nat
  consumption : Nat
  reserve : Nat
  origin : Origin
  deriving DecidableEq, Repr

/-! ## Measurement inputs -/

/-- A pulse input: its settings and the state of its filter (1.1, R1 to R3). `selection` is no for a rising edge
or a low open level, yes for a falling edge or a high open level (R180): for SPD, TAC and IDX the level an active edge
leaves. -/
structure PulseInput where
  filterOn : Bool
  selection : Bool
  accepted : Bool
  /-- The pin level last seen (log entry 8). -/
  pin : Bool
  /-- The pending change (R1): the tick, or the command's moment, that found the pin away from the accepted level; none
  while the last found it there, and in a disabled input. -/
  pending : Option Stamp
  /-- The earliest that the next change can have begun its filter width (R1), the pin known to have stood at the accepted
  level then: an accepted change, the enabling, a restart, or a tick that found it there; but at the level of an active
  edge, where a change back that no row names may have come and gone, only a tick before it can have been accepted. None
  once that is a tick or more ago, longer than any two filter widths (log entry 30). -/
  stood : Option Stamp
  deriving DecidableEq, Repr

/-- The window state of SPD or TAC (1.2). -/
structure Window where
  n : Nat
  overrun : Bool
  tLast : Option Stamp
  tRef : Option Stamp
  pPrev : Option Nat
  /-- Loss timeout in FREF counts. -/
  loss : Nat
  deriving DecidableEq, Repr

/-- The Pulse Input Unit. -/
structure PulseUnit where
  spd : PulseInput
  tac : PulseInput
  inj : PulseInput
  idx : PulseInput
  spdWindow : Window
  tacWindow : Window
  /-- On-time gathered in the open window up to `injMark` (R9). -/
  onTime : Nat
  injMark : Stamp
  /-- Ticks since the last window boundary (R10). -/
  windowClock : Nat
  deriving DecidableEq, Repr

/-- The sampler's settings and state of one analog input (1.6, R17). -/
structure AnalogInput where
  curve : Option (Fin 12)
  low : Nat
  high : Nat
  decimation : Nat
  shift : Nat
  threshold : Nat
  outCount : Nat
  inCount : Nat
  sum : Nat
  count : Nat
  filter : Nat
  armed : Bool
  /-- A conversion is due. The model's (log entry 5). -/
  due : Bool
  deriving DecidableEq, Repr

/-- The Analog Sampler (1.6). -/
structure Sampler where
  inputs : Vector AnalogInput 6
  /-- Ticks since the last conversion (R11). -/
  clock : Nat
  deriving DecidableEq, Repr

/-- A discrete input (1.9). -/
structure Discrete where
  activeHigh : Bool
  debounce : Nat
  wake : Bool
  level : Bool
  timer : Nat
  /-- The level as sampled at the last tick (R22). -/
  pin : Bool
  /-- The timer has reached the debounce time. The model's (log entry 5). -/
  due : Bool
  deriving DecidableEq, Repr

/-- The ignition line (R20). -/
structure Ignition where
  level : Bool
  timer : Nat
  pin : Bool
  deriving DecidableEq, Repr

/-- The Discrete Inputs. -/
structure DiscreteUnit where
  inputs : Vector Discrete 12
  ign : Ignition
  deriving DecidableEq, Repr

/-! ## Channels and curves -/

/-- The validities of 2.1. -/
inductive Validity where
  | valid | held | fault | absent | stale
  deriving DecidableEq, Repr

/-- A channel record (2.1); the presented face is derived from it (R23). -/
structure Channel where
  value : Nat
  validity : Validity
  hold : Option Nat
  deriving DecidableEq, Repr

/-- Freshness of an EXT channel: the setting in 100 ms units and the ms left (2.1). -/
structure Freshness where
  setting : Nat
  timer : Option Nat
  deriving DecidableEq, Repr

/-- The Channel Table. -/
structure ChannelTable where
  records : Vector Channel 16
  freshness : Vector Freshness 5
  deriving DecidableEq, Repr

/-- A curve: its points in order of x, none when it is empty (2.8). -/
abbrev Curve := List (Nat × Nat)

/-! ## Distance, fuel and the odometer -/

/-- The Accumulator Unit (3.1, R50). -/
structure Accumulators where
  rd : Nat
  rf : Nat
  rr : Nat
  total : Nat
  rs : Nat
  /-- The ring's newest slot, or none (R50). -/
  newestSlot : Option (Fin 8)
  newestValue : Nat
  deriving DecidableEq, Repr

/-- The states of the drum (3.7). -/
inductive DrumState where
  | absent | idle | stepping | fault
  deriving DecidableEq, Repr

/-- The Drum Drive (3.7). -/
structure Drum where
  state : DrumState
  debt : Nat
  lost : Bool
  p : Nat
  indexKnown : Bool
  missCount : Nat
  sinceIndex : Nat
  phase : Nat
  coils : Bool
  /-- Ticks since the last step, or since the coils were energised for one (R57). -/
  clock : Nat
  /-- A step has been taken since the coils were energised, so that `clock` counts from the last step (R57). The
  model's: before it the last step, if there was one, is more than the coil hold ago. -/
  stepped : Bool
  /-- 24 steps have gone without an index and the miss has not been taken. The model's (log entry 5). -/
  missDue : Bool
  deriving DecidableEq, Repr

/-! ## The trip computer -/

/-- A trip record (4.1). -/
structure Trip where
  distance : Nat
  fuel : Nat
  seconds : Nat
  paused : Bool
  saturated : Bool
  deriving DecidableEq, Repr

/-- The Trip Computer (chapter 4). -/
structure TripComputer where
  a : Trip
  b : Trip
  /-- Auto-reset hours, 0 for off (R67). -/
  hours : Nat
  /-- The trip second clock in ms, or stopped (R65). -/
  clock : Option Nat
  /-- The flow history, oldest first (R71). -/
  history : List Nat
  rbDist : Nat
  rbFuel : Nat
  /-- P, the presented range, or absent (R76). -/
  presented : Option Nat
  deriving DecidableEq, Repr

/-! ## Pointer gauges -/

/-- The settings of a gauge (5.1). -/
structure GaugeConfig where
  source : Option (Fin 16)
  curve : Option (Fin 12)
  rest : Nat
  faultRest : Bool
  rLo : Nat
  rHi : Nat
  accel : Nat
  deadband : Nat
  sweep : Bool
  deriving DecidableEq, Repr

/-- The modes of a gauge (5.5). -/
inductive GaugeMode where
  | parked | armed | sweepUp | sweepDown | tracking | returning
  deriving DecidableEq, Repr

/-- The drive of one coil (R84). -/
structure Coil where
  duty : Nat
  negative : Bool
  deriving DecidableEq, Repr

/-- A gauge: settings, motion state and coil drive as R84 last set it. -/
structure Gauge where
  config : GaugeConfig
  mode : GaugeMode
  p : Nat
  v : Nat
  down : Bool
  target : Nat
  sine : Coil
  cosine : Coil
  deriving DecidableEq, Repr

/-- How the sweep was started (R88). -/
inductive SweepCause where
  | none | request | delay | sync
  deriving DecidableEq, Repr

/-- The sweep state (5.6). -/
structure Sweep where
  /-- The auto-sweep delay, in 10 ms units. -/
  delay : Nat
  delayTimer : Option Nat
  timeout : Option Nat
  isOpen : Bool
  completed : Vector Bool 6
  cause : SweepCause
  deriving DecidableEq, Repr

/-- The Gauge Unit. -/
structure GaugeUnit where
  gauges : Vector Gauge 6
  sweep : Sweep
  /-- Ticks since the last motion step (R81). -/
  clock : Nat
  /-- The part's own SYNC pulse: the ms left of it, or none when the line is released (R88). -/
  syncPulse : Option Nat
  /-- The SYNC line through its filter (R89), whose settings are fixed: filter ON, active edge falling. -/
  sync : PulseInput
  deriving DecidableEq, Repr

/-! ## Monitors -/

/-- The states of a monitor (6.1). -/
inductive MonitorState where
  | off | clear | pending | active | releasing
  deriving DecidableEq, Repr

/-- A snapshot (R108). -/
structure Snapshot where
  total : Nat
  value : Nat
  validity : Validity
  deriving DecidableEq, Repr

/-- A monitor: its settings as Monitor Configure carried them, and the items of 6.1. -/
structure Monitor where
  config : MonitorFields
  state : MonitorState
  acked : Bool
  raw : Bool
  assertTimer : Option Nat
  releaseTimer : Option Nat
  reminderTimer : Option Nat
  snapshot : Option Snapshot
  /-- The source as the last evaluation read it (R108). The model's (log entry 26). -/
  reading : Nat × Validity
  /-- An evaluation is due. The model's (log entry 5). -/
  due : Bool
  deriving DecidableEq, Repr

/-- The Monitor Table, with the evaluation clock in ms, or stopped (R100). -/
structure MonitorTable where
  monitors : Vector Monitor 16
  clock : Option Nat
  deriving DecidableEq, Repr

/-! ## Chimes and lamps -/

/-- A step of a pattern: tone code 0 to 4 and duration in 10 ms units (7.3). -/
structure ToneStep where
  tone : Nat
  duration : Nat
  deriving DecidableEq, Repr

/-- The stop order of a playing request (7.1). -/
inductive StopOrder where
  | none | cut | withdraw
  deriving DecidableEq, Repr

/-- A chime request (7.1); its stamp is its place in the queue (R119). -/
structure ChimeRequest where
  source : Fin 26
  pattern : Fin 12
  priority : Nat
  passes : Nat
  playing : Bool
  reposted : Bool
  stop : StopOrder
  deriving DecidableEq, Repr

/-- The sequencer (7.1): idle, playing the copied steps at a step with ms left in it, or in the gap. -/
inductive Sequencer where
  | idle
  | playing (steps : List ToneStep) (step : Nat) (left : Nat)
  | gap (left : Nat)
  deriving DecidableEq, Repr

/-- The Chime Sequencer: requests oldest stamp first, and the loadable patterns P8 to P11. -/
structure ChimeUnit where
  queue : List ChimeRequest
  sequencer : Sequencer
  loaded : Vector (List ToneStep) 4
  deriving DecidableEq, Repr

/-- The mode of a claim (7.6). -/
inductive LampMode where
  | on | flash
  deriving DecidableEq, Repr

/-- The flash clock (R135): the half now running and the ms into it. -/
structure FlashClock where
  lit : Bool
  ms : Nat
  deriving DecidableEq, Repr

/-- The claim set of a lamp: the claim of each source code 0 to 22, if it has one (7.6). -/
abbrev ClaimSet := Vector (Option LampMode) 23

/-- The Lamp Unit. -/
structure LampUnit where
  claims : Vector ClaimSet 12
  /-- The bulb check: the ms left, or not running (R134). -/
  bulbCheck : Option Nat
  flash : Option FlashClock
  /-- The ON-phase duty (R136). -/
  duty : Nat
  dimming : Option (Fin 12)
  /-- Ticks since the last duty setting (R136). -/
  dutyClock : Nat
  deriving DecidableEq, Repr

/-! ## The service schedule -/

/-- The states and levels of a service item (8.1). -/
inductive ServiceState where
  | disabled | ok | early | due | overdue
  deriving DecidableEq, Repr

/-- A service item (8.1): its settings as Service Configure carried them, its counts and its state. -/
structure ServiceItem where
  config : ServiceFields
  sinceDu : Nat
  sinceDays : Nat
  sinceKr : Nat
  state : ServiceState
  deriving DecidableEq, Repr

/-! ## The EEPROM port -/

/-- The EEPROM's words, in canonical form: addresses strictly rising, and no entry equal to the blank
word an unlisted address holds. -/
abbrev Memory := List (Nat × Word)

/-- An entry of the write queue (9.6). -/
inductive Entry where
  | odometer (value : Nat)
  | service
  | header
  | host (address : Nat) (value : Word)
  deriving DecidableEq, Repr

/-- What the write in flight stores when its last word completes. -/
inductive FlightKind where
  | odometer (slot : Fin 8) (value : Nat)
  | service
  | header
  | host
  deriving DecidableEq, Repr

/-- The write in flight: the words not yet completed, the first being the one commanded, and the ms since
its command, counted up to 26 (R166). -/
structure Flight where
  kind : FlightKind
  words : List (Nat × Word)
  wait : Nat
  deriving DecidableEq, Repr

/-- The EEPROM Port and the device's contents. -/
structure EepromPort where
  memory : Memory
  queue : List Entry
  flight : Option Flight
  deriving DecidableEq, Repr

/-! ## The link -/

/-- A complete frame: its kind, its payload, whether its check is good, and whether its CHECK arrived
during INIT (R172, R174). -/
structure Frame where
  kind : Byte
  payload : List Byte
  good : Bool
  inInit : Bool
  deriving DecidableEq, Repr

/-- The receive assembler (R171): in BODY, the bytes taken since the lead byte and the number still
expected. -/
inductive Assembler where
  | hunt
  | count
  | body (taken : List Byte) (expected : Nat)
  deriving DecidableEq, Repr

/-- The Link Controller but for the Notice Queue. -/
structure Link where
  assembler : Assembler
  /-- Ticks since the last character of a frame (R171). -/
  gap : Nat
  /-- The link request queue (R172). -/
  queue : List Frame
  /-- The characters of the reply being sent, or none (R173). -/
  reply : Option (List Byte)
  deriving DecidableEq, Repr

/-- The 44 keys of the Notice Queue (10.4). -/
inductive NoticeKey where
  | monitor (m : Fin 16)
  | service (k : Fin 6)
  | channel (c : Fin 16)
  | drum
  | store
  | sweep
  | power
  | startup
  | trip
  deriving DecidableEq, Repr

/-- A notice (10.4). -/
structure Notice where
  key : NoticeKey
  value : Word
  deriving DecidableEq, Repr

/-! ## The whole machine -/

/-- Every piece of state of the part, the EEPROM's contents, and the commands waiting. -/
structure State where
  time : TimeBase
  power : PowerControl
  consts : Constants
  pulse : PulseUnit
  sampler : Sampler
  discretes : DiscreteUnit
  channels : ChannelTable
  curves : Vector Curve 12
  accum : Accumulators
  drum : Drum
  trip : TripComputer
  gauge : GaugeUnit
  monitor : MonitorTable
  chime : ChimeUnit
  lamp : LampUnit
  service : Vector ServiceItem 6
  eeprom : EepromPort
  link : Link
  /-- The Notice Queue, in the order of first posting (R175). -/
  notices : List Notice
  /-- How many free words have been drawn. The model's (log entry 9). -/
  freeCount : Nat
  /-- The commands that are waiting, first in, first out. The model's. -/
  pending : List Instr
  deriving DecidableEq, Repr

/-- No command of the data book stops the machine: every row has an effect or changes nothing. -/
inductive Fault where
  deriving DecidableEq, Repr

/-- Why a command is refused by the model. -/
inductive Refusal where
  /-- Raised by an arm of `exec` whose row has no meaning yet: none does so. Safe. -/
  | notModelled (mnemonic : String)
  deriving DecidableEq, Repr

/-! ## Power-on reset -/

/-- The default constants of 9.2. -/
def Constants.initial : Constants :=
  { kvss := 5000, cinj := 9000, ppr := 6, consumption := 150, reserve := 60, origin := .defaults }

/-- A pulse input after power-on reset (1.1), its pin found low. DESIGN CHOICE (log entry 39): the data book gives no
accepted level before the input is first enabled; the model holds low, whatever level POWER_ON_RESET samples. -/
def PulseInput.initial : PulseInput :=
  { filterOn := true, selection := false, accepted := false, pin := false, pending := none, stood := none }

/-- The window state after power-on reset (1.2). -/
def Window.initial : Window :=
  { n := 0, overrun := false, tLast := none, tRef := none, pPrev := none, loss := 256000 }

/-- The PIU after power-on reset (R10). -/
def PulseUnit.initial : PulseUnit :=
  { spd := .initial, tac := .initial, inj := .initial, idx := .initial,
    spdWindow := .initial, tacWindow := .initial, onTime := 0, injMark := 0, windowClock := 0 }

/-- An analog input after power-on reset (1.6, R17, R18). -/
def AnalogInput.initial : AnalogInput :=
  { curve := none, low := 0, high := 1023, decimation := 5, shift := 3, threshold := 0,
    outCount := 0, inCount := 0, sum := 0, count := 0, filter := 0, armed := false, due := false }

/-- A discrete input after power-on reset (1.9), its pin found low. -/
def Discrete.initial : Discrete :=
  { activeHigh := false, debounce := 20, wake := false, level := false, timer := 0, pin := false, due := false }

/-- The channel records after power-on reset (2.5). -/
def ChannelTable.initial : ChannelTable :=
  { records :=
      ⟨#[⟨0, .valid, none⟩, ⟨0, .valid, none⟩, ⟨0, .absent, none⟩, ⟨0, .absent, none⟩,
         ⟨0, .absent, none⟩, ⟨0, .absent, none⟩, ⟨0, .absent, none⟩, ⟨0, .absent, none⟩,
         ⟨0, .valid, none⟩, ⟨0, .absent, none⟩, ⟨0, .absent, none⟩, ⟨0, .absent, none⟩,
         ⟨0, .absent, none⟩, ⟨0, .absent, none⟩, ⟨0, .absent, none⟩, ⟨0, .absent, none⟩], rfl⟩,
    freshness := Vector.replicate 5 ⟨0, none⟩ }

/-- The Accumulator Unit after power-on reset, before the ring is read (3.1, R46). -/
def Accumulators.initial : Accumulators :=
  { rd := 0, rf := 0, rr := 0, total := 0, rs := 0, newestSlot := none, newestValue := 0 }

/-- The drum after power-on reset with the given DRUMFIT strap (3.7, R55). -/
def Drum.initial (fitted : Bool) : Drum :=
  { state := if fitted then .idle else .absent, debt := 0, lost := false, p := 0, indexKnown := false,
    missCount := 0, sinceIndex := 0, phase := 0, coils := false, clock := 0, stepped := false, missDue := false }

/-- A trip after power-on reset (4.11). -/
def Trip.initial : Trip :=
  { distance := 0, fuel := 0, seconds := 0, paused := false, saturated := false }

/-- The Trip Computer after power-on reset (4.11); the range basis stands on the default constants until
INIT has read the header (R74, log entry 4). -/
def TripComputer.initial : TripComputer :=
  { a := .initial, b := .initial, hours := 0, clock := none, history := [],
    rbDist := 10000, rbFuel := 15000, presented := none }

/-- The default settings of a gauge (5.1). -/
def GaugeConfig.initial : GaugeConfig :=
  { source := none, curve := none, rest := 0, faultRest := false, rLo := 16, rHi := 128, accel := 8,
    deadband := 8, sweep := false }

/-- A coil that is off after power-on reset (R99). DESIGN CHOICE (log entry 41): its polarity, which no rule gives
before the first drive, is positive. -/
def Coil.off : Coil := { duty := 0, negative := false }

/-- A gauge after power-on reset (R99). -/
def Gauge.initial : Gauge :=
  { config := .initial, mode := .parked, p := 0, v := 0, down := false, target := 0,
    sine := .off, cosine := .off }

/-- The Gauge Unit after power-on reset (5.6, R99), SYNC found low and its accepted level low until RUN entry, as with
the pulse inputs (log entries 3 and 39). DESIGN CHOICE (log entry 44): a pulse of the part's own in progress is cut off,
and the line released at once. -/
def GaugeUnit.initial : GaugeUnit :=
  { gauges := Vector.replicate 6 .initial,
    sweep := { delay := 0, delayTimer := none, timeout := none, isOpen := false,
               completed := Vector.replicate 6 false, cause := .none },
    clock := 0, syncPulse := none, sync := { PulseInput.initial with selection := true } }

/-- The default settings of a monitor (6.1); log entry 24 for the bytes that "none" leaves unused. -/
def monitorDefaults : MonitorFields :=
  { enabled := 0, srcKind := 0, srcIndex := 0, method := 0, setLo := 0, setHi := 0, hyst := 0,
    q1Kind := 0, q1Index := 0, q2Kind := 0, q2Index := 0, assertDelay := 0, releaseDelay := 0,
    faultSense := 1, runIn := 0, latching := 0, lamp := 255, lampMode := 0, pattern := 255,
    priority := 0, passes := 0, reminder := 0, notice := 0, snapshot := 0 }

/-- A monitor after power-on reset (R118). -/
def Monitor.initial : Monitor :=
  { config := monitorDefaults, state := .off, acked := false, raw := false, assertTimer := none,
    releaseTimer := none, reminderTimer := none, snapshot := none, reading := (0, .valid), due := false }

/-- The default settings of a service item (8.1); log entry 24 for the bytes that "none" leaves unused. -/
def serviceDefaults : ServiceFields :=
  { enabled := 0, km := 0, days := 0, mrev := 0, margin := 10, grace := 10, lamp := 255,
    pattern := 255, priority := 0, passes := 0 }

/-- A service item after power-on reset, before the service block is read (R154). DESIGN CHOICE (log entry 4): its
since counts, which the data book gives no value before that read, are 0. -/
def ServiceItem.initial : ServiceItem :=
  { config := serviceDefaults, sinceDu := 0, sinceDays := 0, sinceKr := 0, state := .disabled }

/-- The part right after power-on reset, held in reset, with every sampled pin and strap low and a blank
EEPROM (R155; log entries 1 to 4). -/
def State.reset : State :=
  { time := { fref := 0, sub := 0, ms := 0, seconds := 0, days := 0, dayEnds := 0 },
    power := { state := .held, linger := .stopped, offDuration := none, headerDefaulted := false,
               ringEmpty := false, serviceDefaulted := false, clockLost := false, lrate := false,
               drumfit := false },
    consts := .initial,
    pulse := .initial,
    sampler := { inputs := Vector.replicate 6 .initial, clock := 0 },
    discretes := { inputs := Vector.replicate 12 .initial,
                   ign := { level := false, timer := 0, pin := false } },
    channels := .initial,
    curves := Vector.replicate 12 [],
    accum := .initial,
    drum := .initial false,
    trip := .initial,
    gauge := .initial,
    monitor := { monitors := Vector.replicate 16 .initial, clock := none },
    chime := { queue := [], sequencer := .idle, loaded := Vector.replicate 4 [] },
    lamp := { claims := Vector.replicate 12 (Vector.replicate 23 none), bulbCheck := none, flash := none,
              duty := 255, dimming := none, dutyClock := 0 },
    service := Vector.replicate 6 .initial,
    eeprom := { memory := [], queue := [], flight := none },
    link := { assembler := .hunt, gap := 0, queue := [], reply := none },
    notices := [],
    freeCount := 0,
    pending := [] }

end Sys2Proof.Machine
end

