-- ==== Sys2Proof/Machine/Ops.lean ====
section
/-!
DEFINITION. The named operations over registers, words and the Notice Queue that every block shares.
-/
namespace Sys2Proof.Machine

/-! ## Like things in a row -/

/-- Every member of a row changed by `f`. -/
def vmap {α β : Type} {n : Nat} (f : α → β) (v : Vector α n) : Vector β n :=
  ⟨(v.toList.map f).toArray, by simp⟩

/-- Member `i` of a row changed by `f`. -/
def vmod {α : Type} {n : Nat} (v : Vector α n) (i : Fin n) (f : α → α) : Vector α n :=
  v.set i (f v[i])

/-- The index `k` of a row of `n`, when it is within the stated count (00_scope section 8). -/
def index? (n k : Nat) : Option (Fin n) :=
  if h : k < n then some ⟨k, h⟩ else none

/-! ## Arithmetic -/

/-- Round to nearest, an exact half up, of `a / b` (00_scope section 8). -/
def roundDiv (a b : Nat) : Nat := (2 * a + b) / (2 * b)

/-- One more, but for a count that stands at its ceiling (00_scope section 8). -/
def bump (n ceiling : Nat) : Nat := if n < ceiling then n + 1 else n

/-- One tick off a running timer; a stopped timer stays stopped, one at 0 stays due (log entry 5). -/
def countDown (t : Option Nat) : Option Nat := t.map (· - 1)

/-! ## The EEPROM's words -/

/-- The word the device holds at an address. -/
def readWord : Memory → Nat → Word
  | [], _ => Config.blankWord
  | (b, x) :: m, a => if a = b then x else readWord m a

/-- The device's contents once a word is stored at an address, in canonical form. -/
def writeWord : Memory → Nat → Word → Memory
  | [], a, w => if w = Config.blankWord then [] else [(a, w)]
  | (b, x) :: m, a, w =>
    if a < b then (if w = Config.blankWord then (b, x) :: m else (a, w) :: (b, x) :: m)
    else if a = b then (if w = Config.blankWord then m else (a, w) :: m)
    else (b, x) :: writeWord m a w

/-- The canonical form from address `lo` upward. -/
def wfFrom : Nat → Memory → Bool
  | _, [] => true
  | lo, (b, x) :: m => decide (lo ≤ b) && decide (x ≠ Config.blankWord) && wfFrom (b + 1) m

/-- The contents are in canonical form: addresses strictly rising, no word listed that is blank. -/
def memoryWf (m : Memory) : Bool := wfFrom 0 m

/-! ## The Notice Queue -/

/-- A posting (R175): the value replaces that of a pending notice of the same key in place, or else a
new notice joins at the back. -/
def postNotice (key : NoticeKey) (value : Word) (q : List Notice) : List Notice :=
  if q.any (fun n => n.key = key) then q.map (fun n => if n.key = key then { n with value := value } else n)
  else q ++ [{ key := key, value := value }]

/-- A posting by a block (R175). -/
def State.notify (s : State) (key : NoticeKey) (value : Word) : State :=
  { s with notices := postNotice key value s.notices }

/-- ATTN is low exactly while the queue is not empty (R175, R176). -/
def State.attnLow (s : State) : Bool := !s.notices.isEmpty

/-! ## Power states and time -/

/-- RUN (9.3). -/
def State.inRun (s : State) : Bool := s.power.state == .run

/-- RUN or AWAKE_OFF: the part is awake (chapter 9). -/
def State.awake (s : State) : Bool := s.power.state == .run || s.power.state == .awakeOff

/-- The FREF count at the latest timestamped event of the present tick (R1, log entry 7). -/
def State.now (s : State) : Stamp := s.time.fref + s.time.sub.setWidth 24

/-- Time moved on to `sub` counts into the present tick; it never moves back (log entry 7). -/
def State.advance (s : State) (sub : BitVec 8) : State :=
  { s with time := { s.time with sub := if s.time.sub ≤ sub then sub else s.time.sub } }

/-- A difference of two FREF timestamps, taken modulo 2^24 (00_scope section 8). -/
def span (later earlier : Stamp) : Nat := (later - earlier).toNat

/-! ## The Channel Table -/

/-- The top of a channel's stated range (00_scope section 5.1). -/
def channelTop (c : Fin 16) : Nat :=
  match c.val with
  | 0 => 3000
  | 1 => 9999
  | 3 => 255
  | 6 => 255
  | 7 => 255
  | 8 => 9999
  | 9 => 999
  | 10 => 1999
  | _ => 65535

/-- The validity codes of 2.1. -/
def validityCode (v : Validity) : Nat :=
  match v with
  | .valid => 0
  | .held => 1
  | .fault => 2
  | .absent => 3
  | .stale => 4

/-- A write of a channel's measured face (R24): a part not named keeps what it had, a value above the
range is clamped, and a change of validity posts a CHANNEL notice (R25). -/
def State.writeChannel (s : State) (c : Fin 16) (value : Option Nat) (validity : Option Validity) : State :=
  let r := s.channels.records[c]
  let r' : Channel :=
    { r with value := match value with
                      | some x => min x (channelTop c)
                      | none => r.value,
             validity := validity.getD r.validity }
  let s := { s with channels := { s.channels with records := s.channels.records.set c r' } }
  if r'.validity = r.validity then s
  else s.notify (.channel c) (BitVec.ofNat 16 (validityCode r'.validity))

/-- A channel's measured value and validity. -/
def State.measured (s : State) (c : Fin 16) : Nat × Validity :=
  (s.channels.records[c].value, s.channels.records[c].validity)

/-- A channel's presented value and validity (R23). -/
def Channel.presented (r : Channel) : Nat × Validity :=
  match r.hold with
  | some h => (h, .held)
  | none => (r.value, r.validity)

/-- The car stands: measured SPEED is 0 with validity VALID (R149, R158). -/
def State.standing (s : State) : Bool := s.measured 0 == (0, .valid)

end Sys2Proof.Machine
end

