-- ==== Sys2Proof/Machine/Operands.lean ====
section
/-!
DEFINITION. The fields of frames: how numbers and settings are coded in bytes (R179, R180, R182).
-/
namespace Sys2Proof.Machine

/-- One byte of a number. -/
def byte (n : Nat) : Byte := BitVec.ofNat 8 n

/-- A number in two bytes, most significant first (R179). -/
def bytes2 (n : Nat) : List Byte := [byte (n / 256), byte n]

/-- A number in four bytes, most significant first (R179). -/
def bytes4 (n : Nat) : List Byte := [byte (n / 16777216), byte (n / 65536), byte (n / 256), byte n]

/-- A word in two bytes, most significant first (R179). -/
def wordBytes (w : Word) : List Byte := [w.extractLsb' 8 8, w.extractLsb' 0 8]

/-- The word of two bytes, most significant first (R180). -/
def wordOf (hi lo : Byte) : Word := hi ++ lo

/-- A mark is 1 for yes and 0 for no (R182). -/
def mark (b : Bool) : Byte := if b then 1 else 0

/-- Flags in one byte, the first in bit 0. -/
def flagByte (bits : List Bool) : Byte :=
  byte (bits.foldr (fun b acc => (if b then 1 else 0) + 2 * acc) 0)

/-- A timer or figure in two bytes; all ones when stopped or absent (R182). -/
def optional2 (t : Option Nat) : List Byte := bytes2 (t.getD 65535)

/-- A timer in four bytes; all ones when stopped (R182). -/
def optional4 (t : Option Nat) : List Byte := bytes4 (t.getD 4294967295)

/-- An index, or 255 for none (R180). -/
def indexByte {n : Nat} (i : Option (Fin n)) : Byte :=
  match i with
  | some k => byte k.val
  | none => 255

/-- A one-byte field that is an index below `n` or 255 for none (R180): none when it is neither. -/
def optionalIndex (n : Nat) (b : Byte) : Option (Option (Fin n)) :=
  if b = 255 then some none else (index? n b.toNat).map some

/-- The drum states' codes (R181). -/
def drumCode (d : DrumState) : Nat :=
  match d with
  | .absent => 0
  | .idle => 1
  | .stepping => 2
  | .fault => 3

/-- The monitor states' codes (6.1). -/
def monitorCode (m : MonitorState) : Nat :=
  match m with
  | .off => 0
  | .clear => 1
  | .pending => 2
  | .active => 3
  | .releasing => 4

/-- The service states' codes (8.1). -/
def serviceCode (x : ServiceState) : Nat :=
  match x with
  | .disabled => 0
  | .ok => 1
  | .early => 2
  | .due => 3
  | .overdue => 4

/-- The gauge modes' codes (R182). -/
def modeCode (m : GaugeMode) : Nat :=
  match m with
  | .parked => 0
  | .armed => 1
  | .sweepUp => 2
  | .sweepDown => 3
  | .tracking => 4
  | .returning => 5

/-- The start causes' codes (R92). -/
def causeCode (c : SweepCause) : Nat :=
  match c with
  | .none => 0
  | .request => 1
  | .delay => 2
  | .sync => 3

/-- The stop orders' codes (R182). -/
def stopCode (o : StopOrder) : Nat :=
  match o with
  | .none => 0
  | .cut => 1
  | .withdraw => 2

/-- The lamp claims' codes: 0 none, 1 ON, 2 FLASH (R182). -/
def claimCode (c : Option LampMode) : Nat :=
  match c with
  | none => 0
  | some .on => 1
  | some .flash => 2

/-- The origins' codes (R182). -/
def originCode (o : Origin) : Nat :=
  match o with
  | .header => 0
  | .defaults => 1
  | .written => 2

/-- The power states' codes (R163, R178). -/
def powerCode (p : PowerState) : Nat :=
  match p with
  | .awakeOff => 1
  | .run => 2
  | _ => 0

end Sys2Proof.Machine
end

