-- ==== Sys2Proof/Machine/Flags.lean ====
section
/-!
DEFINITION. The flags the part raises in notices: the value of each kind of notice (R181).
-/
namespace Sys2Proof.Machine

/-- The value of a notice of the given high and low bytes (R181). -/
def noticeValue (hi lo : Byte) : Word := wordOf hi lo

/-- MONITOR: acknowledged and snapshot-held flags, and the state (R107, R181). -/
def Monitor.noticeWord (m : Monitor) : Word :=
  noticeValue (flagByte [m.acked, m.snapshot.isSome]) (byte (monitorCode m.state))

/-- DRUM: the lost flag and the state (R61, R181). -/
def Drum.noticeWord (d : Drum) : Word :=
  noticeValue (flagByte [d.lost]) (byte (drumCode d.state))

/-- STORE: the address of the failed word (R166, R181). -/
def storeWord (address : Nat) : Word := noticeValue 0 (byte address)

/-- The completed mask, bit k for Gk (R92). -/
def Sweep.mask (w : Sweep) : Byte := flagByte w.completed.toList

/-- SWEEP: the start cause and the completed mask (R92, R181). -/
def Sweep.noticeWord (w : Sweep) : Word := noticeValue (byte (causeCode w.cause)) w.mask

/-- POWER: the cause and the new power state (R163, R181). -/
def powerWord (cause : Nat) (state : PowerState) : Word := noticeValue (byte cause) (byte (powerCode state))

/-- The start-up flags of STARTUP and Status Read (R156, R181). -/
def PowerControl.startupByte (p : PowerControl) : Byte :=
  flagByte [p.headerDefaulted, p.ringEmpty, p.serviceDefaulted, p.clockLost]

/-- STARTUP (R156, R181). -/
def PowerControl.startupWord (p : PowerControl) : Word := noticeValue 0 p.startupByte

/-- TRIP: the off-duration in whole minutes, clamped to 65,535 (R68, R181). -/
def tripWord (off : Nat) : Word := BitVec.ofNat 16 (min (off / 60) 65535)

end Sys2Proof.Machine
end

