-- ==== Sys2Proof/Machine/Channels.lean ====
section
/-!
DEFINITION. The Channel Table and the Curve Store (chapter 2): holds, the external channels, freshness,
and the loading and evaluation of curves.
-/
namespace Sys2Proof.Machine

/-! ## Answers to requests -/

/-- The result codes of R174. -/
inductive Result where
  | ok | busy | conditions | badArgument | unknownKind | notReady | length
  deriving DecidableEq, Repr

/-- The codes of the results (R174). -/
def Result.code (r : Result) : Byte :=
  match r with
  | .ok => 0
  | .busy => 1
  | .conditions => 2
  | .badArgument => 3
  | .unknownKind => 4
  | .notReady => 5
  | .length => 6

/-- What serving a request gives: the state it leaves, the result, and the fields after the result byte. -/
structure Answer where
  state : State
  result : Result
  data : List Byte

/-- A request carried out, with no field after the result (R182). -/
def accepted (s : State) : Answer := { state := s, result := .ok, data := [] }

/-- A request answered with data, changing nothing. -/
def reading (s : State) (data : List Byte) : Answer := { state := s, result := .ok, data := data }

/-- A refused request changes nothing in the part (R174). -/
def refuse (s : State) (r : Result) : Answer := { state := s, result := r, data := [] }

/-! ## Holds and the external channels -/

/-- The channel of EXT_(e+1). -/
def extChannel (e : Fin 5) : Fin 16 := ⟨11 + e.val, by omega⟩

/-- The EXT channel that a channel number names (R30, R32). -/
def ext? (channel : Byte) : Option (Fin 5) :=
  if 11 ≤ channel.toNat then index? 5 (channel.toNat - 11) else none

/-- A channel's hold set or removed (R27 to R29). -/
def State.setHold (s : State) (c : Fin 16) (h : Option Nat) : State :=
  { s with channels := { s.channels with records := vmod s.channels.records c fun r => { r with hold := h } } }

/-- Every hold removed (R29). -/
def State.clearHolds (s : State) : State :=
  { s with channels :=
      { s.channels with records := vmap (fun r : Channel => { r with hold := none }) s.channels.records } }

/-- The freshness timer of an EXT channel set. -/
def State.setFreshness (s : State) (e : Fin 5) (f : Freshness) : State :=
  { s with channels := { s.channels with freshness := s.channels.freshness.set e f } }

/-- Channel Hold (R27). DESIGN CHOICE (log entry 43): a bad channel number outside RUN is answered
BAD_ARGUMENT. -/
def serveChannelHold (channel : Byte) (value : Word) (s : State) : Answer :=
  match index? 16 channel.toNat with
  | none => refuse s .badArgument
  | some c =>
    if s.inRun then accepted (s.setHold c (some (min value.toNat (channelTop c))))
    else refuse s .conditions

/-- Channel Release (R28). -/
def serveChannelRelease (channel : Byte) (s : State) : Answer :=
  match index? 16 channel.toNat with
  | none => refuse s .badArgument
  | some c => accepted (s.setHold c none)

/-- The timer a setting starts: its full time, or stopped for 0 (R30). -/
def freshnessStart (setting : Nat) : Option Nat := if setting = 0 then none else some (setting * 100)

/-- Channel Put (R30). -/
def serveChannelPut (channel : Byte) (value : Word) (s : State) : Answer :=
  match ext? channel with
  | none => refuse s .badArgument
  | some e =>
    let f := s.channels.freshness[e]
    accepted ((s.writeChannel (extChannel e) (some value.toNat) (some .valid)).setFreshness e
      { f with timer := freshnessStart f.setting })

/-- External Channel Configure (R32). -/
def serveExternalChannelConfigure (channel freshness withdraw : Byte) (s : State) : Answer :=
  match ext? channel with
  | none => refuse s .badArgument
  | some e =>
    let setting := freshness.toNat
    if withdraw ≠ 0 then
      accepted ((s.writeChannel (extChannel e) none (some .absent)).setFreshness e
        { setting := setting, timer := none })
    else if s.channels.records[extChannel e].validity = .valid then
      accepted (s.setFreshness e { setting := setting, timer := freshnessStart setting })
    else accepted (s.setFreshness e { setting := setting, timer := none })

/-- The freshness timers count on the tick (R31). -/
def State.tickFreshness (s : State) : State :=
  { s with channels := { s.channels with
      freshness := vmap (fun f : Freshness => { f with timer := countDown f.timer }) s.channels.freshness } }

/-- Expiry of a freshness timer (R31); a timer that is not at 0 has not expired (log entry 5). -/
def State.expireFreshness (s : State) (e : Fin 5) : State :=
  let f := s.channels.freshness[e]
  if f.timer = some 0 then
    (s.writeChannel (extChannel e) none (some .stale)).setFreshness e { f with timer := none }
  else s

/-- The EXT channels after Soft Restart (R33). -/
def State.restartExt (s : State) : State :=
  (List.finRange 5).foldl
    (fun s e => (s.writeChannel (extChannel e) (some 0) (some .absent)).setFreshness e
      { setting := 0, timer := none }) s

/-- One record of a Channel Read reply (R34, R181). -/
def channelRecord (s : State) (c : Fin 16) : List Byte :=
  let r := s.channels.records[c]
  [byte c.val] ++ bytes2 r.value ++ [byte (validityCode r.validity)] ++ bytes2 r.presented.1 ++
    [byte (validityCode r.presented.2)]

/-- Channel Read (R34). -/
def serveChannelRead (first count : Byte) (s : State) : Answer :=
  if first.toNat > 15 ∨ count = 0 ∨ count.toNat > 5 ∨ first.toNat + count.toNat > 16 then
    refuse s .badArgument
  else
    reading s (((List.finRange 16).filter fun c =>
      first.toNat ≤ c.val ∧ c.val < first.toNat + count.toNat).flatMap (channelRecord s))

/-! ## The Curve Store -/

/-- The value of the curve from its point (x0, y0) on, for a `v` above x0 (R36). -/
def curveFrom : Nat × Nat → Curve → Nat → Nat
  | (_, y0), [], _ => y0
  | (x0, y0), (x1, y1) :: rest, v =>
    if v < x1 then roundDiv (y0 * (x1 - v) + y1 * (v - x0)) (x1 - x0)
    else curveFrom (x1, y1) rest v

/-- A curve evaluated at `v` (R36); an empty curve gives no result (R35). -/
def curveAt (curve : Curve) (v : Nat) : Option Nat :=
  match curve with
  | [] => none
  | (x0, y0) :: rest => some (if v ≤ x0 then y0 else curveFrom (x0, y0) rest v)

/-- The curve a setting names, empty when it names none. -/
def State.curveOf (s : State) (curve : Option (Fin 12)) : Curve :=
  match curve with
  | none => []
  | some c => s.curves[c]

/-- Each x greater than the x before it (R37). -/
def rising : Curve → Bool
  | (x0, _) :: (x1, y1) :: rest => decide (x0 < x1) && rising ((x1, y1) :: rest)
  | _ => true

/-- The points of a request as the store keeps them. -/
def pointsOf (points : List (Word × Word)) : Curve := points.map fun p => (p.1.toNat, p.2.toNat)

/-- Curve Load (R37). -/
def serveCurveLoad (curve count : Byte) (points : List (Word × Word)) (s : State) : Answer :=
  if points.length ≠ count.toNat then refuse s .length
  else
    match index? 12 curve.toNat with
    | none => refuse s .badArgument
    | some c =>
      if count.toNat < 2 ∨ count.toNat > 8 ∨ rising (pointsOf points) = false then refuse s .badArgument
      else accepted { s with curves := s.curves.set c (pointsOf points) }

/-- Curve Read (R39). -/
def serveCurveRead (curve : Byte) (s : State) : Answer :=
  match index? 12 curve.toNat with
  | none => refuse s .badArgument
  | some c =>
    reading s ([byte s.curves[c].length] ++ s.curves[c].flatMap fun p => bytes2 p.1 ++ bytes2 p.2)

end Sys2Proof.Machine
end

