-- ==== Sys2Proof/Machine/Chime.lean ====
section
/-!
DEFINITION. The Chime Sequencer (7.1 to 7.4): the request queue, patterns, selection and arbitration.
-/
namespace Sys2Proof.Machine

/-- The source codes of section 7: monitor m, service item k and link slot j. -/
def monitorSource (m : Fin 16) : Fin 26 := ⟨m.val, by omega⟩
def serviceSource (k : Fin 6) : Fin 26 := ⟨16 + k.val, by omega⟩
def linkSource (j : Fin 4) : Fin 26 := ⟨22 + j.val, by omega⟩

/-- The fixed patterns P0 to P7 (7.3). -/
def fixedPattern (k : Nat) : List ToneStep :=
  match k with
  | 0 => [⟨3, 40⟩]
  | 1 => [⟨3, 40⟩, ⟨0, 15⟩, ⟨2, 40⟩]
  | 2 => [⟨1, 60⟩, ⟨0, 90⟩]
  | 3 => [⟨4, 10⟩, ⟨0, 10⟩]
  | 4 => [⟨4, 1⟩, ⟨0, 49⟩]
  | 5 => [⟨1, 15⟩, ⟨2, 15⟩, ⟨3, 30⟩]
  | 6 => [⟨4, 20⟩, ⟨3, 20⟩]
  | 7 => [⟨2, 20⟩, ⟨0, 180⟩]
  | _ => []

/-- The steps of a pattern as it stands (R124, R128). -/
def ChimeUnit.steps (u : ChimeUnit) (pattern : Fin 12) : List ToneStep :=
  if h : pattern.val < 8 then fixedPattern pattern.val
  else u.loaded[pattern.val - 8]

/-- The WAITING request of highest priority, the oldest among equals, of a queue listed oldest first
(R123). -/
def bestWaiting : List ChimeRequest → Option ChimeRequest
  | [] => none
  | r :: rest =>
    match bestWaiting rest with
    | none => if r.playing then none else some r
    | some b => if r.playing = false ∧ b.priority ≤ r.priority then some r else some b

/-- The ms a pass stays in its step `k` (7.3). -/
def stepMs (steps : List ToneStep) (k : Nat) : Nat :=
  match steps[k]? with
  | some t => t.duration * 10
  | none => 0

/-- Selection (R123): the chosen request becomes PLAYING and its pass begins with a copy of its
pattern's steps (R124); with none WAITING the sequencer goes IDLE. -/
def ChimeUnit.select (u : ChimeUnit) : ChimeUnit :=
  match bestWaiting u.queue with
  | none => { u with sequencer := .idle }
  | some r =>
    { u with
        queue := u.queue.map fun q =>
          if q.source = r.source then { q with playing := true, reposted := false, stop := .none } else q,
        sequencer := .playing (u.steps r.pattern) 0 (stepMs (u.steps r.pattern) 0) }

/-- The preemption test of a post of `source` at `priority` (R126). -/
def preempt (source : Fin 26) (priority : Nat) (queue : List ChimeRequest) : List ChimeRequest :=
  queue.map fun q =>
    if q.playing = true ∧ q.source ≠ source ∧ q.stop = .none ∧ 6 ≤ priority ∧ q.priority < priority then
      { q with stop := .cut }
    else q

/-- What a post makes of the request its source already has (R121). -/
def ChimeRequest.repost (r : ChimeRequest) (pattern : Fin 12) (priority passes : Nat) : ChimeRequest :=
  { r with pattern := pattern, priority := priority, passes := passes,
           reposted := r.playing || r.reposted,
           stop := if r.stop = .withdraw then .none else r.stop }

/-- A post (R120, R121, R126); a post of an empty pattern changes nothing. -/
def ChimeUnit.post (u : ChimeUnit) (source : Fin 26) (pattern : Fin 12) (priority passes : Nat) :
    ChimeUnit :=
  if u.steps pattern = [] then u
  else
    match u.queue.find? (fun q => q.source = source) with
    | none =>
      let queue := u.queue ++ [{ source := source, pattern := pattern, priority := priority,
                                 passes := passes, playing := false, reposted := false, stop := .none }]
      match u.sequencer with
      | .idle => ChimeUnit.select { u with queue := queue }
      | .playing _ _ _ => { u with queue := preempt source priority queue }
      | .gap _ => { u with queue := queue }
    | some r =>
      let r' := r.repost pattern priority passes
      let queue :=
        if r.pattern = pattern ∧ r.priority = priority then
          u.queue.map fun q => if q.source = source then r' else q
        else u.queue.filter (fun q => q.source ≠ source) ++ [r']
      { u with queue := preempt source priority queue }

/-- A withdrawal (R122). -/
def ChimeUnit.withdraw (u : ChimeUnit) (source : Fin 26) : ChimeUnit :=
  { u with queue := u.queue.filterMap fun q =>
      if q.source = source then (if q.playing then some { q with stop := .withdraw } else none)
      else some q }

/-- A request standing in the queue. -/
def ChimeUnit.request? (u : ChimeUnit) (source : Fin 26) : Option ChimeRequest :=
  u.queue.find? (fun q => q.source = source)

/-- The queue once the playing request has left it. -/
def dropPlaying (queue : List ChimeRequest) : List ChimeRequest := queue.filter fun q => !q.playing

/-- The playing request back to WAITING at the newest end, with the passes given (R125). -/
def requeue (r : ChimeRequest) (passes : Nat) (queue : List ChimeRequest) : List ChimeRequest :=
  dropPlaying queue ++ [{ r with passes := passes, playing := false, reposted := false, stop := .none }]

/-- A pass that completes (R125), or is ended by a WITHDRAW order at its last step (R124). -/
def completePass (r : ChimeRequest) (queue : List ChimeRequest) : List ChimeRequest :=
  if r.stop = .withdraw then dropPlaying queue
  else if r.reposted then requeue r r.passes queue
  else if r.passes = 0 then requeue r 0 queue
  else if r.passes = 1 then dropPlaying queue
  else requeue r (r.passes - 1) queue

/-- The playing request cut back to WAITING in its place (R126). -/
def cutPass (queue : List ChimeRequest) : List ChimeRequest :=
  queue.map fun q => if q.playing then { q with playing := false, reposted := false, stop := .none } else q

/-- The end of a pattern step (R124): due when the step timer has run out. -/
def ChimeUnit.stepEnd (u : ChimeUnit) : ChimeUnit :=
  match u.sequencer, u.queue.find? (fun q => q.playing) with
  | .playing steps k 0, some r =>
    if k + 1 < steps.length then
      match r.stop with
      | .none => { u with sequencer := .playing steps (k + 1) (stepMs steps (k + 1)) }
      | .cut => { u with queue := cutPass u.queue, sequencer := .gap Config.gapMs }
      | .withdraw => { u with queue := dropPlaying u.queue, sequencer := .gap Config.gapMs }
    else { u with queue := completePass r u.queue, sequencer := .gap Config.gapMs }
  | _, _ => u

/-- The end of a gap (R123): due when the gap has run out. -/
def ChimeUnit.gapEnd (u : ChimeUnit) : ChimeUnit :=
  match u.sequencer with
  | .gap 0 => u.select
  | _ => u

/-- The step timer and the gap count on the tick. -/
def ChimeUnit.tick (u : ChimeUnit) : ChimeUnit :=
  match u.sequencer with
  | .idle => u
  | .playing steps k left => { u with sequencer := .playing steps k (left - 1) }
  | .gap left => { u with sequencer := .gap (left - 1) }

/-- The tone code SPKR sounds; silent, held low, in IDLE and GAP (R124). -/
def ChimeUnit.tone (u : ChimeUnit) : Nat :=
  match u.sequencer with
  | .playing steps k _ => (steps[k]?.map ToneStep.tone).getD 0
  | _ => 0

/-- The sequencer at Soft Restart (R127): WAITING requests go, a PLAYING one is withdrawn, and the
loadable patterns are emptied (R128). -/
def ChimeUnit.restart (u : ChimeUnit) : ChimeUnit :=
  { u with
      queue := (u.queue.filter fun q => q.playing).map fun q => { q with stop := .withdraw },
      loaded := Vector.replicate 4 [] }

/-- A chime request posted by a block (R120). -/
def State.postChime (s : State) (source : Fin 26) (pattern : Fin 12) (priority passes : Nat) : State :=
  { s with chime := s.chime.post source pattern priority passes }

/-- A chime request withdrawn by a block (R122). -/
def State.withdrawChime (s : State) (source : Fin 26) : State :=
  { s with chime := s.chime.withdraw source }

/-! ## Requests -/

/-- Chime Post (R129). -/
def serveChimePost (slot pattern priority passes : Byte) (s : State) : Answer :=
  match index? 4 slot.toNat, index? 12 pattern.toNat with
  | some j, some p =>
    if s.chime.steps p = [] then refuse s .badArgument
    else accepted (s.postChime (linkSource j) p (min priority.toNat 7) (min passes.toNat 15))
  | _, _ => refuse s .badArgument

/-- The slots a Chime Withdraw names (R130). -/
def slotsOf (slot : Byte) : Option (List (Fin 4)) :=
  if slot = 255 then some (List.finRange 4) else (index? 4 slot.toNat).map fun j => [j]

/-- Chime Withdraw (R130). -/
def serveChimeWithdraw (slot : Byte) (s : State) : Answer :=
  match slotsOf slot with
  | none => refuse s .badArgument
  | some slots =>
    { state := slots.foldl (fun s j => s.withdrawChime (linkSource j)) s, result := .ok,
      data := [byte ((slots.filter fun j => (s.chime.request? (linkSource j)).isSome).length)] }

/-- The tone steps a Pattern Load carries. -/
def tonesOf (steps : List (Byte × Byte)) : List ToneStep := steps.map fun t => ⟨t.1.toNat, t.2.toNat⟩

/-- Pattern Load (R128). -/
def servePatternLoad (pattern count : Byte) (steps : List (Byte × Byte)) (s : State) : Answer :=
  if steps.length ≠ count.toNat then refuse s .length
  else
    match (if 8 ≤ pattern.toNat then index? 4 (pattern.toNat - 8) else none) with
    | none => refuse s .badArgument
    | some k =>
      if count.toNat < 1 ∨ count.toNat > 6 then refuse s .badArgument
      else if (tonesOf steps).all (fun t => decide (t.tone ≤ 4) && decide (1 ≤ t.duration)) then
        accepted { s with chime := { s.chime with loaded := s.chime.loaded.set k (tonesOf steps) } }
      else refuse s .badArgument

/-- A request as Chime Read returns it (R182). -/
def ChimeRequest.record (q : ChimeRequest) : List Byte :=
  [byte q.source.val, byte q.pattern.val, byte q.priority, byte q.passes, mark q.playing]

/-- Chime Read (R131, R182). -/
def serveChimeRead (first : Byte) (s : State) : Answer :=
  if first.toNat > 25 then refuse s .badArgument
  else
    let page := (s.chime.queue.drop first.toNat).take 6
    let playing := s.chime.queue.find? (fun q => q.playing)
    let head : List Byte :=
      match s.chime.sequencer with
      | .idle => [0, byte s.chime.queue.length, 255, 0, 0] ++ bytes2 0
      | .playing _ k left =>
        [1, byte s.chime.queue.length, (playing.map fun r => byte r.source.val).getD 255, byte k,
          (playing.map fun r => byte (stopCode r.stop)).getD 0] ++ bytes2 left
      | .gap left => [2, byte s.chime.queue.length, 255, 0, 0] ++ bytes2 left
    reading s (head ++ [byte page.length] ++ page.flatMap ChimeRequest.record)

/-- The state and passes of a source's request as Monitor Read and Service Read give them (R182); the
passes of a request that does not stand are absent, all ones (log entry 23). -/
def chimeStanding (u : ChimeUnit) (source : Fin 26) : List Byte :=
  match u.request? source with
  | none => [0, 255]
  | some r => [if r.playing then 2 else 1, byte r.passes]

end Sys2Proof.Machine
end

