-- ==== Sys2Proof/Machine/Lamp.lean ====
section
/-!
DEFINITION. The Lamp Unit (7.6, 7.7): claims, the resolved lamp states, the bulb check, the flash clock
and the ON-phase duty.
-/
namespace Sys2Proof.Machine

/-- The source codes of claims: monitor m, service item k, and the link (section 7). -/
def monitorClaim (m : Fin 16) : Fin 23 := ⟨m.val, by omega⟩
def serviceClaim (k : Fin 6) : Fin 23 := ⟨16 + k.val, by omega⟩
def linkClaim : Fin 23 := 22

/-- A source's claim on a lamp added, changed or removed (R132). -/
def State.setClaim (s : State) (lamp : Fin 12) (source : Fin 23) (c : Option LampMode) : State :=
  { s with lamp := { s.lamp with claims := vmod s.lamp.claims lamp fun set => set.set source c } }

/-- A source's claim on a lamp. -/
def LampUnit.claim (u : LampUnit) (lamp : Fin 12) (source : Fin 23) : Option LampMode :=
  u.claims[lamp][source]

/-- The states of a lamp (R133). -/
inductive LampState where
  | off | on | flash
  deriving DecidableEq, Repr

/-- A lamp's state, resolved from its claim set and the bulb check (R133). -/
def LampUnit.state (u : LampUnit) (lamp : Fin 12) : LampState :=
  if u.bulbCheck.isSome then .on
  else if u.claims[lamp].toList.any (fun c => c == some .flash) then .flash
  else if u.claims[lamp].toList.any (fun c => c.isSome) then .on
  else .off

/-- The lamp states' codes (R182). -/
def lampCode (x : LampState) : Nat :=
  match x with
  | .off => 0
  | .on => 1
  | .flash => 2

/-- The duty a lamp output is driven at (R133, R135): off outside RUN and AWAKE_OFF. -/
def State.lampOutput (s : State) (lamp : Fin 12) : Nat :=
  if s.awake then
    match s.lamp.state lamp with
    | .off => 0
    | .on => s.lamp.duty
    | .flash => if (s.lamp.flash.map FlashClock.lit).getD false then s.lamp.duty else 0
  else 0

/-- Whether a discrete input is active (R19). -/
def Discrete.active (d : Discrete) : Bool := d.level == d.activeHigh

/-- The ON-phase duty as the dimming discrete and DIMMER give it (R136). -/
def State.dutyNow (s : State) : Nat :=
  match s.lamp.dimming with
  | none => 255
  | some k =>
    if s.discretes.inputs[k].active then
      match s.channels.records[(7 : Fin 16)].presented with
      | (v, .valid) => max v 16
      | (v, .held) => max v 16
      | _ => 255
    else 255

/-- A setting of the duty (R136). -/
def State.setDuty (s : State) : State := { s with lamp := { s.lamp with duty := s.dutyNow } }

/-- The bulb check, the flash clock and the duty clock count on the tick; the latter two in RUN and
AWAKE_OFF (R134 to R136). -/
def LampUnit.tick (u : LampUnit) (awake : Bool) : LampUnit :=
  { u with bulbCheck := countDown u.bulbCheck,
           flash := if awake then u.flash.map fun f => { f with ms := f.ms + 1 } else u.flash,
           dutyClock := if awake then u.dutyClock + 1 else u.dutyClock }

/-- The flash clock turns to its other half (R135): due every 500 ms. -/
def LampUnit.turn (u : LampUnit) : LampUnit :=
  match u.flash with
  | some f => if 500 ≤ f.ms then { u with flash := some { lit := !f.lit, ms := f.ms - 500 } } else u
  | none => u

/-- The lamp clocks started: the flash clock in a lit half (R135), and the duty set (R136). -/
def State.startLamps (s : State) : State :=
  { s with lamp := { s.lamp with flash := some { lit := true, ms := 0 }, duty := s.dutyNow, dutyClock := 0 } }

/-! ## Requests -/

/-- The lamps a Lamp Set names (R137). -/
def lampsOf (lamp : Byte) : Option (List (Fin 12)) :=
  if lamp = 255 then some (List.finRange 12) else (index? 12 lamp.toNat).map fun l => [l]

/-- The claim a Lamp Set mode asks for (R137). -/
def linkMode (mode : Byte) : Option (Option LampMode) :=
  match mode.toNat with
  | 0 => some none
  | 1 => some (some .on)
  | 2 => some (some .flash)
  | _ => none

/-- Lamp Set (R137). -/
def serveLampSet (lamp mode : Byte) (s : State) : Answer :=
  match lampsOf lamp, linkMode mode with
  | some lamps, some c => accepted (lamps.foldl (fun s l => s.setClaim l linkClaim c) s)
  | _, _ => refuse s .badArgument

/-- Lamp Configure (R138). -/
def serveLampConfigure (discrete : Byte) (s : State) : Answer :=
  match optionalIndex 12 discrete with
  | none => refuse s .badArgument
  | some d => accepted { s with lamp := { s.lamp with dimming := d } }

/-- The source codes whose claim on a lamp has a mode, bit k for code k (R139, R182). -/
def claimMask (set : ClaimSet) (mode : LampMode) : List Byte :=
  let n := set.toList.foldr (fun c acc => (if c = some mode then 1 else 0) + 2 * acc) 0
  [byte (n / 65536), byte (n / 256), byte n]

/-- Lamp Read (R139, R182). -/
def serveLampRead (lamp : Byte) (s : State) : Answer :=
  match index? 12 lamp.toNat with
  | none => refuse s .badArgument
  | some l =>
    let u := s.lamp
    reading s (((List.finRange 12).map fun k => byte (lampCode (u.state k))) ++
      [mark u.bulbCheck.isSome] ++ bytes2 (u.bulbCheck.getD 0) ++
      [match u.flash with
        | none => 2
        | some f => if f.lit then 0 else 1] ++
      [indexByte u.dimming, byte u.duty, byte l.val] ++ claimMask u.claims[l] .on ++
      claimMask u.claims[l] .flash)

/-- The link's claims and the dimming discrete at Soft Restart (R138). -/
def State.restartLamps (s : State) : State :=
  { s with lamp := { s.lamp with
      claims := vmap (fun set : ClaimSet => set.set linkClaim none) s.lamp.claims, dimming := none } }

end Sys2Proof.Machine
end

