-- ==== Sys2Proof/Machine/Eeprom.lean ====
section
/-!
DEFINITION. The EEPROM Port (3.5.1, 8.6, 9.2, 9.6, 9.7): records and their checks, the write queue, the
write in flight, and host access.
-/
namespace Sys2Proof.Machine

/-! ## Records -/

/-- The sum of words, modulo 65,536 (00_scope section 8). -/
def sum16 (ws : List Nat) : Nat := ws.sum % 65536

/-- The check word that brings a record's sum to 0xA5A5 (00_scope section 8). -/
def checkOf (ws : List Nat) : Nat := (Config.checkSum + 65536 - sum16 ws) % 65536

/-- A run of the device's words, as numbers. -/
def readRun (m : Memory) (first count : Nat) : List Nat :=
  (List.range count).map fun k => (readWord m (first + k)).toNat

/-- Words stored one after another from an address. -/
def wordsFrom (first : Nat) (ws : List Nat) : List (Nat × Word) :=
  (List.range ws.length).zip ws |>.map fun p => (first + p.1, BitVec.ofNat 16 p.2)

/-- A record's words with its check word last. -/
def withCheck (ws : List Nat) : List Nat := ws ++ [checkOf ws]

/-- A record that carries a check word sums to 0xA5A5 (00_scope section 8). -/
def checks (ws : List Nat) : Bool := sum16 ws == Config.checkSum

/-! ## The header -/

/-- The ranges of the five constants (9.2). -/
def constantsInRange (kvss cinj ppr consumption reserve : Nat) : Bool :=
  decide (500 ≤ kvss ∧ kvss ≤ 25000) && decide (256 ≤ cinj ∧ cinj ≤ 65535) &&
  decide (1 ≤ ppr ∧ ppr ≤ 8) && decide (20 ≤ consumption ∧ consumption ≤ 500) && decide (reserve ≤ 200)

/-- The constants the header of the device gives, when it is valid (R157). -/
def headerConstants (m : Memory) : Option Constants :=
  let ws := readRun m 0 7
  match ws with
  | [marker, kvss, cinj, ppr, consumption, reserve, _] =>
    if marker = Config.headerMarker ∧ checks ws = true ∧
        constantsInRange kvss cinj ppr consumption reserve = true then
      some { kvss := kvss, cinj := cinj, ppr := ppr, consumption := consumption, reserve := reserve,
             origin := .header }
    else none
  | _ => none

/-- Words 0 to 6 as a HEADER write stores them (R165). -/
def headerWords (c : Constants) : List (Nat × Word) :=
  wordsFrom 0 (withCheck [Config.headerMarker, c.kvss, c.cinj, c.ppr, c.consumption, c.reserve])

/-! ## The odometer ring -/

/-- The record of a ring slot, when it is valid (R48). -/
def ringRecord (m : Memory) (slot : Fin 8) : Option Nat :=
  match readRun m (7 + 3 * slot.val) 3 with
  | [hi, lo, check] =>
    if checks [hi, lo, check] = true ∧ hi * 65536 + lo < Config.odometerModulus then some (hi * 65536 + lo)
    else none
  | _ => none

/-- Of two valid records, `a` is newer than `b` (R49). -/
def newer (a b : Nat) : Bool :=
  let d := (a + Config.odometerModulus - b) % Config.odometerModulus
  decide (1 ≤ d ∧ d ≤ 49999999)

/-- The valid records of the ring in slot order. -/
def ringRecords (m : Memory) : List (Fin 8 × Nat) :=
  (List.finRange 8).filterMap fun k => (ringRecord m k).map fun v => (k, v)

/-- The newest valid record (R49): the first that no other is newer than, or else the one in the lowest
slot. -/
def newestRecord (m : Memory) : Option (Fin 8 × Nat) :=
  let rs := ringRecords m
  (rs.find? fun r => rs.all fun o => !newer o.2 r.2).or rs.head?

/-- The slot a record is written to: the one after the newest, or slot 0 (R52). -/
def targetSlot (newest : Option (Fin 8)) : Fin 8 :=
  match newest with
  | none => 0
  | some k => k + 1

/-- The three words of a record in its slot (R52). -/
def ringWords (slot : Fin 8) (value : Nat) : List (Nat × Word) :=
  wordsFrom (7 + 3 * slot.val) (withCheck [value / 65536, value % 65536])

/-! ## The service block -/

/-- The eighteen since words of the items (8.6). -/
def sinceWords (items : Vector ServiceItem 6) : List Nat :=
  items.toList.flatMap fun i => [i.sinceDu / 100, i.sinceDays, i.sinceKr]

/-- Words 31 to 49 as a SERVICE write stores them (R152). -/
def serviceWords (items : Vector ServiceItem 6) : List (Nat × Word) :=
  wordsFrom 31 (withCheck (sinceWords items))

/-- The service block is valid (R151). -/
def serviceBlockValid (m : Memory) : Bool :=
  checks (readRun m 31 19) && (List.range 6).all fun k => decide ((readWord m (32 + 3 * k)).toNat ≤ 4095)

/-! ## The write queue -/

/-- The value last bound for the ring (R51): that of the waiting entry, of the write in flight, or of the
newest record. -/
def State.lastBound (s : State) : Option Nat :=
  match s.eeprom.queue.findSome? (fun e => match e with | .odometer v => some v | _ => none) with
  | some v => some v
  | none =>
    match s.eeprom.flight with
    | some { kind := .odometer _ v, .. } => some v
    | _ => s.accum.newestSlot.map fun _ => s.accum.newestValue

/-- An ODOMETER entry waits. -/
def odometerWaits (q : List Entry) : Bool := q.any fun e => match e with | .odometer _ => true | _ => false

/-- An ODOMETER value put in a waiting entry in place, or else in a new entry at the back (R51). -/
def bindOdometer (v : Nat) (q : List Entry) : List Entry :=
  if odometerWaits q then q.map fun e => match e with | .odometer _ => .odometer v | e => e
  else q ++ [.odometer v]

/-- The ODOMETER post of the total as it stands (R51). -/
def State.postOdometer (s : State) : State :=
  if s.lastBound = some s.accum.total then s
  else { s with eeprom := { s.eeprom with queue := bindOdometer s.accum.total s.eeprom.queue } }

/-- A post that changes nothing while an equal entry waits (R152, R165). -/
def postOnce (e : Entry) (q : List Entry) : List Entry := if e ∈ q then q else q ++ [e]

/-- The SERVICE post (R152). -/
def State.postService (s : State) : State :=
  { s with eeprom := { s.eeprom with queue := postOnce .service s.eeprom.queue } }

/-- The HEADER post (R165). -/
def State.postHeader (s : State) : State :=
  { s with eeprom := { s.eeprom with queue := postOnce .header s.eeprom.queue } }

/-- The write an entry begins (R52, R152, R165). -/
def State.flightOf (s : State) (e : Entry) : Flight :=
  match e with
  | .odometer v =>
    { kind := .odometer (targetSlot s.accum.newestSlot) v, words := ringWords (targetSlot s.accum.newestSlot) v,
      wait := 0 }
  | .service => { kind := .service, words := serviceWords s.service, wait := 0 }
  | .header => { kind := .header, words := headerWords s.consts, wait := 0 }
  | .host a v => { kind := .host, words := [(a, v)], wait := 0 }

/-- A write begins (R165): due when the part is awake, the port idle and the queue not empty. -/
def State.beginWrite (s : State) : State :=
  if s.awake then
    match s.eeprom.flight, s.eeprom.queue with
    | none, e :: rest => { s with eeprom := { s.eeprom with queue := rest, flight := some (s.flightOf e) } }
    | _, _ => s
  else s

/-- What a completed entry leaves: an ODOMETER record moves the ring's position (R52). -/
def Accumulators.stored (a : Accumulators) (k : FlightKind) : Accumulators :=
  match k with
  | .odometer slot v => { a with newestSlot := some slot, newestValue := v }
  | _ => a

/-- The word in flight completes (R166): EDO rises within 25 ms of the command (log entry 36). -/
def State.completeWord (s : State) : State :=
  match s.eeprom.flight with
  | some { kind := kind, words := (a, w) :: rest, wait := wait } =>
    if wait ≤ Config.wordWaitMs then
      let memory := writeWord s.eeprom.memory a w
      if rest = [] then
        { s with eeprom := { s.eeprom with memory := memory, flight := none }, accum := s.accum.stored kind }
      else
        { s with eeprom := { s.eeprom with memory := memory,
                                           flight := some { kind := kind, words := rest, wait := 0 } } }
    else s
  | _ => s

/-- The record an address belongs to, as its first word and its length: the header (R165), a slot of the ring (R52) or
the service block (R152); none for an address of the host area. -/
def recordAt (a : Nat) : Option (Nat × Nat) :=
  if a < 7 then some (0, 7)
  else if a < 31 then some (7 + 3 * ((a - 7) / 3), 3)
  else if a < 50 then some (31, 19)
  else none

/-- The record an address belongs to sums to 0xA5A5 in these contents. -/
def recordChecks (m : Memory) (a : Nat) : Bool :=
  match recordAt a with
  | none => false
  | some r => checks (readRun m r.1 r.2)

/-- The device's contents once the word being stored at an address is left unfinished, with `x` for what the device
left in it. A record so torn fails its check (R53, R153, R155, R166), so `x` is never the one word with which the
record would pass: that word is one more instead (log entry 9). -/
def tearWord (m : Memory) (a : Nat) (x : Word) : Memory :=
  if recordChecks (writeWord m a x) a then writeWord m a (x + 1) else writeWord m a x

/-- A word the device was storing is left as it is: its address holds a free word (log entry 9). -/
def State.leaveWord (s : State) (a : Nat) : State :=
  { s with eeprom := { s.eeprom with memory := tearWord s.eeprom.memory a (Config.leftWord s.freeCount) },
           freeCount := s.freeCount + 1 }

/-- The word in flight fails (R166): due when EDO has not risen in 25 ms. The entry is abandoned and a
STORE notice carries the address. -/
def State.failWord (s : State) : State :=
  match s.eeprom.flight with
  | some { words := (a, _) :: _, wait := wait, .. } =>
    if Config.wordWaitMs ≤ wait then
      let s := s.leaveWord a
      State.notify { s with eeprom := { s.eeprom with flight := none } } .store (storeWord a)
    else s
  | _ => s

/-- A power-on reset cuts off the word write being carried out (R155) and empties the queue. -/
def State.cutEeprom (s : State) : State :=
  let s := match s.eeprom.flight with
    | some { words := (a, _) :: _, .. } => s.leaveWord a
    | _ => s
  { s with eeprom := { s.eeprom with queue := [], flight := none } }

/-- The wait for EDO counts on the tick (R166). -/
def EepromPort.tick (e : EepromPort) : EepromPort :=
  { e with flight := e.flight.map fun f => { f with wait := min (f.wait + 1) (Config.wordWaitMs + 1) } }

/-- The write state of a kind of entry: 0 none, 1 waiting, 2 in flight (R182, log entry 35). -/
def writeState (waits flies : Bool) : Nat :=
  if waits && flies then (if Config.reportWaiting then 1 else 2)
  else if waits then 1
  else if flies then 2
  else 0

/-! ## Requests -/

/-- EEPROM Read (R167). DESIGN CHOICE (log entry 43): a bad address or count while a write is in flight is answered
BAD_ARGUMENT. -/
def serveEepromRead (first count : Byte) (s : State) : Answer :=
  if first.toNat > 127 ∨ count = 0 ∨ count.toNat > 16 ∨ first.toNat + count.toNat > 128 then
    refuse s .badArgument
  else if s.eeprom.flight.isSome then refuse s .busy
  else reading s ((readRun s.eeprom.memory first.toNat count.toNat).flatMap bytes2)

/-- How many host-word entries wait (R168). -/
def hostWaiting (q : List Entry) : Nat :=
  (q.filter fun e => match e with | .host _ _ => true | _ => false).length

/-- EEPROM Write (R168). DESIGN CHOICE (log entry 43): a bad address while four host words wait is answered
BAD_ARGUMENT. -/
def serveEepromWrite (address : Byte) (value : Word) (s : State) : Answer :=
  if address.toNat < 50 ∨ 127 < address.toNat then refuse s .badArgument
  else if 4 ≤ hostWaiting s.eeprom.queue then refuse s .busy
  else
    accepted { s with eeprom := { s.eeprom with queue := s.eeprom.queue ++ [.host address.toNat value] } }

end Sys2Proof.Machine
end

