-- ==== Sys2Proof/Machine/Service.lean ====
section
/-!
DEFINITION. The Service Schedule (chapter 8): levels and states, what a change of state does, and the
service requests.
-/
namespace Sys2Proof.Machine

/-! ## Levels and states -/

/-- The level of one basis of unit interval `u`, at since count `c` (R142). -/
def basisLevel (u c margin grace : Nat) : ServiceState :=
  if u * (100 + grace) ≤ c * 100 then .overdue
  else if u ≤ c then .due
  else if u * (100 - margin) ≤ c * 100 then .early
  else .ok

/-- The three bases of an item, distance, days and revolutions: unit interval and since count (R142). -/
def ServiceItem.bases (i : ServiceItem) : List (Nat × Nat) :=
  [(i.config.km.toNat * 100, i.sinceDu), (i.config.days.toNat, i.sinceDays),
   (i.config.mrev.toNat * 1000, i.sinceKr)]

/-- The level of each basis, or none for a basis not used (R142). -/
def ServiceItem.levels (i : ServiceItem) : List (Option ServiceState) :=
  i.bases.map fun b =>
    if b.1 = 0 then none
    else some (basisLevel b.1 b.2 i.config.margin.toNat i.config.grace.toNat)

/-- The higher of two states in the order of 8.1. -/
def highest (a b : ServiceState) : ServiceState := if serviceCode a ≤ serviceCode b then b else a

/-- The state the settings and counts give (R143). -/
def ServiceItem.computed (i : ServiceItem) : ServiceState :=
  if i.config.enabled = 0 then .disabled
  else i.levels.foldl (fun acc l => highest acc (l.getD .disabled)) .disabled

/-- SERVICE: the state, and the bases whose level equals it (R145). -/
def ServiceItem.noticeWord (i : ServiceItem) : Word :=
  noticeValue
    (if i.state = .disabled then 0 else flagByte (i.levels.map fun l => l == some i.state))
    (byte (serviceCode i.state))

/-- The claim a state asks for (R144). -/
def claimFor (x : ServiceState) : Option LampMode :=
  match x with
  | .due => some .on
  | .overdue => some .flash
  | _ => none

/-- The states whose chime request may stand (R144). -/
def dueState (x : ServiceState) : Bool := x == .due || x == .overdue

/-- The lamp of an item, or none. -/
def ServiceItem.lamp? (i : ServiceItem) : Option (Fin 12) := index? 12 i.config.lamp.toNat

/-- The chime action of an item, or none: pattern, priority and passes. -/
def ServiceItem.chime? (i : ServiceItem) : Option (Fin 12 × Nat × Nat) :=
  (index? 12 i.config.pattern.toNat).map fun p => (p, i.config.priority.toNat, i.config.passes.toNat)

/-! ## Changes of state -/

/-- An item replaced. -/
def State.setItem (s : State) (k : Fin 6) (i : ServiceItem) : State :=
  { s with service := s.service.set k i }

/-- An item's claim on its lamp, if it has one (R144). -/
def State.setItemClaim (s : State) (k : Fin 6) (lamp : Option (Fin 12)) (c : Option LampMode) : State :=
  match lamp with
  | none => s
  | some l => s.setClaim l (serviceClaim k) c

/-- What a change of an item's state does (R144). -/
def State.alignItem (s : State) (k : Fin 6) : State :=
  let i := s.service[k]
  let s := (s.notify (.service k) i.noticeWord).setItemClaim k i.lamp? (claimFor i.state)
  if dueState i.state then s else s.withdrawChime (serviceSource k)

/-- An item's counts changed to those of `i` and its state recomputed (R143, R144). -/
def State.recount (s : State) (k : Fin 6) (i : ServiceItem) : State :=
  if i.computed = i.state then s.setItem k i
  else (s.setItem k { i with state := i.computed }).alignItem k

/-- A DU reaches the six items (R140). -/
def State.serviceDu (s : State) : State :=
  (List.finRange 6).foldl
    (fun s k => s.recount k { s.service[k] with sinceDu := bump s.service[k].sinceDu Config.sinceDuMax }) s

/-- A KR reaches the six items (R140). -/
def State.serviceKr (s : State) : State :=
  (List.finRange 6).foldl
    (fun s k => s.recount k { s.service[k] with sinceKr := bump s.service[k].sinceKr Config.sinceKrMax }) s

/-- A day end reaches the six items (R141). -/
def State.serviceDay (s : State) : State :=
  (List.finRange 6).foldl
    (fun s k =>
      s.recount k { s.service[k] with sinceDays := bump s.service[k].sinceDays Config.sinceDaysMax }) s

/-- The key-on chimes of due items (R146). DESIGN CHOICE (log entry 12): the posts of one bulb check end are taken from
S0 to S5, an order R134 and R146 leave open; from IDLE the first of them is selected at once (R120). -/
def State.keyOnChimes (s : State) : State :=
  (List.finRange 6).foldl
    (fun s k =>
      match s.service[k].chime? with
      | some (p, priority, passes) =>
        if dueState s.service[k].state then s.postChime (serviceSource k) p priority passes else s
      | none => s) s

/-- The items at Soft Restart (R154): default settings, DISABLED, claims and requests removed. -/
def State.restartService (s : State) : State :=
  (List.finRange 6).foldl
    (fun s k =>
      let i := s.service[k]
      ((s.setItemClaim k i.lamp? none).withdrawChime (serviceSource k)).setItem k
        { i with config := serviceDefaults, state := .disabled }) s

/-! ## Requests -/

/-- Whether the settings of a Service Configure are refused, but for its item index (R147). -/
def serviceRefused (f : ServiceFields) (s : State) : Bool :=
  decide (f.enabled.toNat > 1) || decide (1 ≤ f.km.toNat ∧ f.km.toNat ≤ 499) || decide (f.km.toNat > 65000) ||
  decide (f.days.toNat > 1023) || decide (f.margin.toNat > 50) || decide (f.grace.toNat > 50) ||
  (optionalIndex 12 f.lamp).isNone ||
  match optionalIndex 12 f.pattern with
  | none => true
  | some none => false
  | some (some p) =>
    decide (f.priority.toNat > 7) || decide (f.passes = 0) || decide (f.passes.toNat > 15) ||
    decide (s.chime.steps p = [])

/-- The effect of an accepted Service Configure (R148). -/
def State.configureItem (s : State) (k : Fin 6) (f : ServiceFields) : State :=
  let old := s.service[k]
  let i := { old with config := f }
  let new := { i with state := i.computed }
  let s := s.setItem k new
  let s := if old.lamp? = new.lamp? then s else s.setItemClaim k old.lamp? none
  let s := s.setItemClaim k new.lamp? (claimFor new.state)
  let s := if old.chime? = new.chime? ∧ dueState new.state then s else s.withdrawChime (serviceSource k)
  if new.state = old.state then s else s.notify (.service k) new.noticeWord

/-- Service Configure (R147, R148). -/
def serveServiceConfigure (item : Byte) (f : ServiceFields) (s : State) : Answer :=
  match index? 6 item.toNat with
  | none => refuse s .badArgument
  | some k => if serviceRefused f s then refuse s .badArgument else accepted (s.configureItem k f)

/-- One item reset (R149). -/
def State.resetItem (s : State) (k : Fin 6) : State :=
  let i := { s.service[k] with sinceDu := 0, sinceDays := 0, sinceKr := 0 }
  let i := { i with state := i.computed }
  (((s.setItem k i).setItemClaim k i.lamp? none).withdrawChime (serviceSource k)).notify (.service k) i.noticeWord

/-- The items a Service Reset names (R149). -/
def itemsOf (item : Byte) : Option (List (Fin 6)) :=
  if item = 255 then some (List.finRange 6) else (index? 6 item.toNat).map fun k => [k]

/-- Service Reset (R149). DESIGN CHOICE (log entry 43): a bad item where the state of the part refuses the request too is answered
BAD_ARGUMENT. -/
def serveServiceReset (item : Byte) (s : State) : Answer :=
  match itemsOf item with
  | none => refuse s .badArgument
  | some ks =>
    if s.inRun ∧ s.standing then accepted (ks.foldl State.resetItem s).postService
    else refuse s .conditions

/-- The settings of an item as Service Configure carries them, offsets 1 to 12 (R180). -/
def serviceBytes (f : ServiceFields) : List Byte :=
  [f.enabled] ++ wordBytes f.km ++ wordBytes f.days ++
    [f.mrev, f.margin, f.grace, f.lamp, f.pattern, f.priority, f.passes]

/-- The SERVICE block write state (R150). -/
def State.serviceWriteState (s : State) : Nat :=
  writeState (s.eeprom.queue.any fun e => e == .service)
    ((s.eeprom.flight.map fun f => f.kind == .service).getD false)

/-- Service Read (R150, R182). -/
def serveServiceRead (item : Byte) (s : State) : Answer :=
  match index? 6 item.toNat with
  | none => refuse s .badArgument
  | some k =>
    let i := s.service[k]
    reading s (serviceBytes i.config ++ bytes4 i.sinceDu ++ bytes2 i.sinceDays ++ bytes2 i.sinceKr ++
      [byte (serviceCode i.state)] ++ (i.levels.map fun l => byte ((l.map serviceCode).getD 0)) ++
      [byte (claimCode ((i.lamp?.map fun l => s.lamp.claim l (serviceClaim k)).getD none))] ++
      chimeStanding s.chime (serviceSource k) ++ bytes4 s.time.seconds ++ bytes2 s.time.days ++
      [byte s.serviceWriteState])

end Sys2Proof.Machine
end

