-- ==== Sys2Proof/Machine/Drum.lean ====
section
/-!
DEFINITION. The Drum Drive (3.7): the step debt, the steps, the index checks and the drum requests.
-/
namespace Sys2Proof.Machine

/-- A DRUM notice of the drum as it stands (R61). -/
def State.notifyDrum (s : State) : State := s.notify .drum s.drum.noticeWord

/-- A drum that has come to owe steps in IDLE, or been restarted owing them, goes to STEPPING; coils that
are off are energised, with no step of theirs taken yet, and the first then comes 20 ms later (R57). -/
def Drum.start (d : Drum) : Drum :=
  if d.coils then { d with state := .stepping }
  else { d with state := .stepping, coils := true, clock := 0, stepped := false }

/-- One step added to the debt (R56): at the cap it is lost and the lost flag is set. -/
def Drum.owe (d : Drum) : Drum :=
  if d.debt = Config.drumDebtMax then { d with lost := true }
  else
    let d := { d with debt := d.debt + 1 }
    if d.state = .idle then d.start else d

/-- A DU reaches the drum step residue (R43, R56). -/
def State.drumDu (s : State) : State :=
  if s.drum.state = .absent then s
  else if s.accum.rs + 1 < 5 then { s with accum := { s.accum with rs := s.accum.rs + 1 } }
  else
    let lostBefore := s.drum.lost
    let s := { s with accum := { s.accum with rs := 0 }, drum := s.drum.owe }
    if s.drum.lost && !lostBefore then s.notifyDrum else s

/-- A miss counted (R58, R59): the third brings the drum to FAULT with a DRUM notice, the count left at 2. -/
def State.countMiss (s : State) : State :=
  if s.drum.missCount + 1 < 3 then { s with drum := { s.drum with missCount := s.drum.missCount + 1 } }
  else State.notifyDrum { s with drum := { s.drum with state := .fault, missCount := 2 } }

/-- The index is good at these positions (R58). -/
def goodIndex (p : Nat) : Bool := p == 19 || p == 0 || p == 1

/-- An IDX edge (R58): checked in IDLE and STEPPING, in RUN and AWAKE_OFF. -/
def State.indexEdge (s : State) : State :=
  if s.awake && (s.drum.state == .idle || s.drum.state == .stepping) then
    let d := { s.drum with p := 0, indexKnown := true, sinceIndex := 0 }
    if s.drum.indexKnown = false then { s with drum := d }
    else if goodIndex s.drum.p then { s with drum := { d with missCount := 0 } }
    else State.countMiss { s with drum := d }
  else s

/-- One step of the drum (R57); 24 steps without an index restart the count, and make a miss due while
the index is known (R59). -/
def Drum.step (d : Drum) : Drum :=
  { d with phase := (d.phase + 1) % 4, debt := d.debt - 1, p := (d.p + 1) % 20,
           sinceIndex := if d.sinceIndex + 1 < 24 then d.sinceIndex + 1 else 0,
           missDue := d.missDue || (decide (24 ≤ d.sinceIndex + 1) && d.indexKnown),
           state := if d.debt - 1 = 0 then .idle else d.state, clock := 0, stepped := true }

/-- The step time (R57): due 20 ms after the last step, or after the coils were energised. -/
def State.stepDrum (s : State) : State :=
  if s.awake && s.drum.state == .stepping && decide (20 ≤ s.drum.clock) then { s with drum := s.drum.step }
  else s

/-- The miss of 24 steps without an index (R59). -/
def State.missIndex (s : State) : State :=
  if s.drum.missDue then
    let s := { s with drum := { s.drum with missDue := false } }
    if s.drum.state = .idle ∨ s.drum.state = .stepping then s.countMiss else s
  else s

/-- The coil hold has run out: 100 ms have gone since the last step (R57), as they have when the coils have taken none
since they were energised. -/
def Drum.holdOver (d : Drum) : Bool := !d.stepped || decide (100 ≤ d.clock)

/-- The coils go off in IDLE and FAULT (R57): due 100 ms after the last step. -/
def State.releaseCoils (s : State) : State :=
  if s.drum.coils && (s.drum.state == .idle || s.drum.state == .fault) && s.drum.holdOver then
    { s with drum := { s.drum with coils := false } }
  else s

/-- The drum's clock counts while its coils are energised. -/
def Drum.tick (d : Drum) : Drum := if d.coils then { d with clock := d.clock + 1 } else d

/-- The phases the phase outputs energise, none while the coils are off (3.7). -/
def Drum.phases (d : Drum) : List Nat :=
  if d.coils then [d.phase + 1, (d.phase + 1) % 4 + 1] else []

/-! ## Requests -/

/-- Drum Restart (R60). -/
def serveDrumRestart (s : State) : Answer :=
  let d := { s.drum with missCount := 0, indexKnown := false, sinceIndex := 0 }
  match s.drum.state with
  | .absent => refuse s .conditions
  | .fault => accepted (State.notifyDrum { s with drum := if d.debt = 0 then { d with state := .idle } else d.start })
  | _ => accepted { s with drum := d }

/-- Drum Read (R62, R182). -/
def serveDrumRead (s : State) : Answer :=
  let d := s.drum
  reading s ([byte (drumCode d.state)] ++ bytes2 d.debt ++
    [mark d.lost, byte s.accum.rs, byte d.p, mark d.indexKnown, byte d.missCount, byte d.sinceIndex, mark d.coils])

end Sys2Proof.Machine
end

