-- ==== Sys2Proof/Machine/Trip.lean ====
section
/-!
DEFINITION. The Trip Computer (chapter 4): trip records, figures, fuel flow, consumption and range.
-/
namespace Sys2Proof.Machine

/-! ## Trip records -/

/-- A trip that is counting, in RUN (R63). -/
def Trip.counting (t : Trip) (run : Bool) : Bool := run && !t.paused && !t.saturated

/-- A DU reaches a trip in RUN (R63, R64). -/
def Trip.addDu (t : Trip) (run : Bool) : Trip :=
  if t.counting run then
    if Config.tripDistanceMax < t.distance + 1 then
      { t with distance := Config.tripDistanceMax, saturated := true }
    else { t with distance := t.distance + 1 }
  else t

/-- A batch of k mL reaches a trip (R63, R64). -/
def Trip.addFuel (t : Trip) (run : Bool) (k : Nat) : Trip :=
  if t.counting run then
    if Config.tripFuelMax < t.fuel + k then { t with fuel := Config.tripFuelMax, saturated := true }
    else { t with fuel := t.fuel + k }
  else t

/-- A trip second reaches a trip (R64, R65). -/
def Trip.addSecond (t : Trip) (run : Bool) : Trip :=
  if t.counting run then
    if Config.tripSecondsMax < t.seconds + 1 then
      { t with seconds := Config.tripSecondsMax, saturated := true }
    else { t with seconds := t.seconds + 1 }
  else t

/-- A trip zeroed (R66): its paused flag is kept. -/
def Trip.zeroed (t : Trip) : Trip := { t with distance := 0, fuel := 0, seconds := 0, saturated := false }

/-- A DU reaches the range basis (R74). -/
def TripComputer.basisDu (t : TripComputer) : TripComputer :=
  if t.rbDist + 1 = 20000 then { t with rbDist := 10000, rbFuel := t.rbFuel / 2 }
  else { t with rbDist := t.rbDist + 1 }

/-- A DU reaches the trips and the range basis (R43). -/
def TripComputer.addDu (t : TripComputer) (run : Bool) : TripComputer :=
  { t with a := t.a.addDu run, b := t.b.addDu run }.basisDu

/-- A batch of k mL reaches the trips and the range basis (R44, R74). -/
def TripComputer.addFuel (t : TripComputer) (run : Bool) (k : Nat) : TripComputer :=
  { t with a := t.a.addFuel run k, b := t.b.addFuel run k, rbFuel := min (t.rbFuel + k) Config.basisFuelMax }

/-! ## Figures -/

/-- Average speed in 0.1 km/h, absent below 60 run seconds (R69). -/
def Trip.averageSpeed (t : Trip) : Option Nat :=
  if t.seconds < 60 then none else some (min (roundDiv (t.distance * 360) t.seconds) 3000)

/-- Average consumption in 0.1 L/100 km, absent below 100 DU (R69). -/
def Trip.averageConsumption (t : Trip) : Option Nat :=
  if t.distance < 100 then none else some (min (roundDiv (t.fuel * 100) t.distance) 999)

/-- Fuel used in 0.1 L (R69). -/
def Trip.fuelUsed (t : Trip) : Nat := roundDiv t.fuel 100

/-! ## Flow, consumption and range -/

/-- The flow history with a window's on-time at its newest end, at most 10 entries (R71). -/
def pushFlow (history : List Nat) (c : Nat) : List Nat :=
  (if history.length < 10 then history else history.drop (history.length - 9)) ++ [c]

/-- FUEL_FLOW of a history (R72). -/
def fuelFlow (history : List Nat) (cinj : Nat) : Nat :=
  min (roundDiv (360 * history.sum) (history.length * cinj)) 9999

/-- INST_CONSUMPTION written after FUEL_FLOW in RUN (R73). -/
def State.writeConsumption (s : State) : State :=
  let speed := s.measured 0
  let flow := s.measured 8
  if speed.1 < 100 ∨ speed.2 ≠ .valid ∨ flow.2 ≠ .valid then s.writeChannel 9 none (some .absent)
  else s.writeChannel 9 (some (min (roundDiv (flow.1 * 1000) speed.1) 999)) (some .valid)

/-- The Trip Computer's handling of a window's on-time: the history, FUEL_FLOW and then INST_CONSUMPTION
(R71 to R73). -/
def State.tripWindow (s : State) (c : Nat) : State :=
  let s := { s with trip := { s.trip with history := pushFlow s.trip.history c } }
  (s.writeChannel 8 (some (fuelFlow s.trip.history s.consts.cinj)) (some .valid)).writeConsumption

/-- The raw range R at measured fuel level `f` (R75). -/
def rawRange (f reserve rbDist rbFuel : Nat) : Nat :=
  if f ≤ reserve then 0
  else if rbFuel = 0 then 1999
  else min ((f - reserve) * rbDist / rbFuel) 1999

/-- The raw range as it would be computed now, or absent (R70, R75). -/
def State.rawRangeNow (s : State) : Option Nat :=
  let f := s.measured 2
  if f.2 = .fault ∨ f.2 = .absent then none
  else some (rawRange f.1 s.consts.reserve s.trip.rbDist s.trip.rbFuel)

/-- P after a recomputation with raw range `r` (R76). -/
def presentedAfter (r : Nat) (p : Option Nat) (standing : Bool) : Nat :=
  match p with
  | none => r
  | some p => if standing then r else if r < p then r else min r (p + 1)

/-- The presented range recomputed and RANGE written (R76). -/
def State.presentRange (s : State) : State :=
  match s.rawRangeNow with
  | none =>
    State.writeChannel { s with trip := { s.trip with presented := none } } 10 none (some .absent)
  | some r =>
    let p := presentedAfter r s.trip.presented s.standing
    State.writeChannel { s with trip := { s.trip with presented := some p } } 10 (some p) (some .valid)

/-- A trip second (R65): due each time the clock completes 1000 ms of RUN. -/
def State.tripSecond (s : State) : State :=
  match s.trip.clock with
  | some ms =>
    if s.inRun ∧ 1000 ≤ ms then
      State.presentRange { s with trip :=
        { s.trip with a := s.trip.a.addSecond true, b := s.trip.b.addSecond true, clock := some (ms - 1000) } }
    else s
  | none => s

/-- The Trip B auto-reset check of RUN entry (R68). -/
def State.autoReset (s : State) : State :=
  match s.power.offDuration with
  | some off =>
    if 1 ≤ s.trip.hours ∧ s.trip.hours ≤ 24 ∧ s.trip.hours * 3600 ≤ off then
      State.notify { s with trip := { s.trip with b := s.trip.b.zeroed } } .trip (tripWord off)
    else s
  | none => s

/-! ## Requests -/

/-- A trip record as Trip Read returns it (R70, R182). -/
def Trip.record (t : Trip) : List Byte :=
  bytes4 t.distance ++ bytes4 t.fuel ++ bytes4 t.seconds ++ [flagByte [t.paused, t.saturated]] ++
    optional2 t.averageSpeed ++ optional2 t.averageConsumption ++ bytes4 t.fuelUsed

/-- Trip Read (R70, R182). -/
def serveTripRead (selector : Byte) (s : State) : Answer :=
  match selector.toNat with
  | 0 => reading s s.trip.a.record
  | 1 => reading s s.trip.b.record
  | 2 =>
    reading s (bytes2 s.trip.rbDist ++ bytes4 s.trip.rbFuel ++ optional2 s.rawRangeNow ++
      optional2 s.trip.presented ++ [byte s.trip.history.length] ++ bytes4 s.trip.history.sum)
  | _ => refuse s .badArgument

/-- Trip Reset (R66). -/
def serveTripReset (selector : Byte) (s : State) : Answer :=
  match selector.toNat with
  | 1 => accepted { s with trip := { s.trip with a := s.trip.a.zeroed } }
  | 2 => accepted { s with trip := { s.trip with b := s.trip.b.zeroed } }
  | 3 => accepted { s with trip := { s.trip with a := s.trip.a.zeroed, b := s.trip.b.zeroed } }
  | _ => refuse s .badArgument

/-- A trip after a Trip Control action (R67): 0 no change, 1 run, 2 pause. -/
def Trip.act (t : Trip) (action : Byte) : Trip :=
  match action.toNat with
  | 1 => { t with paused := false }
  | 2 => { t with paused := true }
  | _ => t

/-- Trip Control (R67). -/
def serveTripControl (actionA actionB hours : Byte) (s : State) : Answer :=
  if actionA.toNat > 2 ∨ actionB.toNat > 2 ∨ (25 ≤ hours.toNat ∧ hours.toNat ≤ 254) then refuse s .badArgument
  else
    accepted { s with trip :=
      { s.trip with a := s.trip.a.act actionA, b := s.trip.b.act actionB,
                    hours := if hours = 255 then s.trip.hours else hours.toNat } }

/-- The Trip Computer at Soft Restart (R67). -/
def TripComputer.restart (t : TripComputer) : TripComputer :=
  { t with a := { t.a with paused := false }, b := { t.b with paused := false }, hours := 0 }

end Sys2Proof.Machine
end

