-- ==== Sys2Proof/Machine/Accum.lean ====
section
/-!
DEFINITION. The Accumulator Unit (3.1 to 3.5) and the vehicle constants (9.2): the residues, the units
they emit, the odometer total, and what sets and changes the constants.
-/
namespace Sys2Proof.Machine

/-- The total after one DU (R47). -/
def totalAfter (total : Nat) : Nat := if total = Config.odometerModulus - 1 then 0 else total + 1

/-- A DU reaches the total, the trips and the range basis (R43, R47). -/
def State.countDu (s : State) : State :=
  { s with accum := { s.accum with total := totalAfter s.accum.total }, trip := s.trip.addDu s.inRun }

/-- The ODOMETER post of a total that is a multiple of 100 (R51). -/
def State.postHundred (s : State) : State := if s.accum.total % 100 = 0 then s.postOdometer else s

/-- The SERVICE post of a total that is a multiple of 10,000 (R152). -/
def State.postTenThousand (s : State) : State := if s.accum.total % 10000 = 0 then s.postService else s

/-- A DU emitted and handed on (R43): to the total, the trips and the range basis, the service items and
the drum, with the posts of R51 and R152 (log entry 12). -/
def State.emitDu (s : State) : State := s.countDu.serviceDu.drumDu.postHundred.postTenThousand

/-- An SPD edge reaches the distance residue (R40). -/
def State.addDistance (s : State) : State :=
  if s.consts.kvss ≤ s.accum.rd + 100 then
    State.emitDu { s with accum := { s.accum with rd := s.accum.rd + 100 - s.consts.kvss } }
  else { s with accum := { s.accum with rd := s.accum.rd + 100 } }

/-- A TAC edge reaches the revolution residue (R42). -/
def State.addRevolution (s : State) : State :=
  if s.consts.ppr * 1000 ≤ s.accum.rr + 1 then
    State.serviceKr { s with accum := { s.accum with rr := 0 } }
  else { s with accum := { s.accum with rr := s.accum.rr + 1 } }

/-- A window's on-time reaches the fuel residue, and the mL it emits the trips and the range basis (R41,
R44). -/
def State.addOnTime (s : State) (c : Nat) : State :=
  { s with accum := { s.accum with rf := (s.accum.rf + c) % s.consts.cinj },
           trip := s.trip.addFuel s.inRun ((s.accum.rf + c) / s.consts.cinj) }

/-- A residue rescaled from an old modulus to a new one (R45). -/
def rescale (r old new : Nat) : Nat := if old = new then r else r * new / old

/-- New constants put in force, with the residues rescaled (R45, R158). -/
def State.putConstants (s : State) (c : Constants) : State :=
  { s with consts := c,
           accum := { s.accum with rd := rescale s.accum.rd s.consts.kvss c.kvss,
                                   rf := rescale s.accum.rf s.consts.cinj c.cinj,
                                   rr := rescale s.accum.rr s.consts.ppr c.ppr } }

/-! ## Requests -/

/-- Vehicle Constants Write (R158). DESIGN CHOICE (log entry 43): a value out of range where SPEED refuses the request too is answered
BAD_ARGUMENT. -/
def serveVehicleConstantsWrite (kvss cinj : Word) (ppr : Byte) (consumption : Word) (reserve : Byte)
    (s : State) : Answer :=
  if constantsInRange kvss.toNat cinj.toNat ppr.toNat consumption.toNat reserve.toNat = false then
    refuse s .badArgument
  else if s.inRun ∧ ¬ s.standing then refuse s .conditions
  else
    accepted (s.putConstants
      { kvss := kvss.toNat, cinj := cinj.toNat, ppr := ppr.toNat, consumption := consumption.toNat,
        reserve := reserve.toNat, origin := .written }).postHeader

/-- The HEADER write state (R159). -/
def State.headerWriteState (s : State) : Nat :=
  writeState (s.eeprom.queue.any fun e => e == .header)
    ((s.eeprom.flight.map fun f => f.kind == .header).getD false)

/-- Vehicle Constants Read (R159, R182). -/
def serveVehicleConstantsRead (s : State) : Answer :=
  reading s (bytes2 s.consts.kvss ++ bytes2 s.consts.cinj ++ [byte s.consts.ppr] ++ bytes2 s.consts.consumption ++
    [byte s.consts.reserve, byte (originCode s.consts.origin), byte s.headerWriteState])

/-- The value of the waiting ODOMETER entry. -/
def waitingOdometer (q : List Entry) : Option Nat :=
  q.findSome? fun e => match e with | .odometer v => some v | _ => none

/-- The value of the ODOMETER write in flight. -/
def flyingOdometer (f : Option Flight) : Option Nat :=
  match f with
  | some { kind := .odometer _ v, .. } => some v
  | _ => none

/-- Odometer Read (R54, R182). -/
def serveOdometerRead (s : State) : Answer :=
  let waits := waitingOdometer s.eeprom.queue
  let flies := flyingOdometer s.eeprom.flight
  let st := writeState waits.isSome flies.isSome
  reading s (bytes4 s.accum.total ++ [indexByte s.accum.newestSlot] ++
    bytes4 (if s.accum.newestSlot.isSome then s.accum.newestValue else 0) ++ [byte st] ++
    bytes4 (if st = 1 then waits.getD 0 else if st = 2 then flies.getD 0 else 0))

end Sys2Proof.Machine
end

