-- ==== Sys2Proof/Machine/Pulse.lean ====
section
/-!
DEFINITION. The Pulse Input Unit (1.1 to 1.5): accepted edges, measurement windows, SPEED and ENGINE,
injector on-time and the pulse settings.
-/
namespace Sys2Proof.Machine

/-! ## Filters -/

/-- The filter width in whole FREF counts: 40 µs is 10.24 counts and 4 µs is 1.024 (R1, log entry 30). -/
def PulseInput.width (p : PulseInput) : Nat := if p.filterOn then 10 else 1

/-- The FREF counts from `t` to `e`, 0 once `e` has passed: a stamp more than two ticks ahead stands for one that has. -/
def countsTo (e t : Stamp) : Nat := if span e t ≤ 2 * Config.frefPerTick then span e t else 0

/-- The counts from `t` until the last of `n` changes can be accepted (R1): since the pin last stood at the accepted level
each of them has stood for one width. -/
def PulseInput.changeWait (p : PulseInput) (n : Nat) (t : Stamp) : Nat :=
  match p.stood with
  | none => 0
  | some l => countsTo (l + BitVec.ofNat 24 (n * p.width)) t

/-- The counts from `t` until an active edge can be accepted (R1, R2). From the level it leads to the input must first have
gone back, so that two changes lie between two active edges; and a tick that found the change back pending saw the pin
away from the edge's level, where it must then stand for its width. -/
def PulseInput.edgeWait (p : PulseInput) (t : Stamp) : Nat :=
  if p.accepted = p.selection then p.changeWait 1 t
  else
    match p.pending with
    | none => p.changeWait 2 t
    | some d => max (p.changeWait 2 t) (countsTo (d + BitVec.ofNat 24 p.width) t)

/-- The filter at `t`: a change back from an active edge, pending since a tick found the pin there, has stood for the
width and is accepted (R1, log entry 8). The pin is then last known at that level as of the tick, or of the earliest
acceptance. -/
def PulseInput.settle (p : PulseInput) (t : Stamp) : PulseInput :=
  match p.pending with
  | none => p
  | some d =>
    if p.accepted = !p.selection ∧ p.width ≤ span t d then
      { p with accepted := p.selection, pending := none, stood := some (d + BitVec.ofNat 24 (p.changeWait 1 d)) }
    else p

/-- An input whose change accepted at `t` took it in its selected direction (R2). -/
def PulseInput.edge (p : PulseInput) (t : Stamp) : PulseInput :=
  { p with accepted := !p.selection, pin := !p.selection, pending := none, stood := some t }

/-- An input whose accepted level changed at `t`. -/
def PulseInput.toggle (p : PulseInput) (t : Stamp) : PulseInput :=
  { p with accepted := !p.accepted, pin := !p.accepted, pending := none, stood := some t }

/-- An input that takes the present pin level at `t`, as it is enabled (R1) or its filter restarts (R3). -/
def PulseInput.enable (p : PulseInput) (t : Stamp) : PulseInput :=
  { p with accepted := p.pin, pending := none, stood := some t }

/-- A stamp kept while it is less than a tick old at `t`. -/
def recent (t : Stamp) (l : Option Stamp) : Option Stamp := l.filter fun l => decide (span t l < Config.frefPerTick)

/-- An enabled input's sample at the tick, or at the command's moment, at `t` (R1, log entry 8): a pin found away from the
accepted level is a pending change, and one found there discards it, so that its width starts again. -/
def PulseInput.sample (p : PulseInput) (pin : Bool) (t : Stamp) : PulseInput :=
  if pin = p.accepted then { p with pin := pin, pending := none, stood := some t }
  else { p with pin := pin, pending := some (p.pending.getD t), stood := recent t p.stood }

/-- An enabled input with an active edge, sampled at the tick at `t`. The pin found at the level the edge led to need not
have stood there: a change back can have been accepted since, once a width has passed, and the pin have returned, with the
next edge still to be accepted (R1, log entry 8). Sooner than that it cannot, and the width starts again. -/
def PulseInput.sampleEdges (p : PulseInput) (pin : Bool) (t : Stamp) : PulseInput :=
  if pin = p.accepted ∧ p.accepted = !p.selection then
    { p with pin := pin, pending := none,
             stood := recent t (p.stood.map fun l => if span t l < p.width then t else l) }
  else p.sample pin t

/-- A disabled input: its filter does not run (R1). -/
def PulseInput.disable (p : PulseInput) : PulseInput := { p with pending := none, stood := none }

/-- An input at the tick at `t`; a disabled one keeps the level for its enabling. -/
def PulseInput.watch (p : PulseInput) (enabled pin : Bool) (t : Stamp) : PulseInput :=
  if enabled then p.sample pin t else { p.disable with pin := pin }

/-- SPD, TAC or IDX at the tick at `t`: a change back still pending from the last tick is accepted before it. -/
def PulseInput.watchEdges (p : PulseInput) (enabled pin : Bool) (t : Stamp) : PulseInput :=
  if enabled then (p.settle t).sampleEdges pin t else { p.disable with pin := pin }

/-- The filters of SPD, TAC and IDX brought up to `t` in RUN, where they are enabled (R1, R2). -/
def PulseUnit.settle (u : PulseUnit) (t : Stamp) : PulseUnit :=
  { u with spd := u.spd.settle t, tac := u.tac.settle t, idx := u.idx.settle t }

/-! ## SYNC -/

/-- The falling edge of the part's own pulse, which needs no row: at `t` the line has been driven low for the width
(R89). -/
def GaugeUnit.ownEdge (u : GaugeUnit) (t : Stamp) : Bool :=
  u.syncPulse.isSome && u.sync.accepted == u.sync.selection &&
    (u.sync.pending.map fun d => decide (u.sync.width ≤ span t d)).getD false

/-- SYNC's filter brought up to `t`: its rise is accepted as a pulse input's change back is, and so is the edge of the
part's own pulse (R89). -/
def GaugeUnit.settle (u : GaugeUnit) (t : Stamp) : GaugeUnit :=
  { u with sync := if u.ownEdge t then u.sync.edge t else u.sync.settle t }

/-- SYNC at the tick at `t`, watched in RUN (R89): low while the part drives it, and else as the others leave it. -/
def GaugeUnit.sample (u : GaugeUnit) (run : Bool) (others : Bool) (t : Stamp) : GaugeUnit :=
  let line := others && u.syncPulse.isNone
  { u with sync := if run then (u.settle t).sync.sampleEdges line t else { u.sync.disable with pin := line } }

/-- SYNC pulled low by the part at `t` (R88). -/
def PulseInput.pull (p : PulseInput) (run : Bool) (t : Stamp) : PulseInput :=
  (p.watch run p.pin t).watch run false t

/-- Time moved on to `sub` counts into the present tick in RUN, and the filters with it. -/
def State.advancePulse (s : State) (sub : BitVec 8) : State :=
  let u := s.advance sub
  { u with pulse := u.pulse.settle u.now, gauge := u.gauge.settle u.now }

/-! ## Rates -/

/-- A rate of R8 before its clamp: `num / den`, rounded; over a span of 0 counts it is a free value
(log entry 10). -/
def rate (num den : Nat) : Nat := if den = 0 then Config.rateAtZeroSpan num else roundDiv num den

/-- SPEED from n edges over a span (R8). -/
def speedOf (kvss n span : Nat) : Nat := min (rate (n * 9216000000) (span * kvss)) 3000

/-- ENGINE from n edges over a span (R8). -/
def engineOf (ppr n span : Nat) : Nat := min (rate (n * 15360000) (span * ppr)) 9999

/-! ## Windows -/

/-- An active edge counted in the open window (R4). -/
def Window.edge (w : Window) (t : Stamp) : Window :=
  if w.n = 1023 then { w with overrun := true, tLast := some t }
  else { w with n := w.n + 1, tLast := some t }

/-- What a window's close at `close` writes to its channel, of which the present validity is given
(R5 to R7): a part not written keeps what it had. -/
def Window.result (w : Window) (close : Stamp) (validity : Validity) (value : Nat → Nat → Nat) :
    Option Nat × Option Validity :=
  if w.overrun then (none, some .fault)
  else if w.n = 0 then
    match w.tRef, w.pPrev with
    | none, _ => (some 0, some .valid)
    | some r, p =>
      if w.loss < span close r then (some 0, some .valid)
      else
        match p with
        | none => (none, none)
        | some p => if p < span close r then (some (value 1 (span close r)), some .valid) else (none, none)
  else
    match w.tLast, w.tRef with
    | some l, some r => (some (value w.n (span l r)), some .valid)
    | _, _ => (none, if validity = .fault then some .valid else none)

/-- The window state after its close at `close` (R5 to R7). -/
def Window.next (w : Window) (close : Stamp) : Window :=
  if w.overrun then { w with n := 0, overrun := false, tLast := none, tRef := none, pPrev := none }
  else if w.n = 0 then
    match w.tRef with
    | none => { w with pPrev := none }
    | some r => if w.loss < span close r then { w with tRef := none, pPrev := none } else w
  else
    { w with n := 0, tLast := none, tRef := w.tLast,
             pPrev :=
               match w.tLast, w.tRef with
               | some l, some r => some (span l r / w.n)
               | _, _ => w.pPrev }

/-- A window emptied, its loss timeout kept: at RUN entry and exit (R10) and when its input's filter
restarts (R3). -/
def Window.cleared (w : Window) : Window := { Window.initial with loss := w.loss }

/-- The SPD and TAC windows of the PIU replaced. -/
def State.setWindows (s : State) (spd tac : Window) : State :=
  { s with pulse := { s.pulse with spdWindow := spd, tacWindow := tac } }

/-- SPEED written from the SPD window closing at `close` (R5 to R8). -/
def State.writeSpeed (s : State) (close : Stamp) : State :=
  let r := s.pulse.spdWindow.result close (s.measured 0).2 (speedOf s.consts.kvss)
  s.writeChannel 0 r.1 r.2

/-- ENGINE written from the TAC window closing at `close` (R5 to R8). -/
def State.writeEngine (s : State) (close : Stamp) : State :=
  let r := s.pulse.tacWindow.result close (s.measured 1).2 (engineOf s.consts.ppr)
  s.writeChannel 1 r.1 r.2

/-- The PIU's writes of SPEED and ENGINE at a window close, and the windows it opens. -/
def State.closeWindows (s : State) : State :=
  let s' := (s.writeSpeed s.now).writeEngine s.now
  s'.setWindows (s.pulse.spdWindow.next s.now) (s.pulse.tacWindow.next s.now)

/-! ## Injector on-time -/

/-- INJ stands at its open level (R2). -/
def PulseUnit.injOpen (u : PulseUnit) : Bool := u.inj.accepted == u.inj.selection

/-- The on-time of the open window up to `t` (R9), at most a window's 25,600 counts. -/
def PulseUnit.onTimeAt (u : PulseUnit) (t : Stamp) : Nat :=
  min (if u.injOpen then u.onTime + span t u.injMark else u.onTime) 25600

/-- The on-time reckoned up to `t`. -/
def PulseUnit.reckon (u : PulseUnit) (t : Stamp) : PulseUnit :=
  { u with onTime := u.onTimeAt t, injMark := t }

/-- The on-time count restarted at `t` (R9). -/
def PulseUnit.restartOnTime (u : PulseUnit) (t : Stamp) : PulseUnit := { u with onTime := 0, injMark := t }

/-! ## Events -/

/-- An active SPD edge in the PIU (R4). -/
def State.spdEdge (s : State) : State :=
  { s with pulse := { s.pulse with spd := s.pulse.spd.edge s.now, spdWindow := s.pulse.spdWindow.edge s.now } }

/-- An active TAC edge in the PIU (R4). -/
def State.tacEdge (s : State) : State :=
  { s with pulse := { s.pulse with tac := s.pulse.tac.edge s.now, tacWindow := s.pulse.tacWindow.edge s.now } }

/-- An accepted change of INJ (R9). -/
def State.injChange (s : State) : State :=
  { s with pulse := { s.pulse.reckon s.now with inj := s.pulse.inj.toggle s.now } }

/-- An IDX edge as its input accepts it at `t` (R2). -/
def State.idxInput (s : State) (t : Stamp) : State :=
  { s with pulse := { s.pulse with idx := s.pulse.idx.edge t } }

/-- A window close is due: in RUN, 100 ms after the last boundary (R10). -/
def State.windowDue (s : State) : Bool := s.inRun && decide (100 ≤ s.pulse.windowClock)

/-- The boundary of a window: the next opens at once, its on-time at 0 (R9, R10). -/
def State.openWindow (s : State) : State :=
  { s with pulse := { s.pulse.restartOnTime s.now with windowClock := s.pulse.windowClock - 100 } }

/-- The handing-on of a closed window's on-time (R9): to the fuel residue, and then to the flow history,
before or after the PIU's writes of SPEED and ENGINE (R73). -/
def State.closeWindow (s : State) (tripFirst : Bool) : State :=
  let c := s.pulse.onTimeAt s.now
  let s := s.addOnTime c
  (if tripFirst then (s.tripWindow c).closeWindows else s.closeWindows.tripWindow c).openWindow

/-! ## Power states -/

/-- The PIU at RUN entry (R10). -/
def PulseUnit.runEntry (u : PulseUnit) (t : Stamp) : PulseUnit :=
  { u.restartOnTime t with
      spd := u.spd.enable t, tac := u.tac.enable t, inj := u.inj.enable t,
      spdWindow := u.spdWindow.cleared, tacWindow := u.tacWindow.cleared, windowClock := 0 }

/-- The PIU at RUN exit: a pending change is never accepted (R2, R10). -/
def State.pulseExit (s : State) : State :=
  let s := (s.writeChannel 0 (some 0) (some .valid)).writeChannel 1 (some 0) (some .valid)
  { s with pulse := { s.pulse.restartOnTime s.now with
      spd := s.pulse.spd.disable, tac := s.pulse.tac.disable, inj := s.pulse.inj.disable,
      spdWindow := s.pulse.spdWindow.cleared, tacWindow := s.pulse.tacWindow.cleared, windowClock := 0 } }

/-! ## Requests -/

/-- New settings restart an input's filter if the filter or the selection changes (R3). -/
def PulseInput.restarts (p : PulseInput) (filterOn selection : Bool) : Bool :=
  !(p.filterOn == filterOn && p.selection == selection)

/-- An input under new settings at `t`; a filter that restarts takes the present pin level (R3). -/
def PulseInput.configure (p : PulseInput) (t : Stamp) (filterOn selection : Bool) : PulseInput :=
  if p.restarts filterOn selection then PulseInput.enable { p with filterOn := filterOn, selection := selection } t
  else p

/-- A window under the loss timeout given, cleared when its input's filter restarted (R3). -/
def Window.configure (w : Window) (restarted : Bool) (loss : Nat) : Window :=
  if restarted then { w.cleared with loss := loss } else { w with loss := loss }

/-- The loss timeout of a code, in FREF counts (R3). -/
def lossOf (code : Nat) : Nat := 64000 * 2 ^ code

/-- SPD under new settings at `t` (R3). -/
def PulseUnit.configureSpd (u : PulseUnit) (t : Stamp) (filterOn selection : Bool) (loss : Nat) : PulseUnit :=
  { u with spd := u.spd.configure t filterOn selection,
           spdWindow := u.spdWindow.configure (u.spd.restarts filterOn selection) loss }

/-- TAC under new settings at `t` (R3). -/
def PulseUnit.configureTac (u : PulseUnit) (t : Stamp) (filterOn selection : Bool) (loss : Nat) : PulseUnit :=
  { u with tac := u.tac.configure t filterOn selection,
           tacWindow := u.tacWindow.configure (u.tac.restarts filterOn selection) loss }

/-- INJ under new settings at time `t`; in RUN the on-time counted so far is kept (R3). -/
def PulseUnit.configureInj (u : PulseUnit) (run : Bool) (t : Stamp) (filterOn selection : Bool) : PulseUnit :=
  { (if run then u.reckon t else u) with inj := u.inj.configure t filterOn selection }

/-- IDX under new settings at `t` (R3). -/
def PulseUnit.configureIdx (u : PulseUnit) (t : Stamp) (filterOn selection : Bool) : PulseUnit :=
  { u with idx := u.idx.configure t filterOn selection }

/-- Pulse Input Configure (R3). -/
def servePulseInputConfigure (input filter selection loss : Byte) (s : State) : Answer :=
  if loss.toNat > 3 then refuse s .badArgument
  else
    let f := decide (filter ≠ 0)
    let x := decide (selection ≠ 0)
    match input.toNat with
    | 0 => accepted { s with pulse := s.pulse.configureSpd s.now f x (lossOf loss.toNat) }
    | 1 => accepted { s with pulse := s.pulse.configureTac s.now f x (lossOf loss.toNat) }
    | 2 => accepted { s with pulse := s.pulse.configureInj s.inRun s.now f x }
    | 3 => accepted { s with pulse := s.pulse.configureIdx s.now f x }
    | _ => refuse s .badArgument

/-- The pulse settings at Soft Restart (R10): as by a request that restores each input's default. -/
def PulseUnit.restart (u : PulseUnit) (run : Bool) (t : Stamp) : PulseUnit :=
  (((u.configureSpd t true false (lossOf 2)).configureTac t true false (lossOf 2)).configureInj run t true
    false).configureIdx t true false

end Sys2Proof.Machine
end

