-- ==== Sys2Proof/Machine/Analog.lean ====
section
/-!
DEFINITION. The Analog Sampler (1.6 to 1.8): limits and faults, decimation, conversion and the filter.
-/
namespace Sys2Proof.Machine

/-- The channel of input Ai (1.6). -/
def analogChannel (i : Fin 6) : Fin 16 := ⟨2 + i.val, by omega⟩

/-- An input of the sampler replaced. -/
def State.setAnalog (s : State) (i : Fin 6) (a : AnalogInput) : State :=
  { s with sampler := { s.sampler with inputs := s.sampler.inputs.set i a } }

/-- A raw sample is out of range at or beyond a limit (R11). -/
def AnalogInput.outside (a : AnalogInput) (raw : Nat) : Bool := decide (raw ≤ a.low ∨ a.high ≤ raw)

/-- The decimation sum emptied. -/
def AnalogInput.emptied (a : AnalogInput) : AnalogInput := { a with sum := 0, count := 0 }

/-- One step of the filter (R15): the division truncates toward zero. -/
def filterStep (f m s : Nat) : Nat := ((f : Int) + ((m : Int) * 256 - (f : Int)).tdiv (2 ^ s)).toNat

/-- The value a filter state stands for, round(F / 256) (R15). -/
def filterValue (f : Nat) : Nat := roundDiv f 256

/-- |a − b|. -/
def distance (a b : Nat) : Nat := (a - b) + (b - a)

/-- The fast-fill test (R16), made when the mark is set or the channel ABSENT: it fills if the channel was
ABSENT, or if |m − value| has reached a threshold that is not 0. -/
def AnalogInput.fills (a : AnalogInput) (m value : Nat) (validity : Validity) : Bool :=
  validity == .absent || (a.armed && decide (a.threshold ≠ 0) && decide (a.threshold ≤ distance m value))

/-- A filter update with a raw mean (R14 to R16). -/
def State.filterUpdate (s : State) (i : Fin 6) (mean : Nat) : State :=
  let a := s.sampler.inputs[i]
  let c := analogChannel i
  match curveAt (s.curveOf a.curve) mean with
  | none => s.writeChannel c none (some .absent)
  | some y =>
    let m := min y (channelTop c)
    let f := if a.fills m (s.measured c).1 (s.measured c).2 then m * 256 else filterStep a.filter m a.shift
    (s.setAnalog i { a with filter := f, armed := false }).writeChannel c (some (filterValue f)) (some .valid)

/-- A sample taken while the channel is FAULT (R12). -/
def State.sampleFaulted (s : State) (i : Fin 6) (raw : Nat) : State :=
  let a := s.sampler.inputs[i]
  if a.outside raw then s.setAnalog i { a with inCount := 0 }
  else if a.inCount + 1 < 5 then s.setAnalog i { a with inCount := a.inCount + 1 }
  else
    (s.setAnalog i { a with inCount := 0 }).writeChannel (analogChannel i) none
      (some (if s.curveOf a.curve = [] then .absent else .valid))

/-- A sample taken while the channel is not FAULT (R11 to R13). -/
def State.sampleSound (s : State) (i : Fin 6) (raw : Nat) : State :=
  let a := s.sampler.inputs[i]
  if a.outside raw then
    if a.outCount + 1 < 5 then s.setAnalog i { a with outCount := a.outCount + 1 }
    else
      (s.setAnalog i { a.emptied with outCount := 0, inCount := 0 }).writeChannel (analogChannel i) none
        (some .fault)
  else if a.count + 1 < a.decimation then
    s.setAnalog i { a with outCount := 0, sum := a.sum + raw, count := a.count + 1 }
  else
    (s.setAnalog i { a.emptied with outCount := 0 }).filterUpdate i (roundDiv (a.sum + raw) (a.count + 1))

/-- A conversion of input Ai (R11), due every 20 ms in RUN. -/
def State.analogSample (s : State) (i : Fin 6) (raw : Nat) : State :=
  if s.inRun && s.sampler.inputs[i].due then
    let s := s.setAnalog i { s.sampler.inputs[i] with due := false }
    if (s.measured (analogChannel i)).2 = .fault then s.sampleFaulted i raw else s.sampleSound i raw
  else s

/-- The sampler's clock on the tick in RUN (R11): every 20 ms a conversion of each input falls due. -/
def Sampler.tick (u : Sampler) : Sampler :=
  if u.clock + 1 < 20 then { u with clock := u.clock + 1 }
  else { inputs := vmap (fun a : AnalogInput => { a with due := true }) u.inputs, clock := 0 }

/-- The sampler at RUN entry (R18). -/
def Sampler.runEntry (u : Sampler) : Sampler :=
  { inputs := vmap
      (fun a : AnalogInput => { a.emptied with armed := true, outCount := 0, inCount := 0, due := false }) u.inputs,
    clock := 0 }

/-- The sampler at RUN exit (R18). -/
def Sampler.runExit (u : Sampler) : Sampler :=
  { inputs := vmap (fun a : AnalogInput => { a.emptied with due := false }) u.inputs, clock := 0 }

/-! ## Requests -/

/-- An input under new settings (R17). -/
def AnalogInput.configure (a : AnalogInput) (curve : Option (Fin 12)) (low high d shift threshold : Nat) :
    AnalogInput :=
  { a.emptied with curve := curve, low := low, high := high, decimation := d, shift := shift,
                   threshold := threshold }

/-- Analog Input Configure (R17). -/
def serveAnalogInputConfigure (input curve : Byte) (low high : Word) (d shift : Byte) (threshold : Word)
    (s : State) : Answer :=
  match index? 6 input.toNat, optionalIndex 12 curve with
  | some i, some c =>
    if low.toNat ≥ high.toNat ∨ d = 0 ∨ d.toNat > 50 ∨ shift.toNat > 10 then refuse s .badArgument
    else
      accepted (s.setAnalog i
        (s.sampler.inputs[i].configure c low.toNat high.toNat d.toNat shift.toNat threshold.toNat))
  | _, _ => refuse s .badArgument

/-- The sampler at Soft Restart (R18). -/
def Sampler.restart (u : Sampler) : Sampler :=
  { u with inputs := vmap (fun a : AnalogInput => a.configure none 0 1023 5 3 0) u.inputs }

end Sys2Proof.Machine
end

