-- ==== Sys2Proof/Machine/Gauge.lean ====
section
/-!
DEFINITION. The Gauge Unit (chapter 5): targets, the motion step, the coil drive, modes, the key-on sweep
and the gauge requests.
-/
namespace Sys2Proof.Machine

/-! ## Targets -/

/-- A gauge is bound when its source is a channel and its curve is not empty (R78). -/
def State.bound (s : State) (g : Gauge) : Bool := g.config.source.isSome && !(s.curveOf g.config.curve).isEmpty

/-- The target of an angle count, in sub-counts (R78). -/
def subCounts (angle : Nat) : Nat := min angle 1023 * 16

/-- The rest target (R78). -/
def GaugeConfig.restTarget (c : GaugeConfig) : Nat := c.rest * 16

/-- The target of the sweep top: the y of the curve's last point (R78). -/
def sweepTop (curve : Curve) : Nat := subCounts ((curve.getLast?.map Prod.snd).getD 0)

/-- The target of the sweep foot: the y of the curve's first point (R78). -/
def sweepFoot (curve : Curve) : Nat := subCounts ((curve.head?.map Prod.snd).getD 0)

/-- The curve of a gauge evaluated at a presented value, as a target (R78). -/
def State.shown (s : State) (c : GaugeConfig) (value : Nat) : Nat :=
  subCounts ((curveAt (s.curveOf c.curve) value).getD 0)

/-- The demanded target in TRACKING (R79). -/
def State.trackingDemand (s : State) (c : GaugeConfig) : Nat :=
  match c.source with
  | none => c.restTarget
  | some ch =>
    match s.channels.records[ch].presented with
    | (_, .absent) => c.restTarget
    | (v, .fault) => if c.faultRest then c.restTarget else s.shown c v
    | (v, _) => s.shown c v

/-- The demanded target of a gauge in its mode (5.2). -/
def State.demand (s : State) (g : Gauge) : Nat :=
  match g.mode with
  | .parked => g.target
  | .armed => g.config.restTarget
  | .sweepUp => sweepTop (s.curveOf g.config.curve)
  | .sweepDown => sweepFoot (s.curveOf g.config.curve)
  | .tracking => s.trackingDemand g.config
  | .returning => g.config.restTarget

/-- The demand adopted, but for the deadband of a gauge at rest in TRACKING (R80). -/
def Gauge.adopt (g : Gauge) (demand : Nat) : Gauge :=
  if g.mode = .tracking ∧ g.v = 0 ∧ 0 < distance demand g.p ∧ distance demand g.p < g.config.deadband * 16 then
    { g with target := g.p }
  else { g with target := demand }

/-! ## The motion step -/

/-- The braking distance B(v) (R81), for `fuel` at least v. -/
def braking (a rLo : Nat) : Nat → Nat → Nat
  | 0, _ => 0
  | fuel + 1, v => if v ≤ rLo then 0 else max (v - a) rLo + braking a rLo fuel (v - a)

/-- The braking distance of a gauge's present rate (R81). -/
def Gauge.brake (g : Gauge) : Nat := braking g.config.accel g.config.rLo g.v g.v

/-- The target lies strictly on the side away from the movement (R81). -/
def Gauge.behind (g : Gauge) : Bool :=
  decide (0 < g.v) && if g.down then decide (g.p < g.target) else decide (g.target < g.p)

/-- The highest position (R83). -/
def topPosition : Nat := 16383

/-- A move in the gauge's direction, stopped at the limits of travel (R83). -/
def Gauge.carryOn (g : Gauge) : Gauge :=
  if g.down then (if g.p < g.v then { g with p := 0, v := 0 } else { g with p := g.p - g.v })
  else if topPosition < g.p + g.v then { g with p := topPosition, v := 0 }
  else { g with p := g.p + g.v }

/-- The slowing of a gauge whose target lies behind (R81). -/
def Gauge.slow (g : Gauge) : Gauge :=
  if g.v ≤ g.config.accel + g.config.rLo then { g with v := 0 }
  else Gauge.carryOn { g with v := g.v - g.config.accel }

/-- A move of min(v, d) toward a target that lies ahead; arrival stops the gauge (R82). -/
def Gauge.approach (g : Gauge) : Gauge :=
  if distance g.target g.p ≤ g.v then { g with p := g.target, v := 0 }
  else if g.down then { g with p := g.p - g.v }
  else { g with p := g.p + g.v }

/-- The rate of R82 for a gauge that is moving. -/
def Gauge.nextRate (g : Gauge) : Nat :=
  if distance g.target g.p ≤ g.brake then max (g.v - g.config.accel) g.config.rLo
  else min (g.v + g.config.accel) g.config.rHi

/-- The step of R82. -/
def Gauge.ahead (g : Gauge) : Gauge :=
  if g.v = 0 then
    if g.p = g.target then g
    else Gauge.approach { g with v := g.config.rLo, down := decide (g.target < g.p) }
  else Gauge.approach { g with v := g.nextRate }

/-- The rate limited to r_hi (R81). -/
def Gauge.limited (g : Gauge) : Gauge := { g with v := min g.v g.config.rHi }

/-- The move of one motion step toward the adopted target (R81, R82). -/
def Gauge.move (g : Gauge) : Gauge := if g.limited.behind then g.limited.slow else g.limited.ahead

/-- A gauge at rest on its target: it has arrived (R82, R90, R93). -/
def Gauge.arrived (g : Gauge) : Bool := decide (g.v = 0) && decide (g.p = g.target)

/-! ## The coil drive -/

/-- round(255 × sin θ) at the angle counts 0 to 256 (R84, log entry 38). -/
def quarterSine : List Nat :=
  [0, 2, 3, 5, 6, 8, 9, 11, 13, 14, 16, 17, 19, 20, 22, 23, 25, 27, 28, 30, 31, 33, 34, 36, 37, 39,
   41, 42, 44, 45, 47, 48] ++
  [50, 51, 53, 54, 56, 57, 59, 60, 62, 63, 65, 67, 68, 70, 71, 73, 74, 76, 77, 79, 80, 81, 83, 84,
   86, 87, 89, 90, 92, 93, 95, 96] ++
  [98, 99, 100, 102, 103, 105, 106, 108, 109, 110, 112, 113, 115, 116, 117, 119, 120, 122, 123, 124,
   126, 127, 128, 130, 131, 132, 134, 135, 136, 138, 139, 140] ++
  [142, 143, 144, 146, 147, 148, 149, 151, 152, 153, 154, 156, 157, 158, 159, 161, 162, 163, 164,
   165, 167, 168, 169, 170, 171, 172, 174, 175, 176, 177, 178, 179] ++
  [180, 181, 183, 184, 185, 186, 187, 188, 189, 190, 191, 192, 193, 194, 195, 196, 197, 198, 199,
   200, 201, 202, 203, 204, 205, 206, 207, 208, 208, 209, 210, 211] ++
  [212, 213, 214, 215, 215, 216, 217, 218, 219, 220, 220, 221, 222, 223, 223, 224, 225, 226, 226,
   227, 228, 228, 229, 230, 231, 231, 232, 232, 233, 234, 234, 235] ++
  [236, 236, 237, 237, 238, 238, 239, 240, 240, 241, 241, 242, 242, 243, 243, 244, 244, 244, 245,
   245, 246, 246, 247, 247, 247, 248, 248, 248, 249, 249, 249, 250] ++
  [250, 250, 251, 251, 251, 252, 252, 252, 252, 252, 253, 253, 253, 253, 253, 254, 254, 254, 254,
   254, 254, 254, 255, 255, 255, 255, 255, 255, 255, 255, 255, 255] ++
  [255]

/-- The drive of a coil whose sine is that of an angle count (R84). -/
def coilAt (count : Nat) : Coil :=
  let k := count % 1024
  let r := k % 256
  { duty := quarterSine.getD (if k / 256 % 2 = 0 then r else 256 - r) 0, negative := decide (512 < k) }

/-- The angle count of a position (R84). -/
def angleCount (p : Nat) : Nat := roundDiv p 16 % 1024

/-- The coils driven from p (R84). -/
def Gauge.drive (g : Gauge) : Gauge :=
  { g with sine := coilAt (angleCount g.p), cosine := coilAt (angleCount g.p + 256) }

/-- A coil whose duty goes to 0, its polarity as the drive last set it (R84, R98). -/
def Coil.rested (c : Coil) : Coil := { c with duty := 0 }

/-- A gauge parked: at rest, its p and direction kept, its coils off (R84, R96, R99; log entry 19). -/
def Gauge.park (g : Gauge) : Gauge :=
  { g with mode := .parked, v := 0, sine := g.sine.rested, cosine := g.cosine.rested }

/-! ## Modes -/

/-- ARMED or in a sweep mode (R92). -/
def Gauge.inSweep (g : Gauge) : Bool := g.mode == .armed || g.mode == .sweepUp || g.mode == .sweepDown

/-- The mode a gauge starts its motion step in: unbound, it is parked by R85; PARKED and bound in RUN, it
goes to TRACKING by R86. -/
def State.stepMode (s : State) (g : Gauge) : Gauge :=
  if s.inRun then
    if s.bound g then (if g.mode = .parked then { g with mode := .tracking, v := 0 } else g)
    else if g.inSweep ∨ g.mode = .tracking then g.park
    else g
  else g

/-- The mode changes of arrival at the end of a step (R90, R93). -/
def Gauge.arrive (g : Gauge) : Gauge :=
  if g.arrived then
    match g.mode with
    | .sweepUp => { g with mode := .sweepDown }
    | .sweepDown => { g with mode := .tracking }
    | .returning => g.park
    | _ => g
  else g

/-- One motion step of a gauge (R81): it moves, its coils are driven from where it then stands, and it
changes mode if it has arrived. -/
def State.steppedGauge (s : State) (g : Gauge) : Gauge :=
  let g := s.stepMode g
  if g.mode = .parked then g else (g.adopt (s.demand g)).move.drive.arrive

/-- A step that brings a gauge to its sweep foot completes its sweep (R90). -/
def completes (before after : Gauge) : Bool := before.mode == .sweepDown && after.mode == .tracking

/-- The gauges replaced. -/
def State.setGauges (s : State) (gs : Vector Gauge 6) : State :=
  { s with gauge := { s.gauge with gauges := gs } }

/-- The sweep state replaced. -/
def State.setSweep (s : State) (w : Sweep) : State := { s with gauge := { s.gauge with sweep := w } }

/-- SYNC's filter replaced. -/
def State.setSync (s : State) (p : PulseInput) : State := { s with gauge := { s.gauge with sync := p } }

/-- The completed mask after the gauges have stepped (R90). -/
def markCompleted (before after : Vector Gauge 6) (marks : Vector Bool 6) : Vector Bool 6 :=
  ⟨(List.finRange 6).map (fun k => marks[k] || completes before[k] after[k]) |>.toArray, by simp⟩

/-- An open sweep closes when no gauge is ARMED or sweeping (R92). -/
def State.checkSweep (s : State) : State :=
  if s.gauge.sweep.isOpen && s.gauge.gauges.toList.all (fun g => !g.inSweep) then
    let w := { s.gauge.sweep with isOpen := false, delayTimer := none, timeout := none }
    (s.setSweep w).notify .sweep w.noticeWord
  else s

/-- The gauges stepped and the completed mask marked (R81, R90). -/
def State.stepGauges (s : State) : State :=
  let gs := vmap s.steppedGauge s.gauge.gauges
  (s.setGauges gs).setSweep
    { s.gauge.sweep with completed := markCompleted s.gauge.gauges gs s.gauge.sweep.completed }

/-- A motion step is due every 10 ms (R81). -/
def State.motionDue (s : State) : Bool := decide (10 ≤ s.gauge.clock)

/-- A motion step of the six gauges (R81), and the close of the sweep it may bring (R92). -/
def State.motionStep (s : State) : State :=
  if s.motionDue then
    State.checkSweep
      (State.stepGauges { s with gauge := { s.gauge with clock := s.gauge.clock - 10 } })
  else s

/-! ## The key-on sweep -/

/-- At least one gauge is ARMED (R88). -/
def State.anyArmed (s : State) : Bool := s.gauge.gauges.toList.any fun g => g.mode == .armed

/-- Every ARMED gauge to another mode, keeping its motion (R88, R91). -/
def State.moveArmed (s : State) (m : GaugeMode) : State :=
  s.setGauges (vmap (fun g : Gauge => if g.mode = .armed then { g with mode := m } else g) s.gauge.gauges)

/-- A start event (R88): the ARMED gauges go to SWEEP_UP under the cause, and a start by request or delay
drives SYNC low for 1 ms. It does nothing when no gauge is ARMED. -/
def State.startSweep (s : State) (cause : SweepCause) : State :=
  if s.anyArmed then
    let s := (s.moveArmed .sweepUp).setSweep { s.gauge.sweep with cause := cause }
    if cause = .sync then s
    else { s with gauge := { s.gauge with syncPulse := some 1, sync := s.gauge.sync.pull s.inRun s.now } }
  else s

/-- Expiry of the delay timer (R88). -/
def State.sweepDelayExpiry (s : State) : State :=
  if s.gauge.sweep.delayTimer = some 0 then
    (s.setSweep { s.gauge.sweep with delayTimer := none }).startSweep .delay
  else s

/-- Expiry of the sweep timeout (R91). -/
def State.sweepTimeoutExpiry (s : State) : State :=
  if s.gauge.sweep.timeout = some 0 then
    ((s.setSweep { s.gauge.sweep with timeout := none }).moveArmed .tracking).checkSweep
  else s

/-- SYNC is driven low by the part's own pulse alone (R89). -/
def State.syncLow (s : State) : Bool := s.gauge.syncPulse.isSome

/-- While the part holds SYNC low, its low level accepted, no falling edge can be seen (R89). -/
def State.syncBlind (s : State) : Bool := s.syncLow && s.gauge.sync.accepted != s.gauge.sync.selection

/-- SYNC's edge as its filter accepts it at `t` (R89). -/
def State.syncInput (s : State) (t : Stamp) : State := s.setSync (s.gauge.sync.edge t)

/-- A falling edge on SYNC, watched in RUN (R89), that the filter can have accepted in the present tick. The row carries
no time within the tick, so the edge is taken as early as it can have come (log entry 30). -/
def State.syncEdge (s : State) : State :=
  let t := s.now + BitVec.ofNat 24 (s.gauge.sync.edgeWait s.now)
  if s.inRun && !s.syncBlind && decide (span t s.time.fref < Config.frefPerTick) then (s.syncInput t).startSweep .sync
  else s

/-- The end of the part's own SYNC pulse (R88); the line was low until now. -/
def State.syncPulseEnd (s : State) : State :=
  if s.gauge.syncPulse = some 0 then
    { s with gauge := { s.gauge with syncPulse := none, sync := s.gauge.sync.watch s.inRun false s.now } }
  else s

/-- The mode a gauge goes to at RUN entry, its coils driven when it leaves PARKED (R87). -/
def State.enteredGauge (s : State) (g : Gauge) : Gauge :=
  if s.bound g then Gauge.drive { g with mode := if g.config.sweep then .armed else .tracking } else g.park

/-- The sweep at RUN entry: it opens when a gauge is ARMED (R87). -/
def Sweep.enter (w : Sweep) (armed : Bool) : Sweep :=
  if armed then
    { w with isOpen := true, completed := Vector.replicate 6 false, cause := .none,
             timeout := some Config.sweepTimeoutMs,
             delayTimer := if w.delay = 0 then none else some (w.delay * 10) }
  else { w with timeout := none, delayTimer := none }

/-- The Gauge Unit at RUN entry (R87), from which SYNC is watched (R89). -/
def State.gaugeEntry (s : State) : State :=
  let s := s.setGauges (vmap s.enteredGauge s.gauge.gauges)
  (s.setSweep (s.gauge.sweep.enter s.anyArmed)).setSync (s.gauge.sync.enable s.now)

/-- A gauge at RUN exit: not PARKED, it goes to RETURNING and its rest target is its target (R93). -/
def Gauge.homeward (g : Gauge) : Gauge :=
  if g.mode = .parked then g else { g with mode := .returning, target := g.config.restTarget }

/-- The Gauge Unit at RUN exit (R93): every gauge homeward, the sweep closed, and SYNC no longer watched (R89). -/
def State.gaugeExit (s : State) : State :=
  State.checkSweep ((s.setGauges (vmap Gauge.homeward s.gauge.gauges)).setSync s.gauge.sync.disable)

/-- The Gauge Unit's clocks on the tick; the motion clock from the end of INIT (R81). -/
def GaugeUnit.tick (u : GaugeUnit) (moving : Bool) : GaugeUnit :=
  { u with clock := if moving then u.clock + 1 else u.clock,
           syncPulse := countDown u.syncPulse,
           sweep := { u.sweep with delayTimer := countDown u.sweep.delayTimer,
                                   timeout := countDown u.sweep.timeout } }

/-! ## Requests -/

/-- Whether the settings of a Gauge Configure are refused, but for the gauge index (R95). -/
def gaugeRefused (f : GaugeFields) (delay : Word) : Bool :=
  (optionalIndex 16 f.source).isNone || (optionalIndex 12 f.curve).isNone ||
  decide (f.rest.toNat > 1023) || decide (f.faultMode.toNat > 1) || decide (f.sweep.toNat > 1) ||
  decide (f.rLo = 0) || decide (f.accel = 0) || decide (f.rHi = 0) || decide (f.rHi.toNat > 1023) ||
  decide (f.deadband.toNat > 63) || decide (256 ≤ delay.toNat ∧ delay.toNat ≤ 65534)

/-- The settings as stored (R95). -/
def gaugeConfigOf (f : GaugeFields) : GaugeConfig :=
  { source := (optionalIndex 16 f.source).getD none, curve := (optionalIndex 12 f.curve).getD none,
    rest := f.rest.toNat, faultRest := decide (f.faultMode = 1), rLo := f.rLo.toNat,
    rHi := max f.rHi.toNat f.rLo.toNat, accel := f.accel.toNat, deadband := f.deadband.toNat,
    sweep := decide (f.sweep = 1) }

/-- A gauge under new settings: a source of none parks it at once (R96). -/
def Gauge.configure (g : Gauge) (c : GaugeConfig) : Gauge :=
  if c.source = none then Gauge.park { g with config := c } else { g with config := c }

/-- The auto-sweep delay a request leaves (R95). -/
def delayAfter (delay : Word) (old : Nat) : Nat := if delay = 65535 then old else delay.toNat

/-- Gauge Configure (R95, R96). -/
def serveGaugeConfigure (gauge : Byte) (f : GaugeFields) (delay : Word) (s : State) : Answer :=
  match index? 6 gauge.toNat with
  | none => refuse s .badArgument
  | some k =>
    if gaugeRefused f delay then refuse s .badArgument
    else
      let s := s.setGauges (vmod s.gauge.gauges k fun g => g.configure (gaugeConfigOf f))
      accepted (s.setSweep { s.gauge.sweep with delay := delayAfter delay s.gauge.sweep.delay }).checkSweep

/-- Sweep Start (R97). -/
def serveSweepStart (s : State) : Answer :=
  if s.anyArmed then accepted (s.startSweep .request) else refuse s .conditions

/-- The settings of a gauge as Gauge Read returns them (R98, R182). -/
def GaugeConfig.bytes (c : GaugeConfig) : List Byte :=
  [indexByte c.source, indexByte c.curve] ++ bytes2 c.rest ++ [mark c.faultRest, byte c.rLo] ++ bytes2 c.rHi ++
    [byte c.accel, byte c.deadband, mark c.sweep]

/-- Gauge Read (R98, R182). -/
def serveGaugeRead (gauge : Byte) (s : State) : Answer :=
  match index? 6 gauge.toNat with
  | none => refuse s .badArgument
  | some k =>
    let g := s.gauge.gauges[k]
    let w := s.gauge.sweep
    reading s (g.config.bytes ++ [byte (modeCode g.mode)] ++ bytes2 g.p ++ bytes2 g.v ++ [mark g.down] ++
      bytes2 g.target ++ bytes2 (angleCount g.p) ++ [byte g.sine.duty, byte g.cosine.duty] ++
      [flagByte [g.sine.negative, g.cosine.negative], byte w.delay, mark w.isOpen] ++ optional2 w.delayTimer ++
      optional2 w.timeout ++ [w.mask, byte (causeCode w.cause)])

/-- The Gauge Unit at Soft Restart (R99): default settings, every gauge parked at once, the delay 0 and an
open sweep closed. -/
def State.restartGauges (s : State) : State :=
  let s := s.setGauges (vmap (fun g : Gauge => Gauge.park { g with config := .initial }) s.gauge.gauges)
  State.checkSweep (s.setSweep { s.gauge.sweep with delay := 0 })

end Sys2Proof.Machine
end

