-- ==== Sys2Proof/Machine/Monitor.lean ====
section
/-!
DEFINITION. The Monitor Table (chapter 6): evaluation, the states and what entering them does,
acknowledgement and reminders, and the monitor requests.
-/
namespace Sys2Proof.Machine

/-! ## Settings -/

/-- The lamp of a monitor, or none. -/
def Monitor.lamp? (m : Monitor) : Option (Fin 12) := index? 12 m.config.lamp.toNat

/-- The configured mode of the lamp claim. -/
def Monitor.lampMode (m : Monitor) : LampMode := if m.config.lampMode = 0 then .on else .flash

/-- The chime action of a monitor, or none: pattern, priority and passes. -/
def Monitor.chime? (m : Monitor) : Option (Fin 12 × Nat × Nat) :=
  (index? 12 m.config.pattern.toNat).map fun p => (p, m.config.priority.toNat, m.config.passes.toNat)

/-- A monitor of run-in RUN only. -/
def Monitor.runOnly (m : Monitor) : Bool := decide (m.config.runIn = 0)

/-- The monitor's run-in admits the present power state (R100). -/
def State.admits (s : State) (m : Monitor) : Bool := if m.runOnly then s.inRun else s.awake

/-- ACTIVE or RELEASING. -/
def Monitor.warning (m : Monitor) : Bool := m.state == .active || m.state == .releasing

/-- A monitor replaced. -/
def State.setMonitor (s : State) (i : Fin 16) (m : Monitor) : State :=
  { s with monitor := { s.monitor with monitors := s.monitor.monitors.set i m } }

/-- A monitor. -/
def State.monitorAt (s : State) (i : Fin 16) : Monitor := s.monitor.monitors[i]

/-- A monitor's claim on its lamp, if it has a lamp action. -/
def State.setMonitorClaim (s : State) (i : Fin 16) (c : Option LampMode) : State :=
  match (s.monitorAt i).lamp? with
  | none => s
  | some l => s.setClaim l (monitorClaim i) c

/-- A monitor's chime request posted, if it has a chime action. -/
def State.postMonitorChime (s : State) (i : Fin 16) : State :=
  match (s.monitorAt i).chime? with
  | none => s
  | some (p, priority, passes) => s.postChime (monitorSource i) p priority passes

/-- A MONITOR notice, if the monitor's notice setting is yes (R107). -/
def State.notifyMonitor (s : State) (i : Fin 16) : State :=
  if (s.monitorAt i).config.notice = 0 then s else s.notify (.monitor i) (s.monitorAt i).noticeWord

/-! ## The raw condition -/

/-- Whether a discrete input is active, by its index. -/
def State.discreteActive (s : State) (k : Nat) : Bool :=
  match index? 12 k with
  | none => false
  | some k => s.discretes.inputs[k].active

/-- A qualifier passes (R101). -/
def State.qualifies (s : State) (kind index : Byte) : Bool :=
  match kind.toNat with
  | 0 => true
  | 1 => s.discreteActive index.toNat
  | 2 => !s.discreteActive index.toNat
  | 3 =>
    match index? 16 index.toNat with
    | none => false
    | some j => (s.monitorAt j).warning
  | _ => s.inRun

/-- The source as an evaluation reads it (R100, R108): a channel's presented face, or 1 or 0 for an active
or inactive discrete, VALID. -/
def State.sourceOf (s : State) (m : Monitor) : Nat × Validity :=
  if m.config.srcKind = 0 then
    match index? 16 m.config.srcIndex.toNat with
    | none => (0, .absent)
    | some c => s.channels.records[c].presented
  else (if s.discreteActive m.config.srcIndex.toNat then 1 else 0, .valid)

/-- The methods (R102), from the value read and the previous raw condition. -/
def Monitor.applyMethod (m : Monitor) (v : Nat) : Bool :=
  let lo := m.config.setLo.toNat
  let hi := m.config.setHi.toNat
  let h := m.config.hyst.toNat
  match m.config.method.toNat with
  | 0 => if lo < v then true else if v + h ≤ lo then false else m.raw
  | 1 => if v < lo then true else if lo + h ≤ v then false else m.raw
  | 2 => if v < lo ∨ hi < v then true else if lo + h ≤ v ∧ v + h ≤ hi then false else m.raw
  | 3 => decide (v = 1)
  | _ => decide (v ≠ 1)

/-- The raw condition an evaluation forms, or none when the evaluation is frozen (R101). -/
def State.rawOf (s : State) (m : Monitor) : Option Bool :=
  let r := s.sourceOf m
  if ¬ (s.qualifies m.config.q1Kind m.config.q1Index ∧ s.qualifies m.config.q2Kind m.config.q2Index) then
    some false
  else if r.2 = .fault ∨ r.2 = .absent ∨ r.2 = .stale then
    match m.config.faultSense.toNat with
    | 0 => some true
    | 1 => some false
    | _ => none
  else some (m.applyMethod r.1)

/-! ## States -/

/-- The snapshot a monitor holds after an entry to ACTIVE (R108). -/
def Monitor.snapped (m : Monitor) (total : Nat) : Option Snapshot :=
  if m.config.snapshot ≠ 0 ∧ m.snapshot = none then
    some { total := total, value := m.reading.1, validity := m.reading.2 }
  else m.snapshot

/-- Entry to ACTIVE from PENDING or CLEAR (R104). -/
def State.enterActive (s : State) (i : Fin 16) : State :=
  let m := s.monitorAt i
  let s := s.setMonitor i { m with state := .active, assertTimer := none, snapshot := m.snapped s.accum.total }
  ((s.setMonitorClaim i (some m.lampMode)).postMonitorChime i).notifyMonitor i

/-- Entry to CLEAR from RELEASING (R106). -/
def State.enterClear (s : State) (i : Fin 16) : State :=
  let m := s.monitorAt i
  let s := s.setMonitor i
    { m with state := .clear, acked := false, releaseTimer := none, reminderTimer := none }
  ((s.setMonitorClaim i none).withdrawChime (monitorSource i)).notifyMonitor i

/-- A monitor goes to RELEASING, and at once to CLEAR when the release delay is 0 (R105, R109). -/
def State.startRelease (s : State) (i : Fin 16) : State :=
  let m := s.monitorAt i
  if m.config.releaseDelay = 0 then s.enterClear i
  else s.setMonitor i { m with state := .releasing, releaseTimer := some m.config.releaseDelay.toNat }

/-- A monitor in CLEAR finds its condition true (R103). -/
def State.startAssert (s : State) (i : Fin 16) : State :=
  let m := s.monitorAt i
  if m.config.assertDelay = 0 then s.enterActive i
  else s.setMonitor i { m with state := .pending, assertTimer := some m.config.assertDelay.toNat }

/-- The state rules of an evaluation that has stored the raw condition (R103 to R106, R110). -/
def State.stateRules (s : State) (i : Fin 16) : State :=
  let m := s.monitorAt i
  match m.state with
  | .off => s
  | .clear => if m.raw then s.startAssert i else s
  | .pending =>
    s.setMonitor i
      (if m.raw then { m with assertTimer := countDown m.assertTimer }
       else { m with state := .clear, assertTimer := none })
  | .active =>
    if m.raw = false ∧ (m.config.latching = 0 ∨ m.acked = true) then s.startRelease i
    else if m.acked then s.setMonitor i { m with reminderTimer := countDown m.reminderTimer }
    else s
  | .releasing =>
    s.setMonitor i
      (if m.raw then { m with state := .active, releaseTimer := none }
       else { m with releaseTimer := countDown m.releaseTimer })

/-- A timer of the monitor has run out and its expiry has not been taken (log entry 26). -/
def Monitor.expiring (m : Monitor) : Bool :=
  m.assertTimer == some 0 || m.releaseTimer == some 0 || m.reminderTimer == some 0

/-- An evaluation of an enabled monitor that its run-in admits (R101): frozen, or by the state rules. -/
def State.evaluate (s : State) (i : Fin 16) : State :=
  let m := s.monitorAt i
  match s.rawOf m with
  | none => s
  | some r => (s.setMonitor i { m with raw := r, reading := s.sourceOf m }).stateRules i

/-- One of the sixteen evaluations of a moment (R100): due once the clock has given it. -/
def State.monitorEvaluation (s : State) (i : Fin 16) : State :=
  let m := s.monitorAt i
  if m.due && !m.expiring then
    let s := s.setMonitor i { m with due := false }
    if decide (m.config.enabled ≠ 0) && s.admits m then s.evaluate i else s
  else s

/-- The assert timer has reached 0 (R103, R104). -/
def State.assertExpiry (s : State) (i : Fin 16) : State :=
  let m := s.monitorAt i
  if m.state = .pending ∧ m.assertTimer = some 0 ∧ s.admits m = true then s.enterActive i else s

/-- The release timer has reached 0 (R106). -/
def State.releaseExpiry (s : State) (i : Fin 16) : State :=
  let m := s.monitorAt i
  if m.state = .releasing ∧ m.releaseTimer = some 0 ∧ s.admits m = true then s.enterClear i else s

/-- The reminder timer has reached 0 (R110). -/
def State.reminderExpiry (s : State) (i : Fin 16) : State :=
  let m := s.monitorAt i
  if m.state = .active ∧ m.reminderTimer = some 0 ∧ s.admits m = true then
    let s := s.setMonitor i { m with acked := false, reminderTimer := none }
    ((s.setMonitorClaim i (some m.lampMode)).postMonitorChime i).notifyMonitor i
  else s

/-- The evaluation clock on the tick (R100): every 100 ms the sixteen evaluations fall due. -/
def MonitorTable.tick (t : MonitorTable) : MonitorTable :=
  match t.clock with
  | none => t
  | some c =>
    if c + 1 < 100 then { t with clock := some (c + 1) }
    else { monitors := vmap (fun m : Monitor => { m with due := true }) t.monitors, clock := some 0 }

/-- The evaluation clock stopped at ASLEEP entry (R100). -/
def MonitorTable.stop (t : MonitorTable) : MonitorTable :=
  { monitors := vmap (fun m : Monitor => { m with due := false }) t.monitors, clock := none }

/-- The evaluation clock started: the first evaluation comes 100 ms later (R100). -/
def MonitorTable.start (t : MonitorTable) : MonitorTable := { t with clock := some 0 }

/-- A monitor set CLEAR with nothing placed and no timer: at RUN exit and at configuration. -/
def Monitor.cleared (m : Monitor) (state : MonitorState) : Monitor :=
  { m with state := state, acked := false, raw := false, assertTimer := none, releaseTimer := none,
           reminderTimer := none }

/-- RUN exit for one monitor (R112). -/
def State.monitorExit (s : State) (i : Fin 16) : State :=
  let m := s.monitorAt i
  if m.runOnly = false then s
  else if m.state = .off ∨ m.state = .clear then s.setMonitor i { m with raw := false }
  else
    let s := ((s.setMonitor i (m.cleared .clear)).setMonitorClaim i none).withdrawChime (monitorSource i)
    if m.warning then s.notifyMonitor i else s

/-- RUN exit for the Monitor Table (R112). -/
def State.monitorsExit (s : State) : State := (List.finRange 16).foldl State.monitorExit s

/-! ## Requests -/

/-- A reminder timer started at the interval × 600 evaluations, or left as it is for an interval of 0
(R109). -/
def Monitor.remind (m : Monitor) : Monitor :=
  if m.config.reminder = 0 then m else { m with reminderTimer := some (m.config.reminder.toNat * 600) }

/-- An acknowledgement of a monitor in ACTIVE or RELEASING (R109). -/
def State.acknowledge (s : State) (i : Fin 16) : State :=
  let m := s.monitorAt i
  if m.acked then s.setMonitor i m.remind
  else
    let s := s.setMonitor i { m.remind with acked := true }
    let s := (s.setMonitorClaim i (some .on)).withdrawChime (monitorSource i)
    if m.config.latching ≠ 0 ∧ m.state = .active ∧ m.raw = false then s.startRelease i else s

/-- The monitors in ACTIVE or RELEASING. -/
def State.warnings (s : State) : List (Fin 16) := (List.finRange 16).filter fun i => (s.monitorAt i).warning

/-- Monitor Acknowledge (R109). -/
def serveMonitorAcknowledge (monitor : Byte) (s : State) : Answer :=
  if monitor = 255 then
    { state := s.warnings.foldl State.acknowledge s, result := .ok, data := [byte s.warnings.length] }
  else
    match index? 16 monitor.toNat with
    | none => refuse s .badArgument
    | some i => if (s.monitorAt i).warning then accepted (s.acknowledge i) else refuse s .conditions

/-- A qualifier of a Monitor Configure for monitor `own` is refused (R114). -/
def qualifierRefused (own : Nat) (kind index : Byte) : Bool :=
  match kind.toNat with
  | 0 => false
  | 1 => decide (index.toNat > 11)
  | 2 => decide (index.toNat > 11)
  | 3 => decide (index.toNat > 15) || decide (index.toNat = own)
  | 4 => false
  | _ => true

/-- The source, method and limits of a Monitor Configure are refused (R114, R180). -/
def methodRefused (f : MonitorFields) : Bool :=
  match f.srcKind.toNat with
  | 0 =>
    decide (f.srcIndex.toNat > 15) ||
    match f.method.toNat with
    | 0 => decide (f.hyst.toNat > f.setLo.toNat)
    | 1 => decide (f.setLo.toNat + f.hyst.toNat > 65535)
    | 2 => decide (f.setLo.toNat + 2 * f.hyst.toNat > f.setHi.toNat)
    | _ => true
  | 1 => decide (f.srcIndex.toNat > 11) || !(decide (f.method = 3) || decide (f.method = 4))
  | _ => true

/-- The lamp action of a Monitor Configure is refused (R114). -/
def lampRefused (f : MonitorFields) : Bool :=
  match optionalIndex 12 f.lamp with
  | none => true
  | some none => false
  | some (some _) => decide (f.lampMode.toNat > 1)

/-- The chime action of a Monitor Configure is refused (R114). -/
def chimeRefused (f : MonitorFields) (s : State) : Bool :=
  match optionalIndex 12 f.pattern with
  | none => true
  | some none => false
  | some (some p) =>
    decide (f.priority.toNat > 7) || decide (f.passes.toNat > 15) || decide (s.chime.steps p = [])

/-- Whether the settings of a Monitor Configure are refused for monitor `own` (R114, R180). -/
def monitorRefused (own : Nat) (f : MonitorFields) (s : State) : Bool :=
  decide (f.enabled.toNat > 1) || decide (f.latching.toNat > 1) || decide (f.notice.toNat > 1) ||
  decide (f.snapshot.toNat > 1) || decide (f.runIn.toNat > 1) || decide (f.faultSense.toNat > 2) ||
  methodRefused f || qualifierRefused own f.q1Kind f.q1Index || qualifierRefused own f.q2Kind f.q2Index ||
  lampRefused f || chimeRefused f s

/-- An accepted Monitor Configure (R115): the old claim and request go, and the monitor sets out afresh. -/
def State.configureMonitor (s : State) (i : Fin 16) (f : MonitorFields) : State :=
  let m := s.monitorAt i
  let s := (s.setMonitorClaim i none).withdrawChime (monitorSource i)
  s.setMonitor i (Monitor.cleared { m with config := f } (if f.enabled = 0 then .off else .clear))

/-- Monitor Configure (R114, R115). -/
def serveMonitorConfigure (monitor : Byte) (f : MonitorFields) (s : State) : Answer :=
  match index? 16 monitor.toNat with
  | none => refuse s .badArgument
  | some i =>
    if monitorRefused i.val f s then refuse s .badArgument else accepted (s.configureMonitor i f)

/-- The settings of a monitor as Monitor Configure carries them, offsets 1 to 27 (11.3). -/
def monitorBytes (f : MonitorFields) : List Byte :=
  [f.enabled, f.srcKind, f.srcIndex, f.method] ++ wordBytes f.setLo ++ wordBytes f.setHi ++ wordBytes f.hyst ++
    [f.q1Kind, f.q1Index, f.q2Kind, f.q2Index, f.assertDelay, f.releaseDelay, f.faultSense, f.runIn, f.latching,
      f.lamp, f.lampMode, f.pattern, f.priority, f.passes, f.reminder, f.notice, f.snapshot]

/-- The snapshot fields of Monitor Read, 0 when none is held (R182). -/
def snapshotBytes (x : Option Snapshot) : List Byte :=
  match x with
  | none => bytes4 0 ++ bytes2 0 ++ [0]
  | some x => bytes4 x.total ++ bytes2 x.value ++ [byte (validityCode x.validity)]

/-- A monitor's claim on its lamp as it stands. -/
def State.monitorClaimOf (s : State) (i : Fin 16) : Option LampMode :=
  match (s.monitorAt i).lamp? with
  | none => none
  | some l => s.lamp.claim l (monitorClaim i)

/-- The state fields of Monitor Read (R116, R182). -/
def monitorStateBytes (s : State) (i : Fin 16) : List Byte :=
  let m := s.monitorAt i
  [byte (monitorCode m.state), flagByte [m.acked, m.raw, m.snapshot.isSome]] ++ optional2 m.assertTimer ++
    optional2 m.releaseTimer ++ optional4 m.reminderTimer ++ [byte (claimCode (s.monitorClaimOf i))] ++
    chimeStanding s.chime (monitorSource i) ++ snapshotBytes m.snapshot

/-- Monitor Read (R116, R182). -/
def serveMonitorRead (monitor part : Byte) (s : State) : Answer :=
  match index? 16 monitor.toNat, part.toNat with
  | some i, 0 => reading s (monitorBytes (s.monitorAt i).config)
  | some i, 1 => reading s (monitorStateBytes s i)
  | _, _ => refuse s .badArgument

/-- A monitor's snapshot removed (R117). -/
def State.clearSnapshot (s : State) (i : Fin 16) : State :=
  s.setMonitor i { s.monitorAt i with snapshot := none }

/-- Monitor Clear Snapshot (R117). -/
def serveMonitorClearSnapshot (monitor : Byte) (s : State) : Answer :=
  if monitor = 255 then accepted ((List.finRange 16).foldl State.clearSnapshot s)
  else
    match index? 16 monitor.toNat with
    | none => refuse s .badArgument
    | some i => accepted (s.clearSnapshot i)

/-- One monitor at Soft Restart (R118). -/
def State.restartMonitor (s : State) (i : Fin 16) : State :=
  ((s.setMonitorClaim i none).withdrawChime (monitorSource i)).setMonitor i .initial

/-- The Monitor Table at Soft Restart (R118). -/
def State.restartMonitors (s : State) : State := (List.finRange 16).foldl State.restartMonitor s

end Sys2Proof.Machine
end

