-- ==== Sys2Proof/Machine/Power.lean ====
section
/-!
DEFINITION. Power Control and the Time Base (9.1 to 9.4, R141): reset, INIT, the three power states, the
wake and the linger timer.
-/
namespace Sys2Proof.Machine

/-! ## Linger and wake -/

/-- The power state and the linger timer replaced. -/
def State.setPower (s : State) (p : PowerState) (l : Linger) : State :=
  { s with power := { s.power with state := p, linger := l } }

/-- The linger timer at its full time (R162). -/
def Linger.full : Linger := .running Config.lingerMs

/-- The linger timer set to its full time again, in AWAKE_OFF alone (R162). -/
def State.restartLinger (s : State) : State :=
  if s.power.state = .awakeOff then s.setPower .awakeOff .full else s

/-- The linger timer counts in AWAKE_OFF (R162). -/
def PowerControl.tick (p : PowerControl) : PowerControl :=
  match p.state, p.linger with
  | .awakeOff, .running n => { p with linger := .running (n - 1) }
  | _, _ => p

/-- The linger timer has reached 0: it stays expired (R162). -/
def State.lingerExpiry (s : State) : State :=
  if s.power.state = .awakeOff ∧ s.power.linger = .running 0 then s.setPower .awakeOff .expired else s

/-- The clocks that stand still in ASLEEP started: the evaluation clock, the flash clock, the duty and
IDX (R10, R100, R135, R136, R164). -/
def State.startClocks (s : State) : State :=
  State.startLamps { s with monitor := s.monitor.start, pulse := { s.pulse with idx := s.pulse.idx.enable s.now } }

/-- A POWER notice of the state entered (R163). -/
def State.notifyPower (s : State) (cause : Nat) : State := s.notify .power (powerWord cause s.power.state)

/-- The part leaves ASLEEP for AWAKE_OFF (R163, R164). -/
def State.wake (s : State) (cause : Nat) : State :=
  (s.startClocks.setPower .awakeOff .full).notifyPower cause

/-- The conditions of ASLEEP entry (R162). DESIGN CHOICE (log entry 20): a wake attribute newly configured counts here at
once, where R21 has it apply from the input's next change. -/
def State.maySleep (s : State) : Bool :=
  s.power.state == .awakeOff && s.power.linger == .expired &&
  s.discretes.inputs.toList.all (fun d => !(d.wake && d.active)) &&
  s.chime.queue.isEmpty &&
  s.gauge.gauges.toList.all (fun g => g.mode == .parked) &&
  (s.drum.state == .absent || s.drum.state == .fault || s.drum.debt == 0) &&
  !s.drum.coils &&
  s.eeprom.queue.isEmpty && s.eeprom.flight.isNone &&
  s.link.queue.isEmpty && s.link.reply.isNone

/-- ASLEEP entry (R164): the evaluation and flash clocks stop, a gap still running ends (R127), and IDX is disabled
(R10). -/
def State.fallAsleep (s : State) : State :=
  State.setPower
    { s with monitor := s.monitor.stop, lamp := { s.lamp with flash := none },
             chime := { s.chime with sequencer := .idle },
             pulse := { s.pulse with idx := s.pulse.idx.disable } } .asleep .stopped

/-- ASLEEP entry, when its conditions hold (R162). -/
def State.asleepEntry (s : State) : State := if s.maySleep then s.fallAsleep else s

/-! ## RUN entry and RUN exit -/

/-- The trip second clock started (R65). -/
def State.startTripClock (s : State) : State := { s with trip := { s.trip with clock := some 0 } }

/-- The bulb check started or stopped (R134). -/
def State.setBulbCheck (s : State) (t : Option Nat) : State :=
  { s with lamp := { s.lamp with bulbCheck := t } }

/-- The actions of RUN entry, in the order of the table of 9.3, without its notice (R160). -/
def State.enterRun (s : State) : State :=
  let s := s.setPower .run .stopped
  let s := { s with pulse := s.pulse.runEntry s.now, sampler := s.sampler.runEntry }
  (s.autoReset.startTripClock.gaugeEntry).setBulbCheck (some Config.bulbCheckMs)

/-- RUN entry (R160): due when IGN is active in AWAKE_OFF or ASLEEP. -/
def State.runEntry (s : State) : State :=
  if s.discretes.ign.level then
    match s.power.state with
    | .awakeOff => s.enterRun.notifyPower 0
    | .asleep => s.startClocks.enterRun.notifyPower 0
    | _ => s
  else s

/-- The Trip Computer at RUN exit (R65, R71 to R73). -/
def State.tripExit (s : State) : State :=
  let s := { s with trip := { s.trip with history := [], clock := none } }
  (s.writeChannel 8 (some 0) (some .valid)).writeChannel 9 none (some .absent)

/-- The two posts of RUN exit in the order they are taken (R160). -/
def State.exitPosts (s : State) (serviceFirst : Bool) : State :=
  if serviceFirst then s.postService.postOdometer else s.postOdometer.postService

/-- The off-duration starts at 0 (R161). -/
def State.startOff (s : State) : State := { s with power := { s.power with offDuration := some 0 } }

/-- The actions of RUN exit, in the order of the table of 9.3, without its notice (R160). -/
def State.exitRun (s : State) (serviceFirst : Bool) : State :=
  let s := (s.setPower .awakeOff .full).pulseExit
  let s := State.clearHolds { s with sampler := s.sampler.runExit }
  ((((s.tripExit.exitPosts serviceFirst).gaugeExit).monitorsExit).setBulbCheck none).startOff

/-- RUN exit (R160): due when IGN is inactive in RUN. -/
def State.runExit (s : State) (serviceFirst : Bool) : State :=
  if s.inRun && !s.discretes.ign.level then (s.exitRun serviceFirst).notifyPower 1 else s

/-! ## The calendar -/

/-- The seconds-of-day and day counts after a second (R141). -/
def TimeBase.second (t : TimeBase) : TimeBase :=
  if t.seconds + 1 < 86400 then { t with ms := t.ms - 1000, seconds := t.seconds + 1 }
  else { t with ms := t.ms - 1000, seconds := 0, days := (t.days + 1) % 65536, dayEnds := t.dayEnds + 1 }

/-- The off-duration after a second: it counts in AWAKE_OFF and ASLEEP (R161). -/
def PowerControl.second (p : PowerControl) : PowerControl :=
  if p.state = .awakeOff ∨ p.state = .asleep then
    { p with offDuration := p.offDuration.map fun n => bump n Config.offDurationMax }
  else p

/-- The end of a second of the tick (R141). -/
def State.secondEnd (s : State) : State :=
  if 1000 ≤ s.time.ms then { s with time := s.time.second, power := s.power.second } else s

/-- The end of a day (R141). -/
def State.dayEnd (s : State) : State :=
  if 0 < s.time.dayEnds then State.serviceDay { s with time := { s.time with dayEnds := s.time.dayEnds - 1 } }
  else s

/-! ## Reset and INIT -/

/-- A discrete input after power-on reset whose first sample is `level` (R19). -/
def Discrete.sampled (level : Bool) : Discrete := { Discrete.initial with level := level, pin := level }

/-- The discrete inputs and IGN after power-on reset (R19, R20). -/
def DiscreteUnit.sampled (di : BitVec 12) (ign : Bool) : DiscreteUnit :=
  { inputs := ⟨((List.range 12).map fun k => Discrete.sampled (di.getLsbD k)).toArray, by simp⟩,
    ign := { level := ign, timer := 0, pin := ign } }

/-- The levels of the pulse pins as a power-on reset finds them (log entry 8). -/
def PulseUnit.found (u : PulseUnit) (pins : BitVec 5) : PulseUnit :=
  { u with spd := { u.spd with pin := pins.getLsbD 0 }, tac := { u.tac with pin := pins.getLsbD 1 },
           inj := { u.inj with pin := pins.getLsbD 2 }, idx := { u.idx with pin := pins.getLsbD 3 } }

/-- The level of SYNC as a power-on reset finds it (log entry 8). -/
def GaugeUnit.found (u : GaugeUnit) (sync : Bool) : GaugeUnit := { u with sync := { u.sync with pin := sync } }

/-- A power-on reset (R155): every block at its values, the straps and switches sampled, and the device's
words as the reset left them. DESIGN CHOICE (log entry 42): a DRUMFIT strap sampled high is active, a drum fitted. -/
def State.powerOnReset (s : State) (di : BitVec 12) (ign : Bool) (pulse : BitVec 5) (lrate drumfit : Bool) :
    State :=
  let left := s.cutEeprom
  { State.reset with
      power := { State.reset.power with lrate := lrate, drumfit := drumfit },
      pulse := PulseUnit.initial.found pulse, gauge := GaugeUnit.initial.found (pulse.getLsbD 4), discretes := .sampled di ign, drum := .initial drumfit,
      eeprom := { memory := left.eeprom.memory, queue := [], flight := none },
      freeCount := left.freeCount, pending := s.pending }

/-- The header read (R157), and the range basis set from it (R74). -/
def State.loadHeader (s : State) : State :=
  let h := headerConstants s.eeprom.memory
  let c := h.getD .initial
  { s with consts := c, trip := { s.trip with rbDist := 10000, rbFuel := c.consumption * 100 },
           power := { s.power with headerDefaulted := h.isNone } }

/-- The odometer ring read (R50). -/
def State.loadRing (s : State) : State :=
  let r := newestRecord s.eeprom.memory
  let v := (r.map Prod.snd).getD 0
  { s with accum := { s.accum with total := v, newestSlot := r.map Prod.fst, newestValue := v },
           power := { s.power with ringEmpty := r.isNone } }

/-- An item's counts as the service block holds them, or all 0 when it is not valid (R151). -/
def ServiceItem.load (i : ServiceItem) (m : Memory) (valid : Bool) (k : Nat) : ServiceItem :=
  if valid then
    { i with sinceDu := (readWord m (31 + 3 * k)).toNat * 100, sinceDays := (readWord m (32 + 3 * k)).toNat,
             sinceKr := (readWord m (33 + 3 * k)).toNat }
  else { i with sinceDu := 0, sinceDays := 0, sinceKr := 0 }

/-- The service block read (R151). -/
def State.loadService (s : State) : State :=
  let valid := serviceBlockValid s.eeprom.memory
  { s with
      service := ⟨((List.finRange 6).map fun k => s.service[k].load s.eeprom.memory valid k.val).toArray,
        by simp⟩,
      power := { s.power with serviceDefaulted := !valid } }

/-- INIT begins at the release of RESETN, and its three reads are taken with it (R155, R156; log entry 37). -/
def State.release (s : State) : State :=
  if s.power.state = .held then
    let s := s.loadHeader.loadRing.loadService
    { s with power := { s.power with state := .init, clockLost := true } }
  else s

/-- The power state INIT ends in (R156). -/
def State.firstState (s : State) : PowerState :=
  if s.discretes.ign.level then .run
  else if !s.link.queue.isEmpty || s.link.reply.isSome then .awakeOff
  else .asleep

/-- The entry to the first power state (R156): the entry actions, and no POWER notice. -/
def State.enterFirst (s : State) : State :=
  match s.firstState with
  | .run => s.startClocks.enterRun
  | .awakeOff => s.startClocks.setPower .awakeOff .full
  | _ => s.setPower .asleep .stopped

/-- The end of INIT (R156): the first power state, the motion steps counted from here (R81), and the
STARTUP notice. -/
def State.endInit (s : State) : State :=
  if s.power.state = .init then
    let s := State.enterFirst { s with gauge := { s.gauge with clock := 0 } }
    s.notify .startup s.power.startupWord
  else s

/-! ## Lamp events -/

/-- The bulb check completes (R134), and due items post their key-on chimes (R146). -/
def State.bulbCheckEnd (s : State) : State :=
  if s.lamp.bulbCheck = some 0 then (s.setBulbCheck none).keyOnChimes else s

/-- The flash clock turns over (R135). -/
def State.flashHalf (s : State) : State := { s with lamp := s.lamp.turn }

/-- A setting of the duty (R136): due every 20 ms in RUN and AWAKE_OFF. -/
def State.dutySetting (s : State) : State :=
  if s.awake && decide (20 ≤ s.lamp.dutyClock) then
    State.setDuty { s with lamp := { s.lamp with dutyClock := s.lamp.dutyClock - 20 } }
  else s

end Sys2Proof.Machine
end

