-- ==== Sys2Proof/Machine/Inputs.lean ====
section
/-!
DEFINITION. The Discrete Inputs and IGN (1.9), and the 1 ms tick of the Time Base that samples them and
drives every timer of the part.
-/
namespace Sys2Proof.Machine

/-! ## Debounce -/

/-- A discrete input's sample at a tick (R19): the timer counts the ticks the pin has differed without a
break, and at the debounce time the change is due. -/
def Discrete.sample (d : Discrete) (pin : Bool) : Discrete :=
  if d.due then { d with pin := pin }
  else if pin = d.level then { d with pin := pin, timer := 0 }
  else if d.timer + 1 < d.debounce then { d with pin := pin, timer := d.timer + 1 }
  else { d with pin := pin, timer := 0, due := true }

/-- IGN's sample at a tick (R20): its debounced level follows after 50 ms (log entry 29). -/
def Ignition.sample (g : Ignition) (pin : Bool) : Ignition :=
  if pin = g.level then { g with pin := pin, timer := 0 }
  else if g.timer + 1 < Config.ignDebounceMs then { g with pin := pin, timer := g.timer + 1 }
  else { level := pin, timer := 0, pin := pin }

/-- The discrete inputs sampled at a tick. -/
def DiscreteUnit.sample (u : DiscreteUnit) (di : BitVec 12) (ign : Bool) : DiscreteUnit :=
  { inputs := ⟨((List.finRange 12).map fun k => u.inputs[k].sample (di.getLsbD k.val)).toArray, by simp⟩,
    ign := u.ign.sample ign }

/-! ## Discrete changes -/

/-- A discrete input replaced. -/
def State.setDiscrete (s : State) (k : Fin 12) (d : Discrete) : State :=
  { s with discretes := { s.discretes with inputs := s.discretes.inputs.set k d } }

/-- A discrete change reported to Power Control (R19, R162, R164). -/
def State.reportDiscrete (s : State) (d : Discrete) : State :=
  match s.power.state with
  | .awakeOff => s.restartLinger
  | .asleep => if d.wake && d.active then s.wake 2 else s
  | _ => s

/-- An input changed to `d`, and a change of its active state reported (R19). -/
def State.changeDiscrete (s : State) (k : Fin 12) (d : Discrete) : State :=
  if d.active = s.discretes.inputs[k].active then s.setDiscrete k d
  else (s.setDiscrete k d).reportDiscrete d

/-- A discrete change (R19): due when the timer has reached the debounce time. -/
def State.discreteChange (s : State) (k : Fin 12) : State :=
  let d := s.discretes.inputs[k]
  if d.due then s.changeDiscrete k { d with level := !d.level, timer := 0, due := false } else s

/-! ## The tick -/

/-- The Time Base's counts at a tick (R1, R141). -/
def TimeBase.tick (t : TimeBase) : TimeBase :=
  { t with fref := t.fref + BitVec.ofNat 24 Config.frefPerTick, sub := 0, ms := t.ms + 1 }

/-- The pulse inputs sampled at `t`; SPD, TAC and INJ are enabled in RUN, IDX while the part is awake (R2). -/
def PulseUnit.sample (u : PulseUnit) (run awake : Bool) (pins : BitVec 5) (t : Stamp) : PulseUnit :=
  { u with spd := u.spd.watchEdges run (pins.getLsbD 0) t, tac := u.tac.watchEdges run (pins.getLsbD 1) t,
           inj := u.inj.watch run (pins.getLsbD 2) t, idx := u.idx.watchEdges awake (pins.getLsbD 3) t }

/-- The window clock at a tick in RUN (R10). -/
def PulseUnit.tick (u : PulseUnit) (run : Bool) : PulseUnit :=
  if run then { u with windowClock := u.windowClock + 1 } else u

/-- The trip second clock at a tick, while it runs (R65). -/
def TripComputer.tick (t : TripComputer) : TripComputer := { t with clock := t.clock.map (· + 1) }

/-- The assembler's wait for the next character (R171). -/
def Link.tick (l : Link) : Link :=
  match l.assembler with
  | .hunt => l
  | _ => { l with gap := l.gap + 1 }

/-- The part is in one of its three power states (9.1). -/
def State.powered (s : State) : Bool := s.awake || s.power.state == .asleep

/-- The timers of every block at a tick. -/
def State.tickTimers (s : State) : State :=
  { s with
      time := s.time.tick,
      power := s.power.tick,
      pulse := s.pulse.tick s.inRun,
      sampler := if s.inRun then s.sampler.tick else s.sampler,
      drum := if s.awake then s.drum.tick else s.drum,
      trip := s.trip.tick,
      gauge := s.gauge.tick s.powered,
      monitor := s.monitor.tick,
      chime := if s.awake then s.chime.tick else s.chime,
      lamp := s.lamp.tick s.awake,
      eeprom := s.eeprom.tick,
      link := s.link.tick }

/-- The pulse inputs and SYNC as a look at their pins finds them at `t`: at a tick, and at a command that brings a
moment (log entry 8). -/
def State.findPins (s : State) (pulse : BitVec 5) (t : Stamp) : State :=
  { s with pulse := s.pulse.sample s.inRun s.awake pulse t, gauge := s.gauge.sample s.inRun (pulse.getLsbD 4) t }

/-- Time moved on to a command's moment, and the pins as they then stand (log entries 7 and 8). -/
def State.reach (s : State) (m : Moment) : State :=
  let u := s.advance m.sub
  u.findPins m.pulse u.now

/-- The pins as a tick finds them. -/
def State.samplePins (s : State) (di : BitVec 12) (ign : Bool) (pulse : BitVec 5) : State :=
  State.findPins { s with discretes := s.discretes.sample di ign } pulse s.time.tick.fref

/-- A 1 ms tick: the pins are sampled and every timer counts. A part held in reset does not tick. -/
def State.tick (s : State) (di : BitVec 12) (ign : Bool) (pulse : BitVec 5) : State :=
  if s.power.state = .held then s else ((s.samplePins di ign pulse).tickFreshness).tickTimers

/-! ## Requests -/

/-- Discrete Input Configure (R21). -/
def serveDiscreteInputConfigure (input polarity debounce wake : Byte) (s : State) : Answer :=
  match index? 12 input.toNat with
  | none => refuse s .badArgument
  | some k =>
    if debounce.toNat < 5 then refuse s .badArgument
    else
      accepted (s.changeDiscrete k
        { s.discretes.inputs[k] with activeHigh := decide (polarity ≠ 0), debounce := debounce.toNat,
                                     wake := decide (wake ≠ 0) })

/-- Bits gathered in two bytes, the first in bit 0. -/
def flagBytes2 (bits : List Bool) : List Byte :=
  bytes2 (bits.foldr (fun b acc => (if b then 1 else 0) + 2 * acc) 0)

/-- Discrete Read (R22, R182). -/
def serveDiscreteRead (s : State) : Answer :=
  reading s (flagBytes2 ((s.discretes.inputs.toList.map Discrete.active) ++ [s.discretes.ign.level]) ++
    flagBytes2 ((s.discretes.inputs.toList.map Discrete.pin) ++ [s.discretes.ign.pin]))

/-- The discrete inputs at Soft Restart (R21): as by a request that restores each input's default. -/
def State.restartDiscretes (s : State) : State :=
  (List.finRange 12).foldl
    (fun s k => s.changeDiscrete k { s.discretes.inputs[k] with activeHigh := false, debounce := 20, wake := false }) s

end Sys2Proof.Machine
end

