-- ==== Sys2Proof/Machine/Link.lean ====
section
/-!
DEFINITION. The Link Controller (chapters 10 and 11): Soft Restart, Status Read and Notice Fetch, the
kinds and payloads of requests, replies, the request queue and the receive assembler.
-/
namespace Sys2Proof.Machine

/-! ## Soft Restart, Status Read, Notice Fetch -/

/-- What each block restores at Soft Restart (9.8). -/
def State.restore (s : State) : State :=
  let s := { s with curves := Vector.replicate 12 [], pulse := s.pulse.restart s.inRun s.now,
                    sampler := s.sampler.restart }
  let s := s.restartDiscretes.restartExt.clearHolds.restartGauges.restartMonitors
  let s := { s with chime := s.chime.restart }
  let s := s.restartLamps.restartService
  { s with trip := s.trip.restart }

/-- Soft Restart (R169): the restorations, and then the Notice Queue emptied. -/
def serveSoftRestart (s : State) : Answer := accepted { s.restore with notices := [] }

/-- Status Read (R178, R182). -/
def serveStatusRead (s : State) : Answer :=
  reading s ([byte (powerCode s.power.state), s.power.startupByte, flagByte [s.power.lrate, s.power.drumfit]] ++
    wordBytes Config.partCode ++
    [Config.revisionCode, byte s.chime.queue.length, byte s.notices.length, byte s.eeprom.queue.length,
      mark s.eeprom.flight.isSome])

/-- The kind code and the source of a notice (10.4). -/
def NoticeKey.code (k : NoticeKey) : List Byte :=
  match k with
  | .monitor m => [1, byte m.val]
  | .service i => [2, byte i.val]
  | .channel c => [3, byte c.val]
  | .drum => [4, 0]
  | .store => [5, 0]
  | .sweep => [6, 0]
  | .power => [7, 0]
  | .startup => [8, 0]
  | .trip => [9, 0]

/-- A notice as Notice Fetch returns it (R181). -/
def Notice.record (n : Notice) : List Byte := n.key.code ++ wordBytes n.value

/-- Notice Fetch (R177, R181). -/
def serveNoticeFetch (s : State) : Answer :=
  let out := s.notices.take 6
  let rest := s.notices.drop 6
  { state := { s with notices := rest }, result := .ok,
    data := [byte out.length, byte rest.length] ++ out.flatMap Notice.record }

/-! ## Kinds and payloads -/

/-- What a frame asks for: how it is served. -/
abbrev Service := State → Answer

/-- A payload of the wrong length (R174). -/
def lengthRefused : Service := fun s => refuse s .length

/-- The payload of a request of no fields (R180). -/
def payload0 (f : Service) (p : List Byte) : Service :=
  match p with
  | [] => f
  | _ => lengthRefused

/-- The payload of a request of one one-byte field (R180). -/
def payload1 (f : Byte → Service) (p : List Byte) : Service :=
  match p with
  | [a] => f a
  | _ => lengthRefused

/-- The payload of a request of two one-byte fields (R180). -/
def payload2 (f : Byte → Byte → Service) (p : List Byte) : Service :=
  match p with
  | [a, b] => f a b
  | _ => lengthRefused

/-- The payload of a request of three one-byte fields (R180). -/
def payload3 (f : Byte → Byte → Byte → Service) (p : List Byte) : Service :=
  match p with
  | [a, b, c] => f a b c
  | _ => lengthRefused

/-- The payload of a request of four one-byte fields (R180). -/
def payload4 (f : Byte → Byte → Byte → Byte → Service) (p : List Byte) : Service :=
  match p with
  | [a, b, c, d] => f a b c d
  | _ => lengthRefused

/-- The points of a Curve Load payload; none when a point is not whole (R37). -/
def pointsIn : List Byte → Option (List (Word × Word))
  | [] => some []
  | a :: b :: c :: d :: rest => (pointsIn rest).map fun ps => (wordOf a b, wordOf c d) :: ps
  | _ => none

/-- The steps of a Pattern Load payload; none when a step is not whole (R128). -/
def stepsIn : List Byte → Option (List (Byte × Byte))
  | [] => some []
  | a :: b :: rest => (stepsIn rest).map fun ts => (a, b) :: ts
  | _ => none

/-- Vehicle Constants Write's payload (R180). -/
def constantsPayload (p : List Byte) : Service :=
  match p with
  | [a, b, c, d, e, f, g, h] => serveVehicleConstantsWrite (wordOf a b) (wordOf c d) e (wordOf f g) h
  | _ => lengthRefused

/-- Curve Load's payload (R180). -/
def curvePayload (p : List Byte) : Service :=
  match p with
  | c :: n :: rest =>
    match pointsIn rest with
    | some ps => serveCurveLoad c n ps
    | none => lengthRefused
  | _ => lengthRefused

/-- Analog Input Configure's payload (R180). -/
def analogPayload (p : List Byte) : Service :=
  match p with
  | [a, b, c, d, e, f, g, h, i, j] =>
    serveAnalogInputConfigure a b (wordOf c d) (wordOf e f) g h (wordOf i j)
  | _ => lengthRefused

/-- Gauge Configure's payload (11.3). -/
def gaugePayload (p : List Byte) : Service :=
  match p with
  | [k, a, b, c, d, e, f, g, h, i, j, l, m, n] =>
    serveGaugeConfigure k
      { source := a, curve := b, rest := wordOf c d, faultMode := e, rLo := f, rHi := wordOf g h, accel := i,
        deadband := j, sweep := l } (wordOf m n)
  | _ => lengthRefused

/-- Monitor Configure's payload (11.3). -/
def monitorPayload (p : List Byte) : Service :=
  match p with
  | [k, o1, o2, o3, o4, o5, o6, o7, o8, o9, o10, o11, o12, o13, o14, o15, o16, o17, o18, o19, o20, o21, o22, o23,
      o24, o25, o26, o27] =>
    serveMonitorConfigure k
      { enabled := o1, srcKind := o2, srcIndex := o3, method := o4, setLo := wordOf o5 o6, setHi := wordOf o7 o8,
        hyst := wordOf o9 o10, q1Kind := o11, q1Index := o12, q2Kind := o13, q2Index := o14, assertDelay := o15,
        releaseDelay := o16, faultSense := o17, runIn := o18, latching := o19, lamp := o20, lampMode := o21,
        pattern := o22, priority := o23, passes := o24, reminder := o25, notice := o26, snapshot := o27 }
  | _ => lengthRefused

/-- Pattern Load's payload (R180). -/
def patternPayload (p : List Byte) : Service :=
  match p with
  | c :: n :: rest =>
    match stepsIn rest with
    | some ts => servePatternLoad c n ts
    | none => lengthRefused
  | _ => lengthRefused

/-- Service Configure's payload (R180). -/
def servicePayload (p : List Byte) : Service :=
  match p with
  | [k, a, b, c, d, e, f, g, h, i, j, l, m] =>
    serveServiceConfigure k
      { enabled := a, km := wordOf b c, days := wordOf d e, mrev := f, margin := g, grace := h, lamp := i,
        pattern := j, priority := l, passes := m }
  | _ => lengthRefused

/-- The request kinds, and how a payload of each is served (10.6, R180). -/
def requestKinds : List (Nat × (List Byte → Service)) :=
  [(0x01, payload0 serveStatusRead),
   (0x02, payload0 serveNoticeFetch),
   (0x03, payload0 serveSoftRestart),
   (0x08, constantsPayload),
   (0x09, payload0 serveVehicleConstantsRead),
   (0x0A, payload2 serveEepromRead),
   (0x0B, payload3 (fun a b c => serveEepromWrite a (wordOf b c))),
   (0x10, curvePayload),
   (0x11, payload1 serveCurveRead),
   (0x12, analogPayload),
   (0x13, payload4 servePulseInputConfigure),
   (0x14, payload4 serveDiscreteInputConfigure),
   (0x15, payload2 serveChannelRead),
   (0x16, payload3 (fun a b c => serveChannelHold a (wordOf b c)))] ++
  [(0x17, payload1 serveChannelRelease),
   (0x18, payload3 (fun a b c => serveChannelPut a (wordOf b c))),
   (0x19, payload3 serveExternalChannelConfigure),
   (0x1A, payload0 serveDiscreteRead),
   (0x20, gaugePayload),
   (0x21, payload1 serveGaugeRead),
   (0x22, payload0 serveSweepStart),
   (0x28, monitorPayload),
   (0x29, payload2 serveMonitorRead),
   (0x2A, payload1 serveMonitorAcknowledge),
   (0x2B, payload1 serveMonitorClearSnapshot),
   (0x30, payload4 serveChimePost),
   (0x31, payload1 serveChimeWithdraw),
   (0x32, patternPayload),
   (0x33, payload1 serveChimeRead)] ++
  [(0x34, payload2 serveLampSet),
   (0x35, payload1 serveLampConfigure),
   (0x36, payload1 serveLampRead),
   (0x38, payload1 serveTripRead),
   (0x39, payload1 serveTripReset),
   (0x3A, payload3 serveTripControl),
   (0x3B, payload0 serveOdometerRead),
   (0x3C, payload0 serveDrumRead),
   (0x3D, payload0 serveDrumRestart),
   (0x40, servicePayload),
   (0x41, payload1 serveServiceRead),
   (0x42, payload1 serveServiceReset)]

/-- How a request of a kind with a payload is served; none for a kind that is not a request kind (R174). -/
def serveKind (kind : Nat) (p : List Byte) : Option Service :=
  (requestKinds.find? fun r => r.1 = kind).map fun r => r.2 p

/-! ## Replies -/

/-- The lead byte (R171, R179). -/
def leadByte : Byte := 0xA7

/-- The 8-bit sum of characters. -/
def sum8 (bs : List Byte) : Byte := bs.foldr (· + ·) 0

/-- The characters of a frame of a kind and payload (R179). -/
def frameBytes (kind : Byte) (payload : List Byte) : List Byte :=
  let body := byte (payload.length + 1) :: kind :: payload
  leadByte :: body ++ [0 - sum8 body]

/-- The kind of a reply (R174, R179). -/
def replyKind (kind : Byte) : Byte := kind + 0x80

/-- A reply begun (R173). -/
def State.sendReply (s : State) (kind : Byte) (payload : List Byte) : State :=
  { s with link := { s.link with reply := some (frameBytes kind payload) } }

/-- The reply a served request gives: its result, and its data when the result is OK (R174). -/
def State.sendAnswer (kind : Byte) (a : Answer) : State :=
  a.state.sendReply (replyKind kind) (a.result.code :: if a.result = .ok then a.data else [])

/-- A frame taken for service (R174): its check, its arrival in INIT, its kind, and then its own rule. -/
def State.serveFrame (s : State) (f : Frame) : State :=
  if f.good = false then s.sendReply 0xFF [f.kind]
  else if f.inInit then State.sendAnswer f.kind (refuse s .notReady)
  else
    match serveKind f.kind.toNat f.payload with
    | none => s.sendReply (replyKind f.kind) [Result.unknownKind.code, f.kind]
    | some serve => State.sendAnswer f.kind (serve s)

/-- The oldest queued frame taken, when no reply is being sent (R173). -/
def State.takeNext (s : State) : State :=
  match s.link.reply, s.link.queue with
  | none, f :: rest => State.serveFrame { s with link := { s.link with queue := rest } } f
  | _, _ => s

/-- A complete frame placed in the request queue, or discarded when two wait (R172). -/
def State.enqueue (s : State) (f : Frame) : State :=
  if s.link.queue.length < 2 then { s with link := { s.link with queue := s.link.queue ++ [f] } } else s

/-- What a complete frame does to Power Control: it wakes an ASLEEP part (R164) and restarts the linger
timer in AWAKE_OFF (R162, R172). -/
def State.frameActivity (s : State) : State :=
  if s.power.state = .asleep then s.wake 3 else s.restartLinger

/-- A frame completes (R172), and is taken at once when the link is free (R173). -/
def State.completeFrame (s : State) (f : Frame) : State := (s.frameActivity.enqueue f).takeNext

/-- The end of a reply (R173): the next queued frame is taken. -/
def State.replyEnd (s : State) (m : Moment) : State :=
  if s.link.reply.isSome then State.takeNext { s.reach m with link := { s.link with reply := none } } else s

/-! ## Request rows -/

/-- The link takes a complete frame at once: no reply is being sent and no frame waits. -/
def State.linkFree (s : State) : Bool := s.link.reply.isNone && s.link.queue.isEmpty

/-- A request row: a whole good frame of this request has arrived (log entry 13). A part held in reset
receives nothing; a part in INIT answers NOT_READY (R156); a frame that finds the link free is served at
once; any other waits or is discarded (R172). -/
def State.request (kind : Byte) (payload : List Byte) (serve : Service) (s : State) : State :=
  if s.power.state = .held then s
  else
    let s := s.frameActivity
    if s.linkFree then
      State.sendAnswer kind (if s.power.state = .init then refuse s .notReady else serve s)
    else
      (s.enqueue { kind := kind, payload := payload, good := true,
                   inInit := decide (s.power.state = .init) }).takeNext

/-! ## The receive assembler -/

/-- The assembler replaced; a character of a frame has just ended (R171). -/
def State.assemble (s : State) (a : Assembler) : State :=
  { s with link := { s.link with assembler := a, gap := 0 } }

/-- A lead byte (R171): it wakes an ASLEEP part (R164). -/
def State.leadTaken (s : State) (m : Moment) : State :=
  (if s.power.state = .asleep then (s.reach m).wake 3 else s).assemble .count

/-- The frame of the characters after the lead byte (10.2). -/
def frameOf (bytes : List Byte) (inInit : Bool) : Frame :=
  { kind := bytes.getD 1 0, payload := (bytes.drop 2).dropLast, good := sum8 bytes == 0, inInit := inInit }

/-- A sound character (R171). -/
def State.character (s : State) (c : Byte) (m : Moment) : State :=
  match s.link.assembler with
  | .hunt => if c = leadByte then s.leadTaken m else s
  | .count =>
    if 1 ≤ c.toNat ∧ c.toNat ≤ 40 then s.assemble (.body [c] (c.toNat + 1))
    else if c = leadByte then s.leadTaken m
    else s.assemble .hunt
  | .body taken expected =>
    if 1 < expected then s.assemble (.body (taken ++ [c]) (expected - 1))
    else ((s.reach m).assemble .hunt).completeFrame (frameOf (taken ++ [c]) (decide (s.power.state = .init)))

/-- A character taken at its stop bit (R170, R171): one whose stop bit is low is discarded, and a partial
frame with it. -/
def State.receive (s : State) (c : Byte) (stopHigh : Bool) (m : Moment) : State :=
  if s.power.state = .held then s
  else if stopHigh then s.character c m
  else
    match s.link.assembler with
    | .hunt => s
    | _ => s.assemble .hunt

/-- The gap timeout (R171): due 20 ms after a character of a frame (log entry 27). -/
def State.gapTimeout (s : State) : State :=
  match s.link.assembler with
  | .hunt => s
  | _ => if 20 ≤ s.link.gap then s.assemble .hunt else s

end Sys2Proof.Machine
end

