-- ==== Sys2Proof/Machine/Events.lean ====
section
/-!
DEFINITION. The meanings of the event rows: one definition for each, over the operations of the blocks.
An event that is not due, or that its block does not watch in the present power state, changes nothing
(log entry 5).
-/
namespace Sys2Proof.Machine

/-- SPD is enabled in RUN (R2): an edge its filter can have accepted (R1) enters the window (R4) and the distance
residue (R40). -/
def State.takeSpd (s : State) (sub : BitVec 8) : State :=
  let u := s.advancePulse sub
  if s.inRun && u.pulse.spd.edgeWait u.now == 0 then u.spdEdge.addDistance else s

/-- TAC is enabled in RUN (R2): an edge its filter can have accepted (R1) enters the window (R4) and the revolution
residue (R42). -/
def State.takeTac (s : State) (sub : BitVec 8) : State :=
  let u := s.advancePulse sub
  if s.inRun && u.pulse.tac.edgeWait u.now == 0 then u.tacEdge.addRevolution else s

/-- INJ is enabled in RUN (R2): a change its filter can have accepted (R1). -/
def State.takeInj (s : State) (sub : BitVec 8) : State :=
  let u := s.advancePulse sub
  if s.inRun && u.pulse.inj.changeWait 1 u.now == 0 then u.injChange else s

/-- IDX is enabled in RUN and AWAKE_OFF (R2): an edge its filter can have accepted in the present tick (R1) goes to the
Drum Drive (R58). The row carries no time within the tick, so the edge is taken as early as it can have come (log entry
30). -/
def State.takeIdx (s : State) : State :=
  let t := s.now + BitVec.ofNat 24 (s.pulse.idx.edgeWait s.now)
  if s.awake && decide (span t s.time.fref < Config.frefPerTick) then (s.idxInput t).indexEdge else s

/-- A window close, when one is due (R10). -/
def State.takeWindowClose (s : State) (tripFirst : Bool) : State :=
  if s.windowDue then s.closeWindow tripFirst else s

/-- The end of INIT (R156), which enables the inputs at the levels its moment brings (R1). -/
def State.takeInitEnd (s : State) (m : Moment) : State := if s.power.state = .init then (s.reach m).endInit else s

/-- RUN entry (R160), when it is due: it enables the inputs at the levels its moment brings (R1). -/
def State.takeRunEntry (s : State) (m : Moment) : State :=
  if s.power.state = .awakeOff ∨ s.power.state = .asleep then
    if s.discretes.ign.level then (s.reach m).runEntry else s
  else s

/-- The outcome of a command, which is always a next state. -/
abbrev Next := Host.Outcome State Fault Refusal

/-- An event row: what the event does, in a part that is not held in reset (R155, log entry 28). -/
def event (f : State → State) (s : State) : Next := .next (if s.power.state = .held then s else f s)

/-- POWER_ON_RESET: A power-on reset: the supply rises or RESETN is driven low (R155). -/
def execPowerOnReset (di : BitVec 12) (ign : Bool) (pulse : BitVec 5) (lrate drumfit : Bool) (s : State) : Next :=
  .next (s.powerOnReset di ign pulse lrate drumfit)

/-- RESETN_RELEASE: RESETN released, or the supply risen with RESETN high: INIT begins (R155). -/
def execResetnRelease (s : State) : Next :=
  .next s.release

/-- INIT_END: The end of INIT (R156). -/
def execInitEnd (s : State) (m : Moment := {}) : Next :=
  event (fun s => s.takeInitEnd m) s

/-- TICK: A 1 ms tick, with the levels of the pins it samples (R19, R20). -/
def execTick (di : BitVec 12) (ign : Bool) (pulse : BitVec 5) (s : State) : Next :=
  event (fun s => s.tick di ign pulse) s

/-- DISCRETE_CHANGE: A discrete change of DIk (R19). -/
def execDiscreteChange (k : Fin 12) (s : State) : Next :=
  event (fun s => s.discreteChange k) s

/-- RUN_ENTRY: RUN entry (R160). -/
def execRunEntry (s : State) (m : Moment := {}) : Next :=
  event (fun s => s.takeRunEntry m) s

/-- RUN_EXIT: RUN exit (R160). -/
def execRunExit (serviceFirst : Bool) (s : State) : Next :=
  event (fun s => s.runExit serviceFirst) s

/-- SECOND_END: The end of a second (R141, R161). -/
def execSecondEnd (s : State) : Next :=
  event State.secondEnd s

/-- DAY_END: The end of a day (R141). -/
def execDayEnd (s : State) : Next :=
  event State.dayEnd s

/-- FRESHNESS_EXPIRY: Expiry of the freshness timer of EXT_(e+1) (R31). -/
def execFreshnessExpiry (e : Fin 5) (s : State) : Next :=
  event (fun s => s.expireFreshness e) s

/-- LINGER_EXPIRY: The linger timer reaches 0 (R162). -/
def execLingerExpiry (s : State) : Next :=
  event State.lingerExpiry s

/-- ASLEEP_ENTRY: ASLEEP entry (R162, R164). -/
def execAsleepEntry (s : State) : Next :=
  event State.asleepEntry s

/-- SPD_EDGE: An active SPD edge accepted `sub` FREF counts into the tick: it enters the window and the
distance residue (R2, R4, R40). -/
def execSpdEdge (sub : BitVec 8) (s : State) : Next :=
  event (fun s => s.takeSpd sub) s

/-- TAC_EDGE: An active TAC edge accepted `sub` FREF counts into the tick: it enters the window and the
revolution residue (R2, R4, R42). -/
def execTacEdge (sub : BitVec 8) (s : State) : Next :=
  event (fun s => s.takeTac sub) s

/-- INJ_LEVEL_CHANGE: An accepted change of INJ `sub` FREF counts into the tick (R9). -/
def execInjLevelChange (sub : BitVec 8) (s : State) : Next :=
  event (fun s => s.takeInj sub) s

/-- IDX_EDGE: An active IDX edge (R2, R58). -/
def execIdxEdge (s : State) : Next :=
  event State.takeIdx s

/-- WINDOW_CLOSE: The close of the 100 ms windows (R5 to R10). -/
def execWindowClose (tripFirst : Bool) (s : State) : Next :=
  event (fun s => s.takeWindowClose tripFirst) s

/-- ANALOG_SAMPLE: A conversion of input Ai (R11 to R16). -/
def execAnalogSample (i : Fin 6) (raw : BitVec 10) (s : State) : Next :=
  event (fun s => s.analogSample i raw.toNat) s

/-- TRIP_SECOND: A trip second (R65). -/
def execTripSecond (s : State) : Next :=
  event State.tripSecond s

/-- GAUGE_MOTION_STEP: A motion step of the gauges (R81 to R86, R90 to R93). -/
def execGaugeMotionStep (s : State) : Next :=
  event State.motionStep s

/-- SWEEP_DELAY_EXPIRY: Expiry of the auto-sweep delay (R88). -/
def execSweepDelayExpiry (s : State) : Next :=
  event State.sweepDelayExpiry s

/-- SWEEP_TIMEOUT_EXPIRY: Expiry of the sweep timeout (R91). -/
def execSweepTimeoutExpiry (s : State) : Next :=
  event State.sweepTimeoutExpiry s

/-- SYNC_FALLING_EDGE: A falling edge on SYNC (R89). -/
def execSyncFallingEdge (s : State) : Next :=
  event State.syncEdge s

/-- SYNC_PULSE_END: The end of the part's own SYNC pulse (R88). -/
def execSyncPulseEnd (s : State) : Next :=
  event State.syncPulseEnd s

/-- MONITOR_EVALUATION: An evaluation of monitor m (R100 to R110). -/
def execMonitorEvaluation (m : Fin 16) (s : State) : Next :=
  event (fun s => s.monitorEvaluation m) s

/-- ASSERT_TIMER_EXPIRY: The assert timer of monitor m reaches 0 (R103, R104). -/
def execAssertTimerExpiry (m : Fin 16) (s : State) : Next :=
  event (fun s => s.assertExpiry m) s

/-- RELEASE_TIMER_EXPIRY: The release timer of monitor m reaches 0 (R106). -/
def execReleaseTimerExpiry (m : Fin 16) (s : State) : Next :=
  event (fun s => s.releaseExpiry m) s

/-- REMINDER_EXPIRY: The reminder timer of monitor m reaches 0 (R110). -/
def execReminderExpiry (m : Fin 16) (s : State) : Next :=
  event (fun s => s.reminderExpiry m) s

/-- CHIME_STEP_END: The end of a pattern step (R124 to R126). -/
def execChimeStepEnd (s : State) : Next :=
  event (fun s => { s with chime := s.chime.stepEnd }) s

/-- GAP_END: The end of the gap between passes (R123). -/
def execGapEnd (s : State) : Next :=
  event (fun s => { s with chime := s.chime.gapEnd }) s

/-- BULB_CHECK_END: The end of the bulb check (R134, R146). -/
def execBulbCheckEnd (s : State) : Next :=
  event State.bulbCheckEnd s

/-- FLASH_HALF_CHANGE: The flash clock turns to its other half (R135). -/
def execFlashHalfChange (s : State) : Next :=
  event State.flashHalf s

/-- DUTY_SETTING: A setting of the ON-phase duty (R136). -/
def execDutySetting (s : State) : Next :=
  event State.dutySetting s

/-- DRUM_STEP: A step of the drum (R57, R59). -/
def execDrumStep (s : State) : Next :=
  event State.stepDrum s

/-- DRUM_INDEX_MISS: The miss of 24 steps without an index (R59). -/
def execDrumIndexMiss (s : State) : Next :=
  event State.missIndex s

/-- DRUM_COIL_OFF: The drum coils go off (R57). -/
def execDrumCoilOff (s : State) : Next :=
  event State.releaseCoils s

/-- EEPROM_WRITE_BEGIN: A write begins (R52, R152, R165). -/
def execEepromWriteBegin (s : State) : Next :=
  event State.beginWrite s

/-- EEPROM_WORD_COMPLETE: EDO rises: the word in flight is stored (R52, R166). -/
def execEepromWordComplete (s : State) : Next :=
  event State.completeWord s

/-- EEPROM_WORD_FAIL: EDO has not risen in 25 ms: the word in flight fails (R166). -/
def execEepromWordFail (s : State) : Next :=
  event State.failWord s

/-- CHARACTER_RECEIVED: A character taken at its stop bit (R170, R171). -/
def execCharacterReceived (c : Byte) (stopHigh : Bool) (s : State) (m : Moment := {}) : Next :=
  event (fun s => s.receive c stopHigh m) s

/-- CHARACTER_GAP_TIMEOUT: A gap of more than 20 ms within a frame (R171). -/
def execCharacterGapTimeout (s : State) : Next :=
  event State.gapTimeout s

/-- REPLY_END: The last character of a reply has gone (R173). -/
def execReplyEnd (s : State) (m : Moment := {}) : Next :=
  event (fun s => s.replyEnd m) s

end Sys2Proof.Machine
end

