-- ==== Sys2Proof/Machine/Requests.lean ====
section
/-!
DEFINITION. The meanings of the request rows: one definition for each, the arrival of that request's frame
(10.6, R180).
-/
namespace Sys2Proof.Machine

/-- The points of a Curve Load as its payload carries them (R180). -/
def pointBytes (points : List (Word × Word)) : List Byte := points.flatMap fun p => wordBytes p.1 ++ wordBytes p.2

/-- The steps of a Pattern Load as its payload carries them (R180). -/
def stepBytes (steps : List (Byte × Byte)) : List Byte := steps.flatMap fun t => [t.1, t.2]

/-- The settings of a Gauge Configure as its payload carries them, offsets 1 to 11 (11.3). -/
def gaugeFieldBytes (f : GaugeFields) : List Byte :=
  [f.source, f.curve] ++ wordBytes f.rest ++ [f.faultMode, f.rLo] ++ wordBytes f.rHi ++
    [f.accel, f.deadband, f.sweep]

/-- STATUS_READ: the request Status Read (R178). -/
def execStatusRead (s : State) : Next :=
  .next (State.request 0x01 [] serveStatusRead s)

/-- NOTICE_FETCH: the request Notice Fetch (R177). -/
def execNoticeFetch (s : State) : Next :=
  .next (State.request 0x02 [] serveNoticeFetch s)

/-- SOFT_RESTART: the request Soft Restart (R169); a filter it restarts takes the level its moment brings (R3, R10). -/
def execSoftRestart (s : State) (m : Moment := {}) : Next :=
  event (fun s => State.request 0x03 [] serveSoftRestart (s.reach m)) s

/-- VEHICLE_CONSTANTS_WRITE: the request Vehicle Constants Write (R158). -/
def execVehicleConstantsWrite (kvss cinj : Word) (ppr : Byte) (consumption : Word) (reserve : Byte) (s : State) : Next :=
  .next (State.request 0x08
    (wordBytes kvss ++ wordBytes cinj ++ [ppr] ++ wordBytes consumption ++ [reserve])
    (serveVehicleConstantsWrite kvss cinj ppr consumption reserve) s)

/-- VEHICLE_CONSTANTS_READ: the request Vehicle Constants Read (R159). -/
def execVehicleConstantsRead (s : State) : Next :=
  .next (State.request 0x09 [] serveVehicleConstantsRead s)

/-- EEPROM_READ: the request EEPROM Read (R167). -/
def execEepromRead (first count : Byte) (s : State) : Next :=
  .next (State.request 0x0A [first, count] (serveEepromRead first count) s)

/-- EEPROM_WRITE: the request EEPROM Write (R168). -/
def execEepromWrite (address : Byte) (value : Word) (s : State) : Next :=
  .next (State.request 0x0B (address :: wordBytes value) (serveEepromWrite address value) s)

/-- CURVE_LOAD: the request Curve Load (R37). -/
def execCurveLoad (curve count : Byte) (points : List (Word × Word)) (s : State) : Next :=
  .next (State.request 0x10 (curve :: count :: pointBytes points) (serveCurveLoad curve count points) s)

/-- CURVE_READ: the request Curve Read (R39). -/
def execCurveRead (curve : Byte) (s : State) : Next :=
  .next (State.request 0x11 [curve] (serveCurveRead curve) s)

/-- ANALOG_INPUT_CONFIGURE: the request Analog Input Configure (R17). -/
def execAnalogInputConfigure (input curve : Byte) (low high : Word) (decimation shift : Byte) (threshold : Word) (s : State) : Next :=
  .next (State.request 0x12
    ([input, curve] ++ wordBytes low ++ wordBytes high ++ [decimation, shift] ++ wordBytes threshold)
    (serveAnalogInputConfigure input curve low high decimation shift threshold) s)

/-- PULSE_INPUT_CONFIGURE: the request Pulse Input Configure (R3); a filter it restarts takes the level its moment
brings. -/
def execPulseInputConfigure (input filter selection loss : Byte) (s : State) (m : Moment := {}) : Next :=
  event (fun s => State.request 0x13 [input, filter, selection, loss]
    (servePulseInputConfigure input filter selection loss) (s.reach m)) s

/-- DISCRETE_INPUT_CONFIGURE: the request Discrete Input Configure (R21). -/
def execDiscreteInputConfigure (input polarity debounce wake : Byte) (s : State) : Next :=
  .next (State.request 0x14
    [input, polarity, debounce, wake]
    (serveDiscreteInputConfigure input polarity debounce wake) s)

/-- CHANNEL_READ: the request Channel Read (R34). -/
def execChannelRead (first count : Byte) (s : State) : Next :=
  .next (State.request 0x15 [first, count] (serveChannelRead first count) s)

/-- CHANNEL_HOLD: the request Channel Hold (R27). -/
def execChannelHold (channel : Byte) (value : Word) (s : State) : Next :=
  .next (State.request 0x16 (channel :: wordBytes value) (serveChannelHold channel value) s)

/-- CHANNEL_RELEASE: the request Channel Release (R28). -/
def execChannelRelease (channel : Byte) (s : State) : Next :=
  .next (State.request 0x17 [channel] (serveChannelRelease channel) s)

/-- CHANNEL_PUT: the request Channel Put (R30). -/
def execChannelPut (channel : Byte) (value : Word) (s : State) : Next :=
  .next (State.request 0x18 (channel :: wordBytes value) (serveChannelPut channel value) s)

/-- EXTERNAL_CHANNEL_CONFIGURE: the request External Channel Configure (R32). -/
def execExternalChannelConfigure (channel freshness withdraw : Byte) (s : State) : Next :=
  .next (State.request 0x19
    [channel, freshness, withdraw]
    (serveExternalChannelConfigure channel freshness withdraw) s)

/-- DISCRETE_READ: the request Discrete Read (R22). -/
def execDiscreteRead (s : State) : Next :=
  .next (State.request 0x1A [] serveDiscreteRead s)

/-- GAUGE_CONFIGURE: the request Gauge Configure (R95). -/
def execGaugeConfigure (gauge : Byte) (fields : GaugeFields) (delay : Word) (s : State) : Next :=
  .next (State.request 0x20
    (gauge :: gaugeFieldBytes fields ++ wordBytes delay)
    (serveGaugeConfigure gauge fields delay) s)

/-- GAUGE_READ: the request Gauge Read (R98). -/
def execGaugeRead (gauge : Byte) (s : State) : Next :=
  .next (State.request 0x21 [gauge] (serveGaugeRead gauge) s)

/-- SWEEP_START: the request Sweep Start (R97). -/
def execSweepStart (s : State) : Next :=
  .next (State.request 0x22 [] serveSweepStart s)

/-- MONITOR_CONFIGURE: the request Monitor Configure (R114). -/
def execMonitorConfigure (monitor : Byte) (fields : MonitorFields) (s : State) : Next :=
  .next (State.request 0x28 (monitor :: monitorBytes fields) (serveMonitorConfigure monitor fields) s)

/-- MONITOR_READ: the request Monitor Read (R116). -/
def execMonitorRead (monitor part : Byte) (s : State) : Next :=
  .next (State.request 0x29 [monitor, part] (serveMonitorRead monitor part) s)

/-- MONITOR_ACKNOWLEDGE: the request Monitor Acknowledge (R109). -/
def execMonitorAcknowledge (monitor : Byte) (s : State) : Next :=
  .next (State.request 0x2A [monitor] (serveMonitorAcknowledge monitor) s)

/-- MONITOR_CLEAR_SNAPSHOT: the request Monitor Clear Snapshot (R117). -/
def execMonitorClearSnapshot (monitor : Byte) (s : State) : Next :=
  .next (State.request 0x2B [monitor] (serveMonitorClearSnapshot monitor) s)

/-- CHIME_POST: the request Chime Post (R129). -/
def execChimePost (slot pattern priority passes : Byte) (s : State) : Next :=
  .next (State.request 0x30 [slot, pattern, priority, passes] (serveChimePost slot pattern priority passes) s)

/-- CHIME_WITHDRAW: the request Chime Withdraw (R130). -/
def execChimeWithdraw (slot : Byte) (s : State) : Next :=
  .next (State.request 0x31 [slot] (serveChimeWithdraw slot) s)

/-- PATTERN_LOAD: the request Pattern Load (R128). -/
def execPatternLoad (pattern count : Byte) (steps : List (Byte × Byte)) (s : State) : Next :=
  .next (State.request 0x32 (pattern :: count :: stepBytes steps) (servePatternLoad pattern count steps) s)

/-- CHIME_READ: the request Chime Read (R131). -/
def execChimeRead (first : Byte) (s : State) : Next :=
  .next (State.request 0x33 [first] (serveChimeRead first) s)

/-- LAMP_SET: the request Lamp Set (R137). -/
def execLampSet (lamp mode : Byte) (s : State) : Next :=
  .next (State.request 0x34 [lamp, mode] (serveLampSet lamp mode) s)

/-- LAMP_CONFIGURE: the request Lamp Configure (R138). -/
def execLampConfigure (discrete : Byte) (s : State) : Next :=
  .next (State.request 0x35 [discrete] (serveLampConfigure discrete) s)

/-- LAMP_READ: the request Lamp Read (R139). -/
def execLampRead (lamp : Byte) (s : State) : Next :=
  .next (State.request 0x36 [lamp] (serveLampRead lamp) s)

/-- TRIP_READ: the request Trip Read (R70). -/
def execTripRead (selector : Byte) (s : State) : Next :=
  .next (State.request 0x38 [selector] (serveTripRead selector) s)

/-- TRIP_RESET: the request Trip Reset (R66). -/
def execTripReset (selector : Byte) (s : State) : Next :=
  .next (State.request 0x39 [selector] (serveTripReset selector) s)

/-- TRIP_CONTROL: the request Trip Control (R67). -/
def execTripControl (actionA actionB hours : Byte) (s : State) : Next :=
  .next (State.request 0x3A [actionA, actionB, hours] (serveTripControl actionA actionB hours) s)

/-- ODOMETER_READ: the request Odometer Read (R54). -/
def execOdometerRead (s : State) : Next :=
  .next (State.request 0x3B [] serveOdometerRead s)

/-- DRUM_READ: the request Drum Read (R62). -/
def execDrumRead (s : State) : Next :=
  .next (State.request 0x3C [] serveDrumRead s)

/-- DRUM_RESTART: the request Drum Restart (R60). -/
def execDrumRestart (s : State) : Next :=
  .next (State.request 0x3D [] serveDrumRestart s)

/-- SERVICE_CONFIGURE: the request Service Configure (R147). -/
def execServiceConfigure (item : Byte) (fields : ServiceFields) (s : State) : Next :=
  .next (State.request 0x40 (item :: serviceBytes fields) (serveServiceConfigure item fields) s)

/-- SERVICE_READ: the request Service Read (R150). -/
def execServiceRead (item : Byte) (s : State) : Next :=
  .next (State.request 0x41 [item] (serveServiceRead item) s)

/-- SERVICE_RESET: the request Service Reset (R149). -/
def execServiceReset (item : Byte) (s : State) : Next :=
  .next (State.request 0x42 [item] (serveServiceReset item) s)

end Sys2Proof.Machine
end

