-- ==== Sys2Proof/Machine/Dispatch.lean ====
section
/-!
DEFINITION. The dispatch of a command to its meaning.
-/
namespace Sys2Proof.Machine

def exec (i : Instr) (s : State) : Host.Outcome State Fault Refusal :=
  match i with
  | .powerOnReset di ign pulse lrate drumfit => Sys2Proof.Machine.execPowerOnReset di ign pulse lrate drumfit s
  | .resetnRelease => Sys2Proof.Machine.execResetnRelease s
  | .initEnd m => Sys2Proof.Machine.execInitEnd s m
  | .tick di ign pulse => Sys2Proof.Machine.execTick di ign pulse s
  | .discreteChange k => Sys2Proof.Machine.execDiscreteChange k s
  | .runEntry m => Sys2Proof.Machine.execRunEntry s m
  | .runExit serviceFirst => Sys2Proof.Machine.execRunExit serviceFirst s
  | .secondEnd => Sys2Proof.Machine.execSecondEnd s
  | .dayEnd => Sys2Proof.Machine.execDayEnd s
  | .freshnessExpiry e => Sys2Proof.Machine.execFreshnessExpiry e s
  | .lingerExpiry => Sys2Proof.Machine.execLingerExpiry s
  | .asleepEntry => Sys2Proof.Machine.execAsleepEntry s
  | .spdEdge sub => Sys2Proof.Machine.execSpdEdge sub s
  | .tacEdge sub => Sys2Proof.Machine.execTacEdge sub s
  | .injLevelChange sub => Sys2Proof.Machine.execInjLevelChange sub s
  | .idxEdge => Sys2Proof.Machine.execIdxEdge s
  | .windowClose tripFirst => Sys2Proof.Machine.execWindowClose tripFirst s
  | .analogSample input raw => Sys2Proof.Machine.execAnalogSample input raw s
  | .tripSecond => Sys2Proof.Machine.execTripSecond s
  | .gaugeMotionStep => Sys2Proof.Machine.execGaugeMotionStep s
  | .sweepDelayExpiry => Sys2Proof.Machine.execSweepDelayExpiry s
  | .sweepTimeoutExpiry => Sys2Proof.Machine.execSweepTimeoutExpiry s
  | .syncFallingEdge => Sys2Proof.Machine.execSyncFallingEdge s
  | .syncPulseEnd => Sys2Proof.Machine.execSyncPulseEnd s
  | .monitorEvaluation m => Sys2Proof.Machine.execMonitorEvaluation m s
  | .assertTimerExpiry m => Sys2Proof.Machine.execAssertTimerExpiry m s
  | .releaseTimerExpiry m => Sys2Proof.Machine.execReleaseTimerExpiry m s
  | .reminderExpiry m => Sys2Proof.Machine.execReminderExpiry m s
  | .chimeStepEnd => Sys2Proof.Machine.execChimeStepEnd s
  | .gapEnd => Sys2Proof.Machine.execGapEnd s
  | .bulbCheckEnd => Sys2Proof.Machine.execBulbCheckEnd s
  | .flashHalfChange => Sys2Proof.Machine.execFlashHalfChange s
  | .dutySetting => Sys2Proof.Machine.execDutySetting s
  | .drumStep => Sys2Proof.Machine.execDrumStep s
  | .drumIndexMiss => Sys2Proof.Machine.execDrumIndexMiss s
  | .drumCoilOff => Sys2Proof.Machine.execDrumCoilOff s
  | .eepromWriteBegin => Sys2Proof.Machine.execEepromWriteBegin s
  | .eepromWordComplete => Sys2Proof.Machine.execEepromWordComplete s
  | .eepromWordFail => Sys2Proof.Machine.execEepromWordFail s
  | .characterReceived c stopHigh m => Sys2Proof.Machine.execCharacterReceived c stopHigh s m
  | .characterGapTimeout => Sys2Proof.Machine.execCharacterGapTimeout s
  | .replyEnd m => Sys2Proof.Machine.execReplyEnd s m
  | .statusRead => Sys2Proof.Machine.execStatusRead s
  | .noticeFetch => Sys2Proof.Machine.execNoticeFetch s
  | .softRestart m => Sys2Proof.Machine.execSoftRestart s m
  | .vehicleConstantsWrite kvss cinj ppr consumption reserve => Sys2Proof.Machine.execVehicleConstantsWrite kvss cinj ppr consumption reserve s
  | .vehicleConstantsRead => Sys2Proof.Machine.execVehicleConstantsRead s
  | .eepromRead first count => Sys2Proof.Machine.execEepromRead first count s
  | .eepromWrite address value => Sys2Proof.Machine.execEepromWrite address value s
  | .curveLoad curve count points => Sys2Proof.Machine.execCurveLoad curve count points s
  | .curveRead curve => Sys2Proof.Machine.execCurveRead curve s
  | .analogInputConfigure input curve low high decimation shift threshold => Sys2Proof.Machine.execAnalogInputConfigure input curve low high decimation shift threshold s
  | .pulseInputConfigure input filter selection loss m => Sys2Proof.Machine.execPulseInputConfigure input filter selection loss s m
  | .discreteInputConfigure input polarity debounce wake => Sys2Proof.Machine.execDiscreteInputConfigure input polarity debounce wake s
  | .channelRead first count => Sys2Proof.Machine.execChannelRead first count s
  | .channelHold channel value => Sys2Proof.Machine.execChannelHold channel value s
  | .channelRelease channel => Sys2Proof.Machine.execChannelRelease channel s
  | .channelPut channel value => Sys2Proof.Machine.execChannelPut channel value s
  | .externalChannelConfigure channel freshness withdraw => Sys2Proof.Machine.execExternalChannelConfigure channel freshness withdraw s
  | .discreteRead => Sys2Proof.Machine.execDiscreteRead s
  | .gaugeConfigure gauge fields delay => Sys2Proof.Machine.execGaugeConfigure gauge fields delay s
  | .gaugeRead gauge => Sys2Proof.Machine.execGaugeRead gauge s
  | .sweepStart => Sys2Proof.Machine.execSweepStart s
  | .monitorConfigure monitor fields => Sys2Proof.Machine.execMonitorConfigure monitor fields s
  | .monitorRead monitor part => Sys2Proof.Machine.execMonitorRead monitor part s
  | .monitorAcknowledge monitor => Sys2Proof.Machine.execMonitorAcknowledge monitor s
  | .monitorClearSnapshot monitor => Sys2Proof.Machine.execMonitorClearSnapshot monitor s
  | .chimePost slot pattern priority passes => Sys2Proof.Machine.execChimePost slot pattern priority passes s
  | .chimeWithdraw slot => Sys2Proof.Machine.execChimeWithdraw slot s
  | .patternLoad pattern count steps => Sys2Proof.Machine.execPatternLoad pattern count steps s
  | .chimeRead first => Sys2Proof.Machine.execChimeRead first s
  | .lampSet lamp mode => Sys2Proof.Machine.execLampSet lamp mode s
  | .lampConfigure discrete => Sys2Proof.Machine.execLampConfigure discrete s
  | .lampRead lamp => Sys2Proof.Machine.execLampRead lamp s
  | .tripRead selector => Sys2Proof.Machine.execTripRead selector s
  | .tripReset selector => Sys2Proof.Machine.execTripReset selector s
  | .tripControl actionA actionB hours => Sys2Proof.Machine.execTripControl actionA actionB hours s
  | .odometerRead => Sys2Proof.Machine.execOdometerRead s
  | .drumRead => Sys2Proof.Machine.execDrumRead s
  | .drumRestart => Sys2Proof.Machine.execDrumRestart s
  | .serviceConfigure item fields => Sys2Proof.Machine.execServiceConfigure item fields s
  | .serviceRead item => Sys2Proof.Machine.execServiceRead item s
  | .serviceReset item => Sys2Proof.Machine.execServiceReset item s

end Sys2Proof.Machine
end

