-- ==== Sys2Proof/Machine/Step.lean ====
section
/-!
DEFINITION. The step: the command at the front of the queue is taken and carried out.
-/
namespace Sys2Proof.Machine

/-- The commands that wait, replaced. -/
def State.setPending (s : State) (q : List Instr) : State := { s with pending := q }

/-- One step (log entries 16 and 34): the command at the front leaves the queue and is carried out; with no
command waiting the part stands as it is. -/
def step (s : State) : Host.Outcome State Fault Refusal :=
  match s.pending with
  | [] => .next s
  | c :: rest => exec c (s.setPending rest)

/-- The command that a word of the table spells put at the front of the queue; unchanged where it spells
none. -/
def State.withFetchWord (s : State) (nbits w : Nat) : State :=
  match Sys2Proof.decodeTableWord nbits w with
  | none => s
  | some c => s.setPending (c :: s.pending)

end Sys2Proof.Machine
end

