-- ==== Sys2Proof/WellFormed.lean ====
section
/-!
DEFINITION. Which commands a sender can form. Every field is typed at its width on the link, so what is
left to check is that the payload of the two requests of open length fits a frame.
-/
namespace Sys2Proof

/-- The longest payload a frame carries (10.2, 11.1). -/
def maxPayload : Nat := 39

/-- A command that can be sent: its request payload is at most 39 bytes (10.2). -/
def Instr.wellFormed (i : Instr) : Bool :=
  match i with
  | .curveLoad _ _ points => 2 + 4 * points.length ≤ maxPayload
  | .patternLoad _ _ steps => 2 + 2 * steps.length ≤ maxPayload
  | _ => true

end Sys2Proof
end

