-- ==== Sys2Proof/Safety.lean ====
section
/-!
DEFINITION. What counts as a sound state of the part, in the terms the claims use: the laws the data book
states of the whole part, and how a request is answered.
-/
namespace Sys2Proof.Machine

/-! ## Requests and replies -/

/-- The kind and payload of the frame a request row stands for; none for an event row (10.6, R180). -/
def frame? (c : Instr) : Option (Byte × List Byte) :=
  match c with
  | .powerOnReset _ _ _ _ _ => none
  | .resetnRelease => none
  | .initEnd _ => none
  | .tick _ _ _ => none
  | .discreteChange _ => none
  | .runEntry _ => none
  | .runExit _ => none
  | .secondEnd => none
  | .dayEnd => none
  | .freshnessExpiry _ => none
  | .lingerExpiry => none
  | .asleepEntry => none
  | .spdEdge _ => none
  | .tacEdge _ => none
  | .injLevelChange _ => none
  | .idxEdge => none
  | .windowClose _ => none
  | .analogSample _ _ => none
  | .tripSecond => none
  | .gaugeMotionStep => none
  | .sweepDelayExpiry => none
  | .sweepTimeoutExpiry => none
  | .syncFallingEdge => none
  | .syncPulseEnd => none
  | .monitorEvaluation _ => none
  | .assertTimerExpiry _ => none
  | .releaseTimerExpiry _ => none
  | .reminderExpiry _ => none
  | .chimeStepEnd => none
  | .gapEnd => none
  | .bulbCheckEnd => none
  | .flashHalfChange => none
  | .dutySetting => none
  | .drumStep => none
  | .drumIndexMiss => none
  | .drumCoilOff => none
  | .eepromWriteBegin => none
  | .eepromWordComplete => none
  | .eepromWordFail => none
  | .characterReceived _ _ _ => none
  | .characterGapTimeout => none
  | .replyEnd _ => none
  | .statusRead => some (0x01, [])
  | .noticeFetch => some (0x02, [])
  | .softRestart _ => some (0x03, [])
  | .vehicleConstantsWrite kvss cinj ppr consumption reserve => some (0x08, wordBytes kvss ++ wordBytes cinj ++ [ppr] ++ wordBytes consumption ++ [reserve])
  | .vehicleConstantsRead => some (0x09, [])
  | .eepromRead first count => some (0x0A, [first, count])
  | .eepromWrite address value => some (0x0B, address :: wordBytes value)
  | .curveLoad curve count points => some (0x10, curve :: count :: pointBytes points)
  | .curveRead curve => some (0x11, [curve])
  | .analogInputConfigure input curve low high decimation shift threshold => some (0x12, [input, curve] ++ wordBytes low ++ wordBytes high ++ [decimation, shift] ++ wordBytes threshold)
  | .pulseInputConfigure input filter selection loss _ => some (0x13, [input, filter, selection, loss])
  | .discreteInputConfigure input polarity debounce wake => some (0x14, [input, polarity, debounce, wake])
  | .channelRead first count => some (0x15, [first, count])
  | .channelHold channel value => some (0x16, channel :: wordBytes value)
  | .channelRelease channel => some (0x17, [channel])
  | .channelPut channel value => some (0x18, channel :: wordBytes value)
  | .externalChannelConfigure channel freshness withdraw => some (0x19, [channel, freshness, withdraw])
  | .discreteRead => some (0x1A, [])
  | .gaugeConfigure gauge fields delay => some (0x20, gauge :: gaugeFieldBytes fields ++ wordBytes delay)
  | .gaugeRead gauge => some (0x21, [gauge])
  | .sweepStart => some (0x22, [])
  | .monitorConfigure monitor fields => some (0x28, monitor :: monitorBytes fields)
  | .monitorRead monitor part => some (0x29, [monitor, part])
  | .monitorAcknowledge monitor => some (0x2A, [monitor])
  | .monitorClearSnapshot monitor => some (0x2B, [monitor])
  | .chimePost slot pattern priority passes => some (0x30, [slot, pattern, priority, passes])
  | .chimeWithdraw slot => some (0x31, [slot])
  | .patternLoad pattern count steps => some (0x32, pattern :: count :: stepBytes steps)
  | .chimeRead first => some (0x33, [first])
  | .lampSet lamp mode => some (0x34, [lamp, mode])
  | .lampConfigure discrete => some (0x35, [discrete])
  | .lampRead lamp => some (0x36, [lamp])
  | .tripRead selector => some (0x38, [selector])
  | .tripReset selector => some (0x39, [selector])
  | .tripControl actionA actionB hours => some (0x3A, [actionA, actionB, hours])
  | .odometerRead => some (0x3B, [])
  | .drumRead => some (0x3C, [])
  | .drumRestart => some (0x3D, [])
  | .serviceConfigure item fields => some (0x40, item :: serviceBytes fields)
  | .serviceRead item => some (0x41, [item])
  | .serviceReset item => some (0x42, [item])

/-- How the request a request row stands for is served; none for an event row (10.6). -/
def service? (c : Instr) : Option Service :=
  match c with
  | .powerOnReset _ _ _ _ _ => none
  | .resetnRelease => none
  | .initEnd _ => none
  | .tick _ _ _ => none
  | .discreteChange _ => none
  | .runEntry _ => none
  | .runExit _ => none
  | .secondEnd => none
  | .dayEnd => none
  | .freshnessExpiry _ => none
  | .lingerExpiry => none
  | .asleepEntry => none
  | .spdEdge _ => none
  | .tacEdge _ => none
  | .injLevelChange _ => none
  | .idxEdge => none
  | .windowClose _ => none
  | .analogSample _ _ => none
  | .tripSecond => none
  | .gaugeMotionStep => none
  | .sweepDelayExpiry => none
  | .sweepTimeoutExpiry => none
  | .syncFallingEdge => none
  | .syncPulseEnd => none
  | .monitorEvaluation _ => none
  | .assertTimerExpiry _ => none
  | .releaseTimerExpiry _ => none
  | .reminderExpiry _ => none
  | .chimeStepEnd => none
  | .gapEnd => none
  | .bulbCheckEnd => none
  | .flashHalfChange => none
  | .dutySetting => none
  | .drumStep => none
  | .drumIndexMiss => none
  | .drumCoilOff => none
  | .eepromWriteBegin => none
  | .eepromWordComplete => none
  | .eepromWordFail => none
  | .characterReceived _ _ _ => none
  | .characterGapTimeout => none
  | .replyEnd _ => none
  | .statusRead => some serveStatusRead
  | .noticeFetch => some serveNoticeFetch
  | .softRestart _ => some serveSoftRestart
  | .vehicleConstantsWrite kvss cinj ppr consumption reserve => some (serveVehicleConstantsWrite kvss cinj ppr consumption reserve)
  | .vehicleConstantsRead => some serveVehicleConstantsRead
  | .eepromRead first count => some (serveEepromRead first count)
  | .eepromWrite address value => some (serveEepromWrite address value)
  | .curveLoad curve count points => some (serveCurveLoad curve count points)
  | .curveRead curve => some (serveCurveRead curve)
  | .analogInputConfigure input curve low high decimation shift threshold => some (serveAnalogInputConfigure input curve low high decimation shift threshold)
  | .pulseInputConfigure input filter selection loss _ => some (servePulseInputConfigure input filter selection loss)
  | .discreteInputConfigure input polarity debounce wake => some (serveDiscreteInputConfigure input polarity debounce wake)
  | .channelRead first count => some (serveChannelRead first count)
  | .channelHold channel value => some (serveChannelHold channel value)
  | .channelRelease channel => some (serveChannelRelease channel)
  | .channelPut channel value => some (serveChannelPut channel value)
  | .externalChannelConfigure channel freshness withdraw => some (serveExternalChannelConfigure channel freshness withdraw)
  | .discreteRead => some serveDiscreteRead
  | .gaugeConfigure gauge fields delay => some (serveGaugeConfigure gauge fields delay)
  | .gaugeRead gauge => some (serveGaugeRead gauge)
  | .sweepStart => some serveSweepStart
  | .monitorConfigure monitor fields => some (serveMonitorConfigure monitor fields)
  | .monitorRead monitor part => some (serveMonitorRead monitor part)
  | .monitorAcknowledge monitor => some (serveMonitorAcknowledge monitor)
  | .monitorClearSnapshot monitor => some (serveMonitorClearSnapshot monitor)
  | .chimePost slot pattern priority passes => some (serveChimePost slot pattern priority passes)
  | .chimeWithdraw slot => some (serveChimeWithdraw slot)
  | .patternLoad pattern count steps => some (servePatternLoad pattern count steps)
  | .chimeRead first => some (serveChimeRead first)
  | .lampSet lamp mode => some (serveLampSet lamp mode)
  | .lampConfigure discrete => some (serveLampConfigure discrete)
  | .lampRead lamp => some (serveLampRead lamp)
  | .tripRead selector => some (serveTripRead selector)
  | .tripReset selector => some (serveTripReset selector)
  | .tripControl actionA actionB hours => some (serveTripControl actionA actionB hours)
  | .odometerRead => some serveOdometerRead
  | .drumRead => some serveDrumRead
  | .drumRestart => some serveDrumRestart
  | .serviceConfigure item fields => some (serveServiceConfigure item fields)
  | .serviceRead item => some (serveServiceRead item)
  | .serviceReset item => some (serveServiceReset item)

/-- The part is in one of its power states and its link is free, so that a request is served at once. -/
def State.ready (s : State) : Prop := s.powered = true ∧ s.linkFree = true

/-- The state with the reply to a request of `kind` begun: its result code and data (R174, R179). -/
def State.replied (s : State) (kind code : Byte) (data : List Byte) : State :=
  { s with link := { s.link with reply := some (frameBytes (kind + 0x80) (code :: data)) } }

/-- Commands carried out one after another, as far as each gives a next state. -/
def runAll : List Instr → State → Host.Outcome State Fault Refusal
  | [], s => .next s
  | c :: cs, s =>
    match exec c s with
    | .next t => runAll cs t
    | o => o

/-! ## The laws of the part -/

/-- The Notice Queue holds no two notices with the same key (R175). -/
def State.noticesDistinct (s : State) : Prop := (s.notices.map Notice.key).Nodup

/-- The constants in force lie within their ranges (9.2). -/
def State.constantsSound (s : State) : Prop :=
  constantsInRange s.consts.kvss s.consts.cinj s.consts.ppr s.consts.consumption s.consts.reserve = true

/-- The first law of the accumulators (R40): each residue is less than its modulus. In a part held in reset
each is 0 (R46). -/
def State.residuesSound (s : State) : Prop :=
  s.constantsSound ∧ s.accum.rd < s.consts.kvss ∧ s.accum.rf < s.consts.cinj ∧
  s.accum.rr < s.consts.ppr * 1000 ∧
  (s.power.state = .held → s.accum.rd = 0 ∧ s.accum.rf = 0 ∧ s.accum.rr = 0)

/-- An address of the EEPROM (00_scope section 5). -/
def inEeprom (a : Nat) : Prop := a < Config.eepromWords

/-- An entry of the write queue is sound: a host word lies in the host area (R168). -/
def Entry.sound (e : Entry) : Prop :=
  match e with
  | .host a _ => 50 ≤ a ∧ a ≤ 127
  | _ => True

/-- The EEPROM port is sound: the contents are in canonical form and every word listed, in flight or
waiting lies in the device. -/
def State.eepromSound (s : State) : Prop :=
  memoryWf s.eeprom.memory = true ∧ (∀ p ∈ s.eeprom.memory, inEeprom p.1) ∧
  (∀ f, s.eeprom.flight = some f → ∀ p ∈ f.words, inEeprom p.1) ∧ (∀ e ∈ s.eeprom.queue, e.sound)

/-- A gauge is sound: its position, target and rest angle lie within their ranges, and its highest rate is
not below its lowest (5.1, R83, R95). -/
def Gauge.sound (g : Gauge) : Prop :=
  g.p ≤ 16383 ∧ g.target ≤ 16383 ∧ g.config.rest ≤ 1023 ∧ g.config.rLo ≤ g.config.rHi

/-- Every gauge is sound, and SYNC's filter has its fixed settings, ON and falling edge (R89). -/
def State.gaugesSound (s : State) : Prop :=
  (∀ k : Fin 6, s.gauge.gauges[k].sound) ∧ s.gauge.sync.filterOn = true ∧ s.gauge.sync.selection = true

/-- What the law of sleep asks of the blocks (R162): no chime request, every gauge PARKED, the EEPROM port
idle with nothing waiting, and no drum that owes steps but one in FAULT or ABSENT. -/
def State.quiet (s : State) : Prop :=
  s.chime.queue = [] ∧ (∀ k : Fin 6, s.gauge.gauges[k].mode = .parked) ∧
  s.eeprom.queue = [] ∧ s.eeprom.flight = none ∧
  (s.drum.state = .absent ∨ s.drum.state = .fault ∨ s.drum.debt = 0)

/-- The law of sleep (R162), and what keeps it: a part that is not awake is quiet, the bulb check runs in RUN
alone, an ASLEEP part has no frame or reply, a part in INIT has only frames that came in INIT, and a part held
in reset has none. -/
def State.sleepSound (s : State) : Prop :=
  (s.awake = false → s.quiet) ∧ (s.power.state ≠ .run → s.lamp.bulbCheck = none) ∧
  (s.power.state = .asleep → s.link.queue = [] ∧ s.link.reply = none) ∧
  (s.power.state = .init → ∀ f ∈ s.link.queue, f.inInit = true) ∧
  (s.power.state = .held → s.link.queue = [] ∧ s.link.reply = none)

/-- The law of the chime queue (R119): no two requests of one source, at most one PLAYING, which there is exactly
while the sequencer plays, and no request at all while the sequencer is IDLE. -/
def State.chimeSound (s : State) : Prop :=
  (s.chime.queue.map ChimeRequest.source).Nodup ∧ (s.chime.queue.filter ChimeRequest.playing).length ≤ 1 ∧
  ((∃ steps k left, s.chime.sequencer = .playing steps k left) ↔ ∃ r ∈ s.chime.queue, r.playing = true) ∧
  (s.chime.sequencer = .idle → s.chime.queue = [])

/-- A request that the sequencer is about to remove: PLAYING under the stop order WITHDRAW (R122). -/
def ChimeRequest.leaving (r : ChimeRequest) : Prop := r.playing = true ∧ r.stop = .withdraw

/-- The law of warning actions (R104, R144): a monitor holds a claim only in ACTIVE or RELEASING, on its own lamp,
and a chime request only then or while the request is leaving; a service item only in DUE or OVERDUE. -/
def State.warningsSound (s : State) : Prop :=
  (∀ (i : Fin 16) (l : Fin 12), s.lamp.claim l (monitorClaim i) ≠ none →
    (s.monitorAt i).warning = true ∧ (s.monitorAt i).lamp? = some l) ∧
  (∀ (i : Fin 16), ∀ r ∈ s.chime.queue, r.source = monitorSource i →
    r.leaving ∨ (s.monitorAt i).warning = true) ∧
  (∀ (k : Fin 6) (l : Fin 12), s.lamp.claim l (serviceClaim k) ≠ none →
    dueState s.service[k].state = true ∧ s.service[k].lamp? = some l) ∧
  (∀ (k : Fin 6), ∀ r ∈ s.chime.queue, r.source = serviceSource k →
    r.leaving ∨ dueState s.service[k].state = true)

/-- What keeps the law of service state (R143): the state of every item is the one its settings and counts give,
and before INIT its settings are the defaults (R154). -/
def State.serviceSound (s : State) : Prop :=
  ∀ k : Fin 6, s.service[k].state = s.service[k].computed ∧
    (s.power.state = .held → s.service[k].config = serviceDefaults)

/-- The drum is sound (3.7, R55 to R59): its counts lie within their ranges, it owes steps in STEPPING, with its
coils energised, and none in IDLE, and an ABSENT drum stands at its values of power-on reset. -/
def State.drumSound (s : State) : Prop :=
  s.drum.debt ≤ 65535 ∧ s.accum.rs < 5 ∧ s.drum.p < 20 ∧ s.drum.sinceIndex < 24 ∧ s.drum.missCount ≤ 2 ∧
  s.drum.phase < 4 ∧ (s.drum.state = .idle → s.drum.debt = 0) ∧
  (s.drum.state = .stepping → 0 < s.drum.debt ∧ s.drum.coils = true) ∧
  (s.drum.state = .absent → s.accum.rs = 0 ∧ s.drum = Drum.initial false)

/-- The total after a step: as it was, or one DU more, rolling from 99,999,999 to 0 (R47). -/
def totalKept (before after : State) : Prop :=
  after.accum.total = before.accum.total ∨ after.accum.total = totalAfter before.accum.total

/-! ## The filters of SPD, TAC, INJ, IDX and SYNC -/

/-- The filter width in whole FREF counts: 40 µs is 10.24 counts and 4 µs is 1.024 (R1, log entry 30). -/
def filterWidth (p : PulseInput) : Nat := if p.filterOn then 10 else 1

/-- The counts from `t` to `e`, modulo 2^24: 0 when `e` is now, or so far ahead, more than 512 counts, that it stands for
a moment that has passed. -/
def countsUntil (e t : Stamp) : Nat := if (e - t).toNat ≤ 512 then (e - t).toNat else 0

/-- The counts from `t` until the last of `changes` changes can be accepted: each stands for one width since the pin
last stood at the accepted level (R1). -/
def changeDelay (p : PulseInput) (changes : Nat) (t : Stamp) : Nat :=
  match p.stood with
  | none => 0
  | some l => countsUntil (l + BitVec.ofNat 24 (changes * filterWidth p)) t

/-- The counts from `t` until an active edge can be accepted: one change from the level it leaves; from the level it
leads to two changes, and one width from the tick that found the change back pending (R1, R2, log entry 8). -/
def edgeDelay (p : PulseInput) (t : Stamp) : Nat :=
  if p.accepted = p.selection then changeDelay p 1 t
  else
    match p.pending with
    | none => changeDelay p 2 t
    | some d => max (changeDelay p 2 t) (countsUntil (d + BitVec.ofNat 24 (filterWidth p)) t)

/-- An input's filter at `t`: a change back from its active edge is accepted once it has been pending for the width
(R1, log entry 8). -/
def settledAt (p : PulseInput) (t : Stamp) : PulseInput :=
  match p.pending with
  | none => p
  | some d =>
    if p.accepted ≠ p.selection ∧ filterWidth p ≤ (t - d).toNat then
      { p with accepted := p.selection, pending := none, stood := some (d + BitVec.ofNat 24 (changeDelay p 1 d)) }
    else p

/-- SYNC's filter at `t`: so too its rise, and the falling edge of the part's own pulse once the line has been low for
the width (R89). -/
def syncSettledAt (s : State) (t : Stamp) : PulseInput :=
  let p := s.gauge.sync
  match p.pending with
  | none => p
  | some d =>
    if s.gauge.syncPulse ≠ none ∧ p.accepted = p.selection ∧ filterWidth p ≤ (t - d).toNat then
      { p with accepted := !p.selection, pin := !p.selection, pending := none, stood := some t }
    else settledAt p t

/-- An enabled input whose pin is found at `pin` at `t`: away from the accepted level a change is pending, and at it a
pending change is discarded and the width starts again (R1). -/
def foundAt (p : PulseInput) (pin : Bool) (t : Stamp) : PulseInput :=
  if pin = p.accepted then { p with pin := pin, pending := none, stood := some t }
  else
    { p with
        pin := pin,
        pending := match p.pending with
          | some d => some d
          | none => some t,
        stood := match p.stood with
          | some l => if (t - l).toNat < 256 then some l else none
          | none => none }

/-- SPD, TAC, IDX or SYNC whose pin a tick, or a command's moment, at `t` finds at `pin`: at the level an active edge led to, a pending change is
discarded; but a change back can have been accepted since that edge unseen, once a width has passed, and only before that
does the width start again (R1, log entry 8). -/
def foundByTick (p : PulseInput) (pin : Bool) (t : Stamp) : PulseInput :=
  if pin = p.accepted ∧ p.accepted ≠ p.selection then
    { p with
        pin := pin,
        pending := none,
        stood := match p.stood with
          | some l => if (t - l).toNat < filterWidth p then some t else if (t - l).toNat < 256 then some l else none
          | none => none }
  else foundAt p pin t

/-- A disabled input whose pin is found at `pin`: its filter does not run (R1). -/
def ignored (p : PulseInput) (pin : Bool) : PulseInput := { p with pin := pin, pending := none, stood := none }

/-- The pulse inputs as a look at the pins finds them at `t`: SPD, TAC and INJ run in RUN, and IDX while the part is awake
(R1, R2, log entry 8). -/
def pulsesFound (s : State) (pulse : BitVec 5) (t : Stamp) : PulseUnit :=
  let run := decide (s.power.state = .run)
  let edges := fun (p : PulseInput) (enabled pin : Bool) =>
    if enabled then foundByTick (settledAt p t) pin t else ignored p pin
  { s.pulse with
      spd := edges s.pulse.spd run (pulse.getLsbD 0), tac := edges s.pulse.tac run (pulse.getLsbD 1),
      inj := if run then foundAt s.pulse.inj (pulse.getLsbD 2) t else ignored s.pulse.inj (pulse.getLsbD 2),
      idx := edges s.pulse.idx s.awake (pulse.getLsbD 3) }

/-- SYNC as a look at the line finds it at `t`, `others` its level but for the part's own pulse (R88, R89). -/
def syncFound (s : State) (others : Bool) (t : Stamp) : PulseInput :=
  let line := others && decide (s.gauge.syncPulse = none)
  if s.power.state = .run then foundByTick (syncSettledAt s t) line t else ignored s.gauge.sync line

/-- The part at a command's moment: time moved on to it, never back (log entry 7), and the pins found at its levels (log
entry 8). -/
def atMoment (s : State) (m : Moment) : State :=
  let sub := if s.time.sub ≤ m.sub then m.sub else s.time.sub
  let t := s.time.fref + sub.setWidth 24
  { s with time := { s.time with sub := sub }, pulse := pulsesFound s m.pulse t,
           gauge := { s.gauge with sync := syncFound s (m.pulse.getLsbD 4) t } }

/-- The moment of a request row whose request may restart filters (R3, R10); the other rows bring none. -/
def moment? (c : Instr) : Option Moment :=
  match c with
  | .softRestart m => some m
  | .pulseInputConfigure _ _ _ _ m => some m
  | _ => none

/-- The part as a request row finds it: at the row's moment, when it brings one. -/
def atCommand (s : State) (c : Instr) : State := ((moment? c).map (atMoment s)).getD s

/-- SYNC once the part has pulled it low (R88), seen by the filter in RUN. -/
def syncPulled (s : State) : PulseInput :=
  if s.power.state = .run then foundAt (foundAt s.gauge.sync s.gauge.sync.pin s.now) false s.now
  else ignored s.gauge.sync false

/-- Time moved on to `sub` counts into the tick, never back (log entry 7), and the filters of RUN with it. -/
def broughtTo (s : State) (sub : BitVec 8) : State :=
  let sub := if s.time.sub ≤ sub then sub else s.time.sub
  let t := s.time.fref + sub.setWidth 24
  { s with
      time := { s.time with sub := sub },
      pulse := { s.pulse with spd := settledAt s.pulse.spd t, tac := settledAt s.pulse.tac t,
                              idx := settledAt s.pulse.idx t },
      gauge := { s.gauge with sync := syncSettledAt s t } }

/-! ## What an event does in many blocks at once -/

/-- What MONITOR carries (R107, R181): the state in the low byte, and in the high byte 1 for acknowledged and 2 for a
snapshot held. -/
def monitorValue (m : Monitor) : Word :=
  BitVec.ofNat 16 ((match m.state with | .off => 0 | .clear => 1 | .pending => 2 | .active => 3 | .releasing => 4) +
    (if m.acked then 256 else 0) + (if m.snapshot = none then 0 else 512))

/-- What SWEEP carries (R92, R181): the completed mask in the low byte, G0 lowest, and the start cause in the high. -/
def sweepValue (w : Sweep) : Word :=
  BitVec.ofNat 16 (((List.finRange 6).map fun k => if w.completed[k] then 2 ^ k.val else 0).sum +
    256 * (match w.cause with | .none => 0 | .request => 1 | .delay => 2 | .sync => 3))

/-- The conditions of ASLEEP entry (R162). -/
def sleepConditions (s : State) : Prop :=
  s.power.state = .awakeOff ∧ s.power.linger = .expired ∧
  (∀ k : Fin 12, s.discretes.inputs[k].wake = true →
    s.discretes.inputs[k].level ≠ s.discretes.inputs[k].activeHigh) ∧
  s.chime.queue = [] ∧ (∀ k : Fin 6, s.gauge.gauges[k].mode = .parked) ∧
  (s.drum.state = .absent ∨ s.drum.state = .fault ∨ s.drum.debt = 0) ∧ s.drum.coils = false ∧
  s.eeprom.queue = [] ∧ s.eeprom.flight = none ∧ s.link.queue = [] ∧ s.link.reply = none

/-- A notice of `key` is pending, and every notice of that key carries `value` (R175). -/
def State.posted (t : State) (key : NoticeKey) (value : Word) : Prop :=
  (∃ n ∈ t.notices, n.key = key) ∧ ∀ n ∈ t.notices, n.key = key → n.value = value

/-- A channel's measured validity is another after the step from `s` to `t`. -/
abbrev validityChanged (s t : State) (c : Fin 16) : Prop :=
  t.channels.records[c].validity ≠ s.channels.records[c].validity

/-- The CHANNEL notices of a step (R25): each channel whose measured validity the step changes has its notice pending,
with the new code. -/
def channelNotices (s t : State) : Prop :=
  ∀ c : Fin 16, validityChanged s t c →
    t.posted (.channel c) (match t.channels.records[c].validity with
      | .valid => 0 | .held => 1 | .fault => 2 | .absent => 3 | .stale => 4)

/-- What SERVICE carries for an item (R145): in the low byte the state, in the high byte one mark per basis whose level
equals it, the distance basis lowest, and no mark for a DISABLED item. -/
def serviceValue (i : ServiceItem) : Word :=
  let f := i.config
  let level := fun u c : Nat =>
    if u = 0 then 0
    else if u * (100 + f.grace.toNat) ≤ c * 100 then 4
    else if u ≤ c then 3
    else if u * (100 - f.margin.toNat) ≤ c * 100 then 2
    else 1
  let code := match i.state with | .disabled => 0 | .ok => 1 | .early => 2 | .due => 3 | .overdue => 4
  let mark := fun u c weight : Nat => if code ≠ 0 ∧ level u c = code then weight else 0
  BitVec.ofNat 16 (code + 256 * (mark (f.km.toNat * 100) i.sinceDu 1 + mark f.days.toNat i.sinceDays 2 +
    mark (f.mrev.toNat * 1000) i.sinceKr 4))

/-- An item's state is another after the step from `s` to `t`. -/
abbrev serviceChanged (s t : State) (k : Fin 6) : Prop := t.service[k].state ≠ s.service[k].state

/-- What the changes of the items' states bring (R144, R145): on the item's lamp no claim in OK, EARLY and DISABLED, ON
in DUE and FLASH in OVERDUE; the item's chime request withdrawn when the new state is neither DUE nor OVERDUE; and its
SERVICE notice pending. Every other claim and request stands. -/
def serviceWarned (s t : State) : Prop :=
  (∀ (k : Fin 6) (l : Fin 12), t.lamp.claim l (serviceClaim k) =
    if serviceChanged s t k ∧ s.service[k].config.lamp.toNat = l.val then
      (match t.service[k].state with | .due => some .on | .overdue => some .flash | _ => none)
    else s.lamp.claim l (serviceClaim k)) ∧
  (∀ (l : Fin 12) (c : Fin 23), (∀ k : Fin 6, c ≠ serviceClaim k) → t.lamp.claim l c = s.lamp.claim l c) ∧
  t.lamp = { s.lamp with claims := t.lamp.claims } ∧
  t.chime = { s.chime with
    queue := s.chime.queue.filterMap fun r =>
      if (∃ k : Fin 6, r.source = serviceSource k ∧ serviceChanged s t k ∧ t.service[k].state ≠ .due ∧
          t.service[k].state ≠ .overdue) then
        (if r.playing then some { r with stop := .withdraw } else none)
      else some r } ∧
  (∀ k : Fin 6, serviceChanged s t k → t.posted (.service k) (serviceValue t.service[k]))

/-- What a step that only recomputes the items' states does beside them (R144): the changes' actions, and every notice
of another key as it was. -/
def serviceActions (s t : State) : Prop :=
  serviceWarned s t ∧
  (let others := fun n : Notice => decide (∀ k : Fin 6, serviceChanged s t k → n.key ≠ .service k)
   t.notices.filter others = s.notices.filter others)

/-- A monitor whose warning RUN exit ends with a MONITOR notice (R107, R112): RUN-only, ACTIVE or RELEASING, its notice
setting yes. -/
abbrev exitNotice (s : State) (i : Fin 16) : Prop :=
  s.monitor.monitors[i].config.runIn = 0 ∧
  (s.monitor.monitors[i].state = .active ∨ s.monitor.monitors[i].state = .releasing) ∧
  s.monitor.monitors[i].config.notice ≠ 0

/-- What RUN entry does (R160): `t` is `s` once every block has taken its actions (R10, R18, R65, R68, R87, R134). A gauge
that is not bound stands parked with its rate 0 (the model's, log entry 19). -/
def runEntered (s t : State) : Prop :=
  t.power = { s.power with state := .run, linger := .stopped } ∧
  t.pulse = { s.pulse with
    spd := { s.pulse.spd with accepted := s.pulse.spd.pin, pending := none, stood := some s.now },
    tac := { s.pulse.tac with accepted := s.pulse.tac.pin, pending := none, stood := some s.now },
    inj := { s.pulse.inj with accepted := s.pulse.inj.pin, pending := none, stood := some s.now },
    spdWindow := { Window.initial with loss := s.pulse.spdWindow.loss },
    tacWindow := { Window.initial with loss := s.pulse.tacWindow.loss },
    onTime := 0, injMark := s.now, windowClock := 0 } ∧
  (∀ i : Fin 6, t.sampler.inputs[i] =
    { s.sampler.inputs[i] with outCount := 0, inCount := 0, sum := 0, count := 0, armed := true, due := false }) ∧
  t.sampler.clock = 0 ∧
  (let due := 1 ≤ s.trip.hours ∧ s.trip.hours ≤ 24 ∧ ∃ off, s.power.offDuration = some off ∧ s.trip.hours * 3600 ≤ off
   (due → t.trip = { s.trip with
      b := { s.trip.b with distance := 0, fuel := 0, seconds := 0, saturated := false }, clock := some 0 }) ∧
   (¬ due → t.trip = { s.trip with clock := some 0 } ∧ t.notices = s.notices) ∧
   (due → ∀ off, s.power.offDuration = some off →
      t.notices = (s.notify .trip (BitVec.ofNat 16 (min (off / 60) 65535))).notices)) ∧
  (∀ k : Fin 6,
    let g := s.gauge.gauges[k]
    t.gauge.gauges[k] =
      if s.bound g then
        { g with mode := if g.config.sweep then .armed else .tracking, sine := coilAt (angleCount g.p),
                 cosine := coilAt (angleCount g.p + 256) }
      else { g with mode := .parked, v := 0, sine := { g.sine with duty := 0 },
                    cosine := { g.cosine with duty := 0 } }) ∧
  t.gauge.sweep =
    (if ∃ k : Fin 6, s.bound s.gauge.gauges[k] = true ∧ s.gauge.gauges[k].config.sweep = true then
      { s.gauge.sweep with
          isOpen := true, completed := Vector.replicate 6 false, cause := .none, timeout := some 5000,
          delayTimer := if s.gauge.sweep.delay = 0 then none else some (s.gauge.sweep.delay * 10) }
    else { s.gauge.sweep with timeout := none, delayTimer := none }) ∧
  t.gauge.clock = s.gauge.clock ∧ t.gauge.syncPulse = s.gauge.syncPulse ∧
  t.gauge.sync = { s.gauge.sync with accepted := s.gauge.sync.pin, pending := none, stood := some s.now } ∧
  t.lamp = { s.lamp with bulbCheck := some 3000 } ∧
  t = { s with power := t.power, pulse := t.pulse, sampler := t.sampler, trip := t.trip, gauge := t.gauge,
               lamp := t.lamp, notices := t.notices }

/-- What one DU does (R43, R47, R51, R56, R74, R140, R152): `t` is `s` once the DU has reached the total, the trips,
the range basis, the service items and the drum, and the two posts it may bring have been made, ODOMETER before SERVICE
(the model's choice, log entry 12). -/
def duEmitted (s t : State) : Prop :=
  let total := if s.accum.total = 99999999 then 0 else s.accum.total + 1
  let trip := fun x : Trip =>
    if s.power.state ≠ .run ∨ x.paused = true ∨ x.saturated = true then x
    else if 9999999 < x.distance + 1 then { x with distance := 9999999, saturated := true }
    else { x with distance := x.distance + 1 }
  let fifth := s.drum.state ≠ .absent ∧ 5 ≤ s.accum.rs + 1
  let stepLost := fifth ∧ s.drum.debt = 65535 ∧ s.drum.lost = false
  t.accum = { s.accum with
    total := total, rs := if s.drum.state = .absent then s.accum.rs else if fifth then 0 else s.accum.rs + 1 } ∧
  t.trip = { s.trip with
    a := trip s.trip.a, b := trip s.trip.b,
    rbDist := if s.trip.rbDist + 1 = 20000 then 10000 else s.trip.rbDist + 1,
    rbFuel := if s.trip.rbDist + 1 = 20000 then s.trip.rbFuel / 2 else s.trip.rbFuel } ∧
  (∀ k : Fin 6, t.service[k] =
    (let i : ServiceItem :=
      { s.service[k] with sinceDu := if s.service[k].sinceDu < 6553500 then s.service[k].sinceDu + 1
                                     else s.service[k].sinceDu }
     { i with state := i.computed })) ∧
  t.drum =
    (if ¬ fifth then s.drum
     else if s.drum.debt = 65535 then { s.drum with lost := true }
     else if s.drum.state = .idle then
       { s.drum with debt := s.drum.debt + 1, state := .stepping, coils := true,
                     clock := if s.drum.coils then s.drum.clock else 0,
                     stepped := s.drum.coils && s.drum.stepped }
     else { s.drum with debt := s.drum.debt + 1 }) ∧
  (stepLost → t.posted .drum (BitVec.ofNat 16 (256 + drumCode s.drum.state))) ∧
  (let queue := if total % 100 = 0 ∧ s.lastBound ≠ some total then bindOdometer total s.eeprom.queue else s.eeprom.queue
   t.eeprom = { s.eeprom with queue := if total % 10000 = 0 then postOnce .service queue else queue }) ∧
  serviceWarned s t ∧
  (let others := fun n : Notice => decide ((stepLost → n.key ≠ .drum) ∧
     ∀ k : Fin 6, serviceChanged s t k → n.key ≠ .service k)
   t.notices.filter others = s.notices.filter others) ∧
  t = { s with accum := t.accum, trip := t.trip, service := t.service, drum := t.drum, eeprom := t.eeprom,
               lamp := t.lamp, chime := t.chime, notices := t.notices }

/-- What a word left unfinished does to the device's contents (R53, R155, R166): every other word reads as before, a
record with the word in it fails its check, and the word itself is `left`, or one more in a record that `left` would
have completed (log entry 9). -/
def tornAt (before after : Memory) (a : Nat) (left : Word) : Prop :=
  (∀ b : Nat, b ≠ a → readWord after b = readWord before b) ∧
  (memoryWf before = true →
    (50 ≤ a → readWord after a = left) ∧ (readWord after a = left ∨ readWord after a = left + 1) ∧
    (a < 7 → headerConstants after = none) ∧
    (∀ slot : Fin 8, 7 + 3 * slot.val ≤ a → a < 10 + 3 * slot.val → ringRecord after slot = none) ∧
    (31 ≤ a → a < 50 → serviceBlockValid after = false))

/-- The payload length each request kind of fixed length requires (R180). -/
def requestLengths : List (Nat × Nat) :=
  [(0x01, 0), (0x02, 0), (0x03, 0), (0x08, 8), (0x09, 0), (0x0A, 2), (0x0B, 3), (0x11, 1), (0x12, 10), (0x13, 4),
   (0x14, 4), (0x15, 2), (0x16, 3), (0x17, 1), (0x18, 3), (0x19, 3), (0x1A, 0), (0x20, 14), (0x21, 1), (0x22, 0),
   (0x28, 28), (0x29, 2), (0x2A, 1), (0x2B, 1), (0x30, 4), (0x31, 1), (0x33, 1), (0x34, 2), (0x35, 1), (0x36, 1),
   (0x38, 1), (0x39, 1), (0x3A, 3), (0x3B, 0), (0x3C, 0), (0x3D, 0), (0x40, 13), (0x41, 1), (0x42, 1)]

/-- How a frame taken for service is judged (R174): `t` is `s` once frame `f` has been judged by its check, its arrival
in INIT, its kind and its payload's length, in that order, and the reply has begun. -/
def judged (s : State) (f : Frame) (t : State) : Prop :=
  let sends := fun bytes => ({ s with link := { s.link with reply := some bytes } } : State)
  let kind := f.kind.toNat
  let known := kind = 0x10 ∨ kind = 0x32 ∨ kind ∈ requestLengths.map Prod.fst
  let count := (f.payload.getD 1 0).toNat
  let fits := (∀ p ∈ requestLengths, p.1 = kind → f.payload.length = p.2) ∧
    (kind = 0x10 → f.payload.length = 2 + 4 * count) ∧ (kind = 0x32 → f.payload.length = 2 + 2 * count)
  (f.good = false → t = sends (frameBytes 0xFF [f.kind])) ∧
  (f.good = true → f.inInit = true → t = s.replied f.kind 5 []) ∧
  (f.good = true → f.inInit = false → ¬ known → t = sends (frameBytes (f.kind + 0x80) [4, f.kind])) ∧
  (f.good = true → f.inInit = false → known → ¬ fits → t = s.replied f.kind 6 []) ∧
  (f.good = true → f.inInit = false → known → fits → ∃ serve, serveKind kind f.payload = some serve ∧
    (let a := serve s
     t = a.state.replied f.kind a.result.code (if a.result = .ok then a.data else [])))

/-- A chime queue once a source has withdrawn (R122): a WAITING request is gone, a PLAYING one is to stop. -/
def withdrawn (source : Fin 26) (queue : List ChimeRequest) : List ChimeRequest :=
  queue.filterMap fun r =>
    if r.source = source then (if r.playing then some { r with stop := .withdraw } else none) else some r

/-- What a monitor's entry to ACTIVE and its reminder do (R104, R110): `t` is `s` once monitor `i` stands as `m`,
with its claim of the configured mode added, its chime request posted and its notice posted, each when it is set. -/
def monitorWarns (s : State) (i : Fin 16) (m : Monitor) (t : State) : Prop :=
  t.monitor = { s.monitor with monitors := s.monitor.monitors.set i m } ∧
  (∀ (l : Fin 12) (c : Fin 23), t.lamp.claim l c =
    if c = monitorClaim i ∧ m.config.lamp.toNat = l.val then some (if m.config.lampMode = 0 then .on else .flash)
    else s.lamp.claim l c) ∧
  t.lamp = { s.lamp with claims := t.lamp.claims } ∧
  (12 ≤ m.config.pattern.toNat → t.chime = s.chime) ∧
  (∀ p : Fin 12, m.config.pattern.toNat = p.val →
    t.chime = s.chime.post (monitorSource i) p m.config.priority.toNat m.config.passes.toNat) ∧
  t.notices = (if m.config.notice = 0 then s.notices else (s.notify (.monitor i) (monitorValue m)).notices) ∧
  t = { s with monitor := t.monitor, lamp := t.lamp, chime := t.chime, notices := t.notices }

/-- What a monitor's entry to CLEAR from RELEASING does (R106): `t` is `s` once monitor `i` stands as `m`, with its
claim removed, its chime request withdrawn and its notice posted, each when it is set. -/
def monitorClears (s : State) (i : Fin 16) (m : Monitor) (t : State) : Prop :=
  t.monitor = { s.monitor with monitors := s.monitor.monitors.set i m } ∧
  (∀ (l : Fin 12) (c : Fin 23), t.lamp.claim l c =
    if c = monitorClaim i ∧ m.config.lamp.toNat = l.val then none else s.lamp.claim l c) ∧
  t.lamp = { s.lamp with claims := t.lamp.claims } ∧
  t.chime = { s.chime with queue := withdrawn (monitorSource i) s.chime.queue } ∧
  t.notices = (if m.config.notice = 0 then s.notices else (s.notify (.monitor i) (monitorValue m)).notices) ∧
  t = { s with monitor := t.monitor, lamp := t.lamp, chime := t.chime, notices := t.notices }

/-- A selection (R123, R124): with no WAITING request the sequencer goes IDLE; else the one of highest priority, the
oldest among equals, keeps its place, becomes PLAYING and its pass begins on the first of its pattern's steps. -/
def selects (before after : ChimeUnit) : Prop :=
  ((∀ q ∈ before.queue, q.playing = true) → after = { before with sequencer := .idle }) ∧
  ∀ (front rest : List ChimeRequest) (r : ChimeRequest), before.queue = front ++ r :: rest → r.playing = false →
    (∀ q ∈ front, q.playing = false → q.priority < r.priority) →
    (∀ q ∈ rest, q.playing = false → q.priority ≤ r.priority) →
    after = { before with
      queue := front ++ { r with playing := true, reposted := false, stop := .none } :: rest,
      sequencer := .playing (before.steps r.pattern) 0
        (((before.steps r.pattern).head?.map fun t => t.duration * 10).getD 0) }

/-- The settings of a Monitor Configure that R114 and R180 refuse, for monitor `i`. -/
def monitorUnsound (i : Fin 16) (f : MonitorFields) (s : State) : Prop :=
  1 < f.enabled.toNat ∨ 1 < f.latching.toNat ∨ 1 < f.notice.toNat ∨ 1 < f.snapshot.toNat ∨ 1 < f.runIn.toNat ∨
  2 < f.faultSense.toNat ∨ 1 < f.srcKind.toNat ∨ 4 < f.method.toNat ∨
  (f.srcKind = 0 ∧ (15 < f.srcIndex.toNat ∨ f.method = 3 ∨ f.method = 4)) ∨
  (f.srcKind = 1 ∧ (11 < f.srcIndex.toNat ∨ f.method = 0 ∨ f.method = 1 ∨ f.method = 2)) ∨
  (f.method = 0 ∧ f.setLo.toNat < f.hyst.toNat) ∨ (f.method = 1 ∧ 65535 < f.setLo.toNat + f.hyst.toNat) ∨
  (f.method = 2 ∧ f.setHi.toNat < f.setLo.toNat + 2 * f.hyst.toNat) ∨
  (∃ q : Byte × Byte, (q = (f.q1Kind, f.q1Index) ∨ q = (f.q2Kind, f.q2Index)) ∧
    (4 < q.1.toNat ∨ ((q.1 = 1 ∨ q.1 = 2) ∧ 11 < q.2.toNat) ∨
      (q.1 = 3 ∧ (15 < q.2.toNat ∨ q.2.toNat = i.val)))) ∨
  (12 ≤ f.lamp.toNat ∧ f.lamp.toNat ≤ 254) ∨ (f.lamp.toNat < 12 ∧ 1 < f.lampMode.toNat) ∨
  (12 ≤ f.pattern.toNat ∧ f.pattern.toNat ≤ 254) ∨
  (∃ p : Fin 12, f.pattern.toNat = p.val ∧
    (7 < f.priority.toNat ∨ 15 < f.passes.toNat ∨ s.chime.steps p = []))

/-- The settings of a Service Configure that R147 refuses. -/
def serviceUnsound (f : ServiceFields) (s : State) : Prop :=
  1 < f.enabled.toNat ∨ (1 ≤ f.km.toNat ∧ f.km.toNat ≤ 499) ∨ 65000 < f.km.toNat ∨ 1023 < f.days.toNat ∨
  50 < f.margin.toNat ∨ 50 < f.grace.toNat ∨ (12 ≤ f.lamp.toNat ∧ f.lamp.toNat ≤ 254) ∨
  (12 ≤ f.pattern.toNat ∧ f.pattern.toNat ≤ 254) ∨
  (∃ p : Fin 12, f.pattern.toNat = p.val ∧
    (7 < f.priority.toNat ∨ f.passes.toNat = 0 ∨ 15 < f.passes.toNat ∨ s.chime.steps p = []))

/-- The state of a service item by its settings and counts (R142, R143): DISABLED when it is not enabled or has no
interval, and else the highest level of the bases it uses. -/
def serviceStateIs (i : ServiceItem) (x : ServiceState) : Prop :=
  let f := i.config
  let reached := fun (factor margin : Nat) =>
    (f.km ≠ 0 ∧ f.km.toNat * 100 * factor ≤ i.sinceDu * margin) ∨
    (f.days ≠ 0 ∧ f.days.toNat * factor ≤ i.sinceDays * margin) ∨
    (f.mrev ≠ 0 ∧ f.mrev.toNat * 1000 * factor ≤ i.sinceKr * margin)
  let overdue := reached (100 + f.grace.toNat) 100
  let due := reached 1 1
  let early := reached (100 - f.margin.toNat) 100
  let off := f.enabled = 0 ∨ (f.km = 0 ∧ f.days = 0 ∧ f.mrev = 0)
  x = if off then .disabled else if overdue then .overdue else if due then .due else if early then .early else .ok

end Sys2Proof.Machine
end

