-- ==== Sys2Proof/Certificates/Slice0/Obligations.lean ====
section
/-!
DEFINITION. The statements about the NZ-4810 that the provers are asked for.

A statement of an event says what it does when it is due, and that it changes nothing when it is not; a statement of a
request says what the part does when it is served at once (`State.ready`), in each of its answered and refused forms.
-/

open Sys2Proof Sys2Proof.Machine

/-! ## The machine -/

/-- A command at the front of the queue leaves it and is carried out with the queue's rest; with no command
waiting a step changes nothing (log entry 16). -/
def Obligations.StepTakesFrontCommand : Prop :=
  (∀ (c : Instr) (s : State) (rest : List Instr),
    s.pending = c :: rest → step s = exec c { s with pending := rest }) ∧
  (∀ s : State, s.pending = [] → step s = .next s)

/-- The state right after power-on reset meets every law stated below: distinct notices, residues below their
moduli, a sound EEPROM port, sound gauges, sleep, chime queue, warning actions, service states and drum. -/
def Obligations.ResetMeetsTheLaws : Prop :=
  State.reset.noticesDistinct ∧ State.reset.residuesSound ∧ State.reset.accum.total ≤ 99999999 ∧
  State.reset.sleepSound ∧ State.reset.chimeSound ∧ State.reset.warningsSound ∧ State.reset.serviceSound ∧
  State.reset.gaugesSound ∧ State.reset.drumSound ∧ State.reset.eepromSound

/-- A part held in reset stands still: every command but a power-on reset and the release of RESETN gives the same
state again (R155; the model's reading, log entry 28). -/
def Obligations.HeldPartStandsStill : Prop :=
  ∀ (c : Instr) (s : State), s.power.state = .held →
    (∀ di ign pulse lrate drumfit, c ≠ .powerOnReset di ign pulse lrate drumfit) → c ≠ .resetnRelease →
    exec c s = .next s

/-! ## Laws that every step keeps -/

/-- The law of the Notice Queue: from any state whose queue holds no two notices with one key, every step leaves a
queue that holds no two notices with one key, and so never more than 44. A posting joins at the back when its key has
no notice pending, and else replaces the value in place; ATTN is low exactly while the queue is not empty. -/
def Obligations.NoticeQueueLaw : Prop :=
  (∀ s t : State, s.noticesDistinct → step s = .next t → t.noticesDistinct ∧ t.notices.length ≤ 44) ∧
  (∀ (s : State) (key : NoticeKey) (value : Word), (∀ n ∈ s.notices, n.key ≠ key) →
    s.notify key value = { s with notices := s.notices ++ [{ key := key, value := value }] }) ∧
  (∀ (s : State) (value : Word) (front rest : List Notice) (n : Notice), s.noticesDistinct →
    s.notices = front ++ n :: rest →
    s.notify n.key value = { s with notices := front ++ { key := n.key, value := value } :: rest }) ∧
  ∀ s : State, s.attnLow = true ↔ s.notices ≠ []

/-- The first law of the accumulators: from any state with sound constants and residues below their moduli (and 0
in a part held in reset), every step, a change of the vehicle constants included, leaves sound constants and each
residue below its modulus. -/
def Obligations.ResidueLaw : Prop :=
  ∀ s t : State, s.residuesSound → step s = .next t → t.residuesSound

/-- The law of the odometer total: in every step other than a power-on reset and the reading of the ring at the
release of RESETN the total stays as it was or grows by one DU, rolling from 99,999,999 to 0, and no step takes it
above 99,999,999. -/
def Obligations.OdometerLaw : Prop :=
  ∀ s t : State, s.accum.total ≤ 99999999 → step s = .next t →
    t.accum.total ≤ 99999999 ∧
    ((∀ di ign pulse lrate drumfit, s.pending.head? ≠ some (.powerOnReset di ign pulse lrate drumfit)) →
      s.pending.head? ≠ some .resetnRelease →
      t.accum.total = s.accum.total ∨
        t.accum.total = if s.accum.total = 99999999 then 0 else s.accum.total + 1)

/-- The law of sleep: every step keeps that a part that is not awake has no chime request, every gauge PARKED, an
idle EEPROM port with nothing waiting and no drum that owes steps but one in FAULT or ABSENT, together with what
holds that up: the bulb check runs in RUN alone, an ASLEEP part has no frame or reply, and a part in INIT holds only
frames that came in INIT. -/
def Obligations.SleepLaw : Prop :=
  ∀ s t : State, s.sleepSound → step s = .next t → t.sleepSound

/-- The law of the chime queue: every step keeps that no two requests have one source, so that there are never more
than 26, that a request is PLAYING exactly while the sequencer plays, and then one alone, and that no request stands
while the sequencer is IDLE. -/
def Obligations.ChimeQueueLaw : Prop :=
  ∀ s t : State, s.chimeSound → step s = .next t → t.chimeSound ∧ t.chime.queue.length ≤ 26

/-- The law of warning actions: every step keeps that a monitor that is OFF, CLEAR or PENDING and a service item in
OK, EARLY or DISABLED hold no lamp claim, and no chime request other than a PLAYING one under the stop order
WITHDRAW, and that a claim stands on the source's own lamp. -/
def Obligations.WarningActionsLaw : Prop :=
  ∀ s t : State, s.chimeSound → s.warningsSound → step s = .next t → t.warningsSound

/-- The law of service state: every step keeps that each item stands in the state its settings and counts give, and
an item whose settings a step leaves as they were and whose counts it does not lower does not fall in state. -/
def Obligations.ServiceStateLaw : Prop :=
  ∀ s t : State, s.serviceSound → step s = .next t →
    t.serviceSound ∧
    ∀ k : Fin 6, t.service[k].config = s.service[k].config → s.service[k].sinceDu ≤ t.service[k].sinceDu →
      s.service[k].sinceDays ≤ t.service[k].sinceDays → s.service[k].sinceKr ≤ t.service[k].sinceKr →
      serviceCode s.service[k].state ≤ serviceCode t.service[k].state

/-- The law of gauge motion: every step keeps every gauge's position and target within 0 to 16,383 and SYNC's filter ON
for the falling edge, and no step but a power-on reset moves a gauge by more than its r_hi. -/
def Obligations.GaugeMotionLaw : Prop :=
  ∀ s t : State, s.gaugesSound → step s = .next t →
    t.gaugesSound ∧
    ((∀ di ign pulse lrate drumfit, s.pending.head? ≠ some (.powerOnReset di ign pulse lrate drumfit)) →
      ∀ k : Fin 6, t.gauge.gauges[k].p ≤ s.gauge.gauges[k].p + s.gauge.gauges[k].config.rHi ∧
        s.gauge.gauges[k].p ≤ t.gauge.gauges[k].p + s.gauge.gauges[k].config.rHi)

/-- The law of the drum debt and the drum's other counts: every step keeps the debt at most 65,535, r_s below 5, the
position, the counts and the phase within their ranges, no debt in IDLE, a debt and energised coils in STEPPING, and
an ABSENT drum at the values of its power-on reset. And debt and steps keep pace with the DU: in every step of a part
with a drum, but for a power-on reset, r_s and five times the debt and the step taken grow by the DU emitted, unless a
step is lost, with the debt and r_s full, which alone sets the lost flag. A DU is seen in the total's change, which the
reading of the ring at the release of RESETN is not, and a step in the phase's. -/
def Obligations.DrumLaw : Prop :=
  ∀ s t : State, s.drumSound → step s = .next t →
    t.drumSound ∧
    ((∀ di ign pulse lrate drumfit, s.pending.head? ≠ some (.powerOnReset di ign pulse lrate drumfit)) →
      (t.drum.state = .absent ↔ s.drum.state = .absent) ∧
      (s.drum.state ≠ .absent →
        let du := if s.pending.head? = some .resetnRelease ∨ t.accum.total = s.accum.total then 0 else 1
        let taken := if t.drum.phase = s.drum.phase then 0 else 1
        let full := du = 1 ∧ s.accum.rs = 4 ∧ s.drum.debt = 65535
        (¬ full → t.accum.rs + 5 * (t.drum.debt + taken) = s.accum.rs + 5 * s.drum.debt + du ∧
          t.drum.lost = s.drum.lost) ∧
        (full → t.accum.rs = 0 ∧ t.drum.debt = 65535 ∧ taken = 0 ∧ t.drum.lost = true)))

/-- The law of the presented range: in every step that finds a presented range and leaves one, the range rises by at
most 1 km unless measured SPEED is 0 with validity VALID. -/
def Obligations.PresentedRangeLaw : Prop :=
  ∀ (s t : State) (p q : Nat), step s = .next t → s.trip.presented = some p → t.trip.presented = some q →
    s.measured 0 ≠ (0, .valid) → q ≤ p + 1

/-- The EEPROM port stays sound in every step: the contents stay in canonical form inside the device, and so do the
words in flight and the host words that wait. Only the word in flight can change in the device: every other address
reads as before. -/
def Obligations.EepromKept : Prop :=
  ∀ s t : State, s.eepromSound → step s = .next t →
    t.eepromSound ∧
    ∀ a : Nat, (∀ (f : Flight) (w : Word) (rest : List (Nat × Word)),
        s.eeprom.flight = some f → f.words ≠ (a, w) :: rest) →
      readWord t.eeprom.memory a = readWord s.eeprom.memory a

/-! ## Power and time -/

/-- A power-on reset puts every block at the values of its chapter, the straps and the first samples of IGN, DI0 to
DI11, the pulse pins and SYNC taken from the command. The EEPROM's words are kept, but for the one in flight, which holds
whatever the device left in it, a free value with which a record never passes its check (the model's choices where the
data book gives no value: log entries 1, 4, 9, 14, 24, 39, 41, 42 and 44). -/
def Obligations.PowerOnResetResult : Prop :=
  ∀ (s : State) (di : BitVec 12) (ign : Bool) (pulse : BitVec 5) (lrate drumfit : Bool), ∃ t : State,
    exec (.powerOnReset di ign pulse lrate drumfit) s = .next t ∧
    (∀ k : Fin 12, t.discretes.inputs[k] =
      { Discrete.initial with level := di.getLsbD k.val, pin := di.getLsbD k.val }) ∧
    t.discretes.ign = { level := ign, timer := 0, pin := ign } ∧
    (s.eeprom.flight = none → t.eeprom.memory = s.eeprom.memory ∧ t.freeCount = s.freeCount) ∧
    (∀ (f : Flight) (a : Nat) (w : Word) (rest : List (Nat × Word)),
      s.eeprom.flight = some f → f.words = (a, w) :: rest →
      tornAt s.eeprom.memory t.eeprom.memory a (Config.leftWord s.freeCount) ∧ t.freeCount = s.freeCount + 1) ∧
    t = { State.reset with
            power := { State.reset.power with state := .held, linger := .stopped, offDuration := none,
                                              lrate := lrate, drumfit := drumfit },
            pulse := { PulseUnit.initial with
                         spd := { PulseInput.initial with pin := pulse.getLsbD 0 },
                         tac := { PulseInput.initial with pin := pulse.getLsbD 1 },
                         inj := { PulseInput.initial with pin := pulse.getLsbD 2 },
                         idx := { PulseInput.initial with pin := pulse.getLsbD 3 } },
            gauge := { State.reset.gauge with
                         sync := { PulseInput.initial with selection := true, pin := pulse.getLsbD 4 } },
            discretes := t.discretes,
            drum := { State.reset.drum with state := if drumfit then .idle else .absent },
            eeprom := { memory := t.eeprom.memory, queue := [], flight := none },
            freeCount := t.freeCount, pending := s.pending }

/-- The release of RESETN begins INIT and reads the header, the ring and the service block: the constants, the range
basis, the total, the ring's position and the items' counts are set from the device's words, or from the defaults
with the start-up flag, and nothing else changes (log entry 37: the three reads are taken with the release). The service
block is valid when its nineteen words sum to 0xA5A5 modulo 65,536 and each since_days word is at most 4095. The model's
choices: with the ring empty the newest value, which has no slot, is 0 (log entry 4), and a part not held in reset is left
as it stands (log entry 5). -/
def Obligations.ReleaseReadsTheEeprom : Prop :=
  (∀ m : Memory, serviceBlockValid m = true ↔
    ((List.range 19).map fun k => (readWord m (31 + k)).toNat).sum % 65536 = 0xA5A5 ∧
    ∀ k : Nat, k < 6 → (readWord m (32 + 3 * k)).toNat ≤ 4095) ∧
  ∀ s : State,
    (s.power.state ≠ .held → exec .resetnRelease s = .next s) ∧
    (s.power.state = .held → ∃ t : State, exec .resetnRelease s = .next t ∧
      t.consts = (headerConstants s.eeprom.memory).getD .initial ∧
      (∀ slot value, newestRecord s.eeprom.memory = some (slot, value) →
        t.accum.total = value ∧ t.accum.newestSlot = some slot ∧ t.accum.newestValue = value) ∧
      (newestRecord s.eeprom.memory = none →
        t.accum.total = 0 ∧ t.accum.newestSlot = none ∧ t.accum.newestValue = 0) ∧
      (∀ k : Fin 6, t.service[k] =
        { s.service[k] with
            sinceDu := if serviceBlockValid s.eeprom.memory then
                         (readWord s.eeprom.memory (31 + 3 * k.val)).toNat * 100 else 0,
            sinceDays := if serviceBlockValid s.eeprom.memory then
                           (readWord s.eeprom.memory (32 + 3 * k.val)).toNat else 0,
            sinceKr := if serviceBlockValid s.eeprom.memory then
                         (readWord s.eeprom.memory (33 + 3 * k.val)).toNat else 0 }) ∧
      t = { s with
              power := { s.power with
                           state := .init, headerDefaulted := (headerConstants s.eeprom.memory).isNone,
                           ringEmpty := (newestRecord s.eeprom.memory).isNone,
                           serviceDefaulted := !serviceBlockValid s.eeprom.memory, clockLost := true },
              consts := t.consts,
              trip := { s.trip with rbDist := 10000, rbFuel := t.consts.consumption * 100 },
              accum := { s.accum with total := t.accum.total, newestSlot := t.accum.newestSlot,
                                      newestValue := t.accum.newestValue },
              service := t.service })

/-- When the header is valid and what it then gives: word 0 is 0x4E5A, words 0 to 6 sum to 0xA5A5 modulo 65,536 and
words 1 to 5 lie in the ranges of 9.2, and the constants are words 1 to 5. -/
def Obligations.HeaderValidity : Prop :=
  ∀ (m : Memory) (c : Constants),
    headerConstants m = some c ↔
      (readWord m 0 = 0x4E5A ∧
       ((readWord m 0).toNat + (readWord m 1).toNat + (readWord m 2).toNat + (readWord m 3).toNat +
         (readWord m 4).toNat + (readWord m 5).toNat + (readWord m 6).toNat) % 65536 = 0xA5A5 ∧
       c = { kvss := (readWord m 1).toNat, cinj := (readWord m 2).toNat, ppr := (readWord m 3).toNat,
             consumption := (readWord m 4).toNat, reserve := (readWord m 5).toNat, origin := .header } ∧
       500 ≤ c.kvss ∧ c.kvss ≤ 25000 ∧ 256 ≤ c.cinj ∧ c.cinj ≤ 65535 ∧ 1 ≤ c.ppr ∧ c.ppr ≤ 8 ∧
       20 ≤ c.consumption ∧ c.consumption ≤ 500 ∧ c.reserve ≤ 200)

/-- A ring record is valid exactly when its three words sum to 0xA5A5 modulo 65,536 and its value, DU high × 65,536 +
DU low, is at most 99,999,999, which is DU high at most 1525 and, when it is 1525, DU low at most 57,599. Nothing
outside the slot's three words has any bearing on it. -/
def Obligations.RingRecordValidity : Prop :=
  ∀ (m : Memory) (slot : Fin 8) (value : Nat),
    let hi := (readWord m (7 + 3 * slot.val)).toNat
    let lo := (readWord m (8 + 3 * slot.val)).toNat
    let check := (readWord m (9 + 3 * slot.val)).toNat
    (ringRecord m slot = some value ↔
      ((hi + lo + check) % 65536 = 0xA5A5 ∧ value = hi * 65536 + lo ∧ value ≤ 99999999)) ∧
    (hi * 65536 + lo ≤ 99999999 ↔ hi ≤ 1525 ∧ (hi = 1525 → lo ≤ 57599))

/-- The newest valid ring record: a record is newer than another when their difference modulo 100,000,000 lies in 1
to 49,999,999; the newest is the first, from slot 0, that no valid record is newer than, or, when every valid record
has a newer one, the valid record in the lowest slot; and none exactly when no slot holds a valid record. -/
def Obligations.NewestRingRecord : Prop :=
  (∀ a b : Nat, a ≤ 99999999 → b ≤ 99999999 →
    (newer a b = true ↔
      1 ≤ ((a : Int) - b) % 100000000 ∧ ((a : Int) - b) % 100000000 ≤ 49999999)) ∧
  ∀ m : Memory,
    let candidate := fun (k : Fin 8) (v : Nat) =>
      ringRecord m k = some v ∧ ∀ (j : Fin 8) (w : Nat), ringRecord m j = some w → newer w v = false
    (newestRecord m = none ↔ ∀ k : Fin 8, ringRecord m k = none) ∧
    (∀ (k : Fin 8) (v : Nat), candidate k v → (∀ (j : Fin 8) (w : Nat), j < k → ¬ candidate j w) →
      newestRecord m = some (k, v)) ∧
    (∀ (k : Fin 8) (v : Nat), (∀ (j : Fin 8) (w : Nat), ¬ candidate j w) → ringRecord m k = some v →
      (∀ j : Fin 8, j < k → ringRecord m j = none) → newestRecord m = some (k, v))

/-- The end of INIT chooses RUN when IGN is active, AWAKE_OFF when it is not and the link has a frame queued or a
reply being sent, and else ASLEEP. The motion clock starts; AWAKE_OFF and RUN start the evaluation clock, the flash
clock and the duty and enable IDX; RUN takes the actions of RUN entry; no POWER notice is posted, and a STARTUP
notice carries the start-up flags, a TRIP notice of RUN entry before it. The inputs it enables take the pin levels the
command brings. The model's choices: that order (log entry 12), the filters and the on-time start at the command's moment,
the tick plus its operand, never falling (log entry 7), and the pins are found there as at a tick (log entry 8), a gauge
parked here stands with its rate 0 (log entry 19), and a part not in INIT is left as it stands (log entry 5). -/
def Obligations.InitEndResult : Prop :=
  ∀ (s : State) (m : Moment), s.power.state ≠ .held →
    let u := atMoment s m
    let g : State := { u with gauge := { u.gauge with clock := 0 } }
    let flags := BitVec.ofNat 16 ((if s.power.headerDefaulted then 1 else 0) + (if s.power.ringEmpty then 2 else 0) +
      (if s.power.serviceDefaulted then 4 else 0) + (if s.power.clockLost then 8 else 0))
    (s.power.state ≠ .init → exec (.initEnd m) s = .next s) ∧
    (s.power.state = .init → s.discretes.ign.level = false → s.link.queue = [] → s.link.reply = none →
      exec (.initEnd m) s = .next (State.notify
        { g with power := { g.power with state := .asleep, linger := .stopped } } .startup flags)) ∧
    (s.power.state = .init → s.discretes.ign.level = false → (s.link.queue ≠ [] ∨ s.link.reply ≠ none) →
      exec (.initEnd m) s = .next (State.notify
        { g.startClocks with
            power := { g.power with state := .awakeOff, linger := .running 30000 } } .startup flags)) ∧
    (s.power.state = .init → s.discretes.ign.level = true → ∃ t : State,
      exec (.initEnd m) s = .next (t.notify .startup flags) ∧ runEntered g.startClocks t)

/-- RUN entry, due when IGN is active in AWAKE_OFF or ASLEEP, takes the actions of 9.3 in every block and posts a
POWER notice of cause 0; from ASLEEP it first starts the clocks that stood still. The inputs it enables take the pin levels
the command brings. The model's choices: a gauge parked here stands with its rate 0 (log entry 19), a TRIP notice of the
entry is posted before its POWER notice (log entry 12), the filters and the on-time start at the command's moment, the tick
plus its operand, never falling (log entry 7), and the pins are found there as at a tick (log entry 8), and an entry that is
not due changes nothing (log entry 5). -/
def Obligations.RunEntryResult : Prop :=
  ∀ (s : State) (m : Moment), s.power.state ≠ .held →
    (s.discretes.ign.level = true → s.power.state = .awakeOff → ∃ t : State,
      exec (.runEntry m) s = .next (t.notify .power 0x0002) ∧ runEntered (atMoment s m) t) ∧
    (s.discretes.ign.level = true → s.power.state = .asleep → ∃ t : State,
      exec (.runEntry m) s = .next (t.notify .power 0x0002) ∧ runEntered (atMoment s m).startClocks t) ∧
    (s.discretes.ign.level = false ∨ s.power.state = .run ∨ s.power.state = .init →
      exec (.runEntry m) s = .next s)

/-- RUN exit, due when IGN is inactive in RUN, whichever of its two posts is taken first: the windows are abandoned
with SPEED and ENGINE 0 VALID, the sampler's sums emptied, every hold removed, FUEL_FLOW 0 VALID and
INST_CONSUMPTION ABSENT, the history and the trip second clock gone, the gauges RETURNING, their rest target their
target, with an open sweep closed and SYNC no longer watched, the RUN-only monitors CLEAR with their claims removed, the
bulb check stopped, the ODOMETER and SERVICE entries
posted, the off-duration and the linger timer started, and a POWER notice of cause 1 pending. So are the exit's other
notices, in whatever order: SWEEP with its cause and mask for a sweep it closes, CHANNEL with the new code for 0, 1, 8
and 9 when their validity changes, MONITOR carrying CLEAR for a warning monitor whose notice setting is yes. What is not
named is kept. The model's choices: the on-time's mark is the time of the latest event (log entry 7), and an exit that is
not due changes nothing (log entry 5). -/
def Obligations.RunExitResult : Prop :=
  ∀ (s : State) (serviceFirst : Bool),
    ((s.power.state = .init ∨ s.power.state = .awakeOff ∨ s.power.state = .asleep ∨
        (s.power.state = .run ∧ s.discretes.ign.level = true)) →
      exec (.runExit serviceFirst) s = .next s) ∧
    (s.power.state = .run → s.discretes.ign.level = false → ∃ t : State,
      exec (.runExit serviceFirst) s = .next t ∧
      t.power = { s.power with state := .awakeOff, linger := .running 30000, offDuration := some 0 } ∧
      t.pulse = { s.pulse with
                    spd := { s.pulse.spd with pending := none, stood := none },
                    tac := { s.pulse.tac with pending := none, stood := none },
                    inj := { s.pulse.inj with pending := none, stood := none },
                    spdWindow := { Window.initial with loss := s.pulse.spdWindow.loss },
                    tacWindow := { Window.initial with loss := s.pulse.tacWindow.loss },
                    onTime := 0, injMark := s.now, windowClock := 0 } ∧
      (∀ i : Fin 6, t.sampler.inputs[i] = { s.sampler.inputs[i] with sum := 0, count := 0, due := false }) ∧
      t.sampler.clock = 0 ∧
      (∀ c : Fin 16, t.channels.records[c] =
        { value := if c = 0 ∨ c = 1 ∨ c = 8 then 0 else s.channels.records[c].value,
          validity := if c = 0 ∨ c = 1 ∨ c = 8 then .valid else if c = 9 then .absent
                      else s.channels.records[c].validity,
          hold := none }) ∧
      t.channels.freshness = s.channels.freshness ∧
      t.trip = { s.trip with history := [], clock := none } ∧
      t.eeprom = { s.eeprom with
        queue :=
          let odometer := fun q => if s.lastBound = some s.accum.total then q else bindOdometer s.accum.total q
          if serviceFirst then odometer (postOnce .service s.eeprom.queue)
          else postOnce .service (odometer s.eeprom.queue) } ∧
      (∀ k : Fin 6, t.gauge.gauges[k] =
        if s.gauge.gauges[k].mode = .parked then s.gauge.gauges[k]
        else { s.gauge.gauges[k] with mode := .returning, target := s.gauge.gauges[k].config.rest * 16 }) ∧
      t.gauge.sweep = (if s.gauge.sweep.isOpen then
        { s.gauge.sweep with isOpen := false, delayTimer := none, timeout := none } else s.gauge.sweep) ∧
      t.gauge.clock = s.gauge.clock ∧ t.gauge.syncPulse = s.gauge.syncPulse ∧
      t.gauge.sync = { s.gauge.sync with pending := none, stood := none } ∧
      (∀ i : Fin 16, t.monitor.monitors[i] =
        let m := s.monitor.monitors[i]
        if m.config.runIn ≠ 0 then m
        else if m.state = .off ∨ m.state = .clear then { m with raw := false }
        else { m with state := .clear, acked := false, raw := false, assertTimer := none, releaseTimer := none,
                      reminderTimer := none }) ∧
      t.monitor.clock = s.monitor.clock ∧
      (∀ (l : Fin 12) (c : Fin 23), t.lamp.claim l c =
        if (∃ i : Fin 16, c = monitorClaim i ∧ s.monitor.monitors[i].config.runIn = 0 ∧
            (s.monitor.monitors[i].state = .pending ∨ s.monitor.monitors[i].state = .active ∨
              s.monitor.monitors[i].state = .releasing) ∧
            s.monitor.monitors[i].config.lamp.toNat = l.val) then none
        else s.lamp.claim l c) ∧
      t.lamp = { s.lamp with claims := t.lamp.claims, bulbCheck := none } ∧
      t.chime = { s.chime with
        queue := s.chime.queue.filterMap fun r =>
          if (∃ i : Fin 16, r.source = monitorSource i ∧ s.monitor.monitors[i].config.runIn = 0 ∧
              (s.monitor.monitors[i].state = .pending ∨ s.monitor.monitors[i].state = .active ∨
                s.monitor.monitors[i].state = .releasing)) then
            (if r.playing then some { r with stop := .withdraw } else none)
          else some r } ∧
      t.posted .power 0x0101 ∧ channelNotices s t ∧
      (s.gauge.sweep.isOpen = true →
        t.posted .sweep (sweepValue s.gauge.sweep)) ∧
      (∀ i : Fin 16, exitNotice s i →
        t.posted (.monitor i) (BitVec.ofNat 16 (1 + if s.monitor.monitors[i].snapshot = none then 0 else 512))) ∧
      (let other := fun n : Notice => decide (n.key ≠ .power ∧ (s.gauge.sweep.isOpen = true → n.key ≠ .sweep) ∧
          (∀ c : Fin 16, validityChanged s t c → n.key ≠ .channel c) ∧
          ∀ i : Fin 16, exitNotice s i → n.key ≠ .monitor i)
       t.notices.filter other = s.notices.filter other) ∧
      t = { s with power := t.power, pulse := t.pulse, sampler := t.sampler, channels := t.channels, trip := t.trip,
                   eeprom := t.eeprom, gauge := t.gauge, monitor := t.monitor, lamp := t.lamp, chime := t.chime,
                   notices := t.notices })

/-- The end of a second, due when the tick has counted 1000 ms, adds 1 to the seconds of the day and to a known
off-duration that counts, and at 86,400 s starts a day and ends one; the end of a day adds 1 to every item's days
below 4095 and recomputes the items, each change of state with its claim, its withdrawn request and its SERVICE notice.
The model's choices: SECOND_END moves the day count, and the day it ended waits for DAY_END, which hands it to the items
and leaves the day count alone (log entry 33); not due, each changes nothing (log entry 5). -/
def Obligations.CalendarResult : Prop :=
  ∀ s : State, s.power.state ≠ .held →
    (s.time.ms < 1000 → exec .secondEnd s = .next s) ∧
    (1000 ≤ s.time.ms →
      let off := if s.power.state = .awakeOff ∨ s.power.state = .asleep then
          s.power.offDuration.map fun n => if n < 16777215 then n + 1 else n
        else s.power.offDuration
      (s.time.seconds + 1 < 86400 →
        exec .secondEnd s = .next { s with
          time := { s.time with ms := s.time.ms - 1000, seconds := s.time.seconds + 1 },
          power := { s.power with offDuration := off } }) ∧
      (86400 ≤ s.time.seconds + 1 →
        exec .secondEnd s = .next { s with
          time := { s.time with ms := s.time.ms - 1000, seconds := 0, days := (s.time.days + 1) % 65536,
                                dayEnds := s.time.dayEnds + 1 },
          power := { s.power with offDuration := off } })) ∧
    (s.time.dayEnds = 0 → exec .dayEnd s = .next s) ∧
    (0 < s.time.dayEnds → ∃ t : State, exec .dayEnd s = .next t ∧
      t = { s with time := { s.time with dayEnds := s.time.dayEnds - 1 }, service := t.service, lamp := t.lamp,
                   chime := t.chime, notices := t.notices } ∧
      (∀ k : Fin 6, t.service[k] =
        (let i : ServiceItem :=
          { s.service[k] with sinceDays := if s.service[k].sinceDays < 4095 then s.service[k].sinceDays + 1
                                           else s.service[k].sinceDays }
         { i with state := i.computed })) ∧
      serviceActions s t)

/-- A tick of a part not held in reset: FREF moves on by 256, the pins are sampled, every running timer of the part
counts 1 ms, and nothing else changes. The debounce timers count the ticks their pins have differed. In an enabled pulse
input, and in SYNC in RUN, low while the part drives it, a pin found away from the accepted level is a pending change, and
one found there discards it; a disabled input's filter does not run. The model's choices: a change of SPD, TAC, IDX or
SYNC back from its active edge, which has no row, is accepted once it has been pending for its width, and may have been
accepted unseen between two ticks that found the pin at the edge's level (log entry 8), the filter's resolution (log entry
30), a discrete change that is due stays due whatever its pin then does, its timer counting
no more (log entry 5), the tick turns IGN's level (log entry 29), and the timers (log entry 6), the link's gap (log entry
27) and the wait for EDO (log entry 36) count in ticks. -/
def Obligations.TickResult : Prop :=
  ∀ (s : State) (di : BitVec 12) (ign : Bool) (pulse : BitVec 5), s.power.state ≠ .held → ∃ t : State,
    exec (.tick di ign pulse) s = .next t ∧
    t.time = { s.time with fref := s.time.fref + 256, sub := 0, ms := s.time.ms + 1 } ∧
    t.power = { s.power with
      linger := match s.power.linger with
        | .running n => if s.power.state = .awakeOff then .running (n - 1) else .running n
        | l => l } ∧
    t.pulse = { pulsesFound s pulse (s.time.fref + 256) with
      windowClock := if s.power.state = .run then s.pulse.windowClock + 1 else s.pulse.windowClock } ∧
    (∀ i : Fin 6, t.sampler.inputs[i] =
      { s.sampler.inputs[i] with
          due := s.sampler.inputs[i].due || (decide (s.power.state = .run) && decide (19 ≤ s.sampler.clock)) }) ∧
    t.sampler.clock = (if s.power.state = .run then (if 19 ≤ s.sampler.clock then 0 else s.sampler.clock + 1)
                       else s.sampler.clock) ∧
    (∀ k : Fin 12, t.discretes.inputs[k] =
      let d := s.discretes.inputs[k]
      let pin := di.getLsbD k.val
      if d.due then { d with pin := pin }
      else if pin = d.level then { d with pin := pin, timer := 0 }
      else if d.debounce ≤ d.timer + 1 then { d with pin := pin, timer := 0, due := true }
      else { d with pin := pin, timer := d.timer + 1 }) ∧
    t.discretes.ign =
      (if ign = s.discretes.ign.level then { s.discretes.ign with pin := ign, timer := 0 }
       else if 50 ≤ s.discretes.ign.timer + 1 then { level := ign, timer := 0, pin := ign }
       else { s.discretes.ign with pin := ign, timer := s.discretes.ign.timer + 1 }) ∧
    t.channels.records = s.channels.records ∧
    (∀ e : Fin 5, t.channels.freshness[e] =
      { s.channels.freshness[e] with timer := s.channels.freshness[e].timer.map fun n => n - 1 }) ∧
    t.drum = (if s.awake = true ∧ s.drum.coils = true then { s.drum with clock := s.drum.clock + 1 } else s.drum) ∧
    t.trip = { s.trip with clock := s.trip.clock.map fun n => n + 1 } ∧
    t.gauge = { s.gauge with
      sync := syncFound s (pulse.getLsbD 4) (s.time.fref + 256),
      clock := if s.power.state = .init then s.gauge.clock else s.gauge.clock + 1,
      syncPulse := s.gauge.syncPulse.map fun n => n - 1,
      sweep := { s.gauge.sweep with delayTimer := s.gauge.sweep.delayTimer.map fun n => n - 1,
                                    timeout := s.gauge.sweep.timeout.map fun n => n - 1 } } ∧
    (∀ i : Fin 16, t.monitor.monitors[i] =
      { s.monitor.monitors[i] with
          due := s.monitor.monitors[i].due || (match s.monitor.clock with
            | some c => decide (99 ≤ c)
            | none => false) }) ∧
    t.monitor.clock = (s.monitor.clock.map fun c => if 99 ≤ c then 0 else c + 1) ∧
    t.chime = (if s.awake then
        { s.chime with sequencer := match s.chime.sequencer with
            | .idle => .idle
            | .playing steps k left => .playing steps k (left - 1)
            | .gap left => .gap (left - 1) }
      else s.chime) ∧
    t.lamp = { s.lamp with
      bulbCheck := s.lamp.bulbCheck.map fun n => n - 1,
      flash := if s.awake then s.lamp.flash.map fun f => { f with ms := f.ms + 1 } else s.lamp.flash,
      dutyClock := if s.awake then s.lamp.dutyClock + 1 else s.lamp.dutyClock } ∧
    t.eeprom = { s.eeprom with flight := s.eeprom.flight.map fun f => { f with wait := min (f.wait + 1) 26 } } ∧
    t.link = { s.link with gap := if s.link.assembler = .hunt then s.link.gap else s.link.gap + 1 } ∧
    t = { s with time := t.time, power := t.power, pulse := t.pulse, sampler := t.sampler, discretes := t.discretes,
                 channels := t.channels, drum := t.drum, trip := t.trip, gauge := t.gauge, monitor := t.monitor,
                 chime := t.chime, lamp := t.lamp, eeprom := t.eeprom, link := t.link }

/-- Timers that have run out: a freshness timer makes its channel STALE with its value kept and a CHANNEL notice and
stops; the linger timer stays expired; and a part in AWAKE_OFF that meets every condition of sleep goes ASLEEP, its
evaluation clock, flash clock and gap stopped and IDX disabled. Each changes nothing before its time (the model's choice,
log entry 5), and a wake attribute counts among the conditions as it is set (the model's choice, log entry 20). -/
def Obligations.TimersRunOut : Prop :=
  ∀ s : State, s.power.state ≠ .held →
    (∀ e : Fin 5,
      let c : Fin 16 := ⟨11 + e.val, by omega⟩
      let r := s.channels.records[c]
      let u : State := { s with channels :=
        { records := s.channels.records.set c { r with validity := .stale },
          freshness := s.channels.freshness.set e { s.channels.freshness[e] with timer := none } } }
      (s.channels.freshness[e].timer ≠ some 0 → exec (.freshnessExpiry e) s = .next s) ∧
      (s.channels.freshness[e].timer = some 0 → r.validity ≠ .stale →
        exec (.freshnessExpiry e) s = .next (u.notify (.channel c) 4)) ∧
      (s.channels.freshness[e].timer = some 0 → r.validity = .stale → exec (.freshnessExpiry e) s = .next u)) ∧
    (s.power.state = .awakeOff ∧ s.power.linger = .running 0 →
      exec .lingerExpiry s = .next { s with power := { s.power with linger := .expired } }) ∧
    (s.power.state ≠ .awakeOff ∨ s.power.linger ≠ .running 0 → exec .lingerExpiry s = .next s) ∧
    (sleepConditions s → ∃ t : State, exec .asleepEntry s = .next t ∧
      (∀ i : Fin 16, t.monitor.monitors[i] = { s.monitor.monitors[i] with due := false }) ∧
      t.monitor.clock = none ∧
      t = { s with power := { s.power with state := .asleep, linger := .stopped }, monitor := t.monitor,
                   pulse := { s.pulse with idx := { s.pulse.idx with pending := none, stood := none } },
                   lamp := { s.lamp with flash := none }, chime := { s.chime with sequencer := .idle } }) ∧
    (¬ sleepConditions s → exec .asleepEntry s = .next s)

/-- A discrete input whose debounce time has run out takes its pin's level, and its change of active state is
reported: it restarts the linger timer in AWAKE_OFF, and an input with the wake attribute that has become active wakes
an ASLEEP part with a POWER notice of cause 2. The model's choices: IDX's filter starts at the time of the latest event
(log entry 7), and a change that is not due changes nothing (log entry 5). -/
def Obligations.DiscreteChangeResult : Prop :=
  ∀ (s : State) (k : Fin 12), s.power.state ≠ .held →
    let d := s.discretes.inputs[k]
    let d' : Discrete := { d with level := !d.level, timer := 0, due := false }
    let u : State := { s with discretes := { s.discretes with inputs := s.discretes.inputs.set k d' } }
    (d.due = false → exec (.discreteChange k) s = .next s) ∧
    (d.due = true → s.power.state = .awakeOff →
      exec (.discreteChange k) s = .next { u with power := { s.power with linger := .running 30000 } }) ∧
    (d.due = true → s.power.state = .asleep → d.wake = true → d'.level = d.activeHigh →
      exec (.discreteChange k) s = .next (State.notify
        { u.startClocks with power := { s.power with state := .awakeOff, linger := .running 30000 } }
        .power 0x0201)) ∧
    (d.due = true → (s.power.state = .run ∨ s.power.state = .init ∨
        (s.power.state = .asleep ∧ (d.wake = false ∨ d'.level ≠ d.activeHigh))) →
      exec (.discreteChange k) s = .next u)

/-! ## Measurement inputs, accumulators, trips -/

/-- An active SPD edge in RUN is counted in the open window with its timestamp (the 1024th and later set the overrun
mark and are not counted) and adds 100 to the distance residue; when that reaches K_vss, K_vss is taken from it and a
DU is emitted, and otherwise nothing else changes but the filters, brought up to the edge's moment. Outside RUN, and
where the input's filter cannot have accepted an edge yet (a pin that a tick found at the level the edge leaves has not
stood for its width since), the edge changes nothing. The model's choices: the edge's moment, the tick plus its operand,
never falling (log entry 7), the filter's resolution (log entries 8, 30), an edge that is not due (log entry 5), and of
one DU's posts ODOMETER first and then SERVICE (log entry 12). -/
def Obligations.SpdEdgeResult : Prop :=
  ∀ (s : State) (sub : BitVec 8), s.power.state ≠ .held →
    let u := broughtTo s sub
    let edge := edgeDelay u.pulse.spd u.now = 0
    let w := s.pulse.spdWindow
    let e : State := { u with pulse := { u.pulse with
      spd := { u.pulse.spd with accepted := !s.pulse.spd.selection, pin := !s.pulse.spd.selection,
                                pending := none, stood := some u.now },
      spdWindow := { w with n := if w.n = 1023 then 1023 else w.n + 1,
                            overrun := w.overrun || decide (w.n = 1023), tLast := some u.now } } }
    ((s.power.state ≠ .run ∨ ¬ edge) → exec (.spdEdge sub) s = .next s) ∧
    (s.power.state = .run → edge → s.accum.rd + 100 < s.consts.kvss →
      exec (.spdEdge sub) s = .next { e with accum := { s.accum with rd := s.accum.rd + 100 } }) ∧
    (s.power.state = .run → edge → s.consts.kvss ≤ s.accum.rd + 100 → ∃ t : State, exec (.spdEdge sub) s = .next t ∧
      duEmitted { e with accum := { s.accum with rd := s.accum.rd + 100 - s.consts.kvss } } t)

/-- An active TAC edge in RUN is counted in the open window with its timestamp and adds 1 to the revolution residue;
when that reaches ppr × 1000 it is set to 0 and one KR is emitted, which reaches every service item below 65,535 and
recomputes it, each change of state with its claim, its withdrawn request and its SERVICE notice; the filters are
brought up to the edge's moment. Outside RUN, and where the input's filter cannot have accepted an edge yet, the edge
changes nothing. The model's choices: the edge's moment, the tick plus its operand, never falling (log entry 7), the
filter's resolution (log entries 8, 30), and an edge that is not due (log entry 5). -/
def Obligations.TacEdgeResult : Prop :=
  ∀ (s : State) (sub : BitVec 8), s.power.state ≠ .held →
    let u := broughtTo s sub
    let edge := edgeDelay u.pulse.tac u.now = 0
    let w := s.pulse.tacWindow
    let e : State := { u with pulse := { u.pulse with
      tac := { u.pulse.tac with accepted := !s.pulse.tac.selection, pin := !s.pulse.tac.selection,
                                pending := none, stood := some u.now },
      tacWindow := { w with n := if w.n = 1023 then 1023 else w.n + 1,
                            overrun := w.overrun || decide (w.n = 1023), tLast := some u.now } } }
    ((s.power.state ≠ .run ∨ ¬ edge) → exec (.tacEdge sub) s = .next s) ∧
    (s.power.state = .run → edge → s.accum.rr + 1 < s.consts.ppr * 1000 →
      exec (.tacEdge sub) s = .next { e with accum := { s.accum with rr := s.accum.rr + 1 } }) ∧
    (s.power.state = .run → edge → s.consts.ppr * 1000 ≤ s.accum.rr + 1 → ∃ t : State, exec (.tacEdge sub) s = .next t ∧
      t = { e with accum := { s.accum with rr := 0 }, service := t.service, lamp := t.lamp, chime := t.chime,
                   notices := t.notices } ∧
      (∀ k : Fin 6, t.service[k] =
        (let i : ServiceItem :=
          { s.service[k] with sinceKr := if s.service[k].sinceKr < 65535 then s.service[k].sinceKr + 1
                                         else s.service[k].sinceKr }
         { i with state := i.computed })) ∧
      serviceActions s t)

/-- An accepted change of INJ in RUN closes the on-time gathered up to it, counted while the accepted level was the
open level, and turns the accepted level, the filters brought up to its moment. An IDX edge in RUN and AWAKE_OFF reaches the
drum in IDLE and STEPPING: the first after index-known is no sets the index, one at p 19, 0 or 1 is good and clears
the miss count, and any other is a miss, the third of which brings FAULT and a DRUM notice. In another power state, or
where the input's filter cannot have accepted it yet, neither changes anything. The model's choices: the moment of INJ's
change, the tick plus its operand, never falling (log entry 7), the filter's resolution (log entries 8, 30), the earliest
time of the tick for an IDX edge (log entry 30), and an edge that is not due (log entry 5). -/
def Obligations.InjAndIdxEdges : Prop :=
  ∀ s : State, s.power.state ≠ .held →
    (∀ sub : BitVec 8,
      let u := broughtTo s sub
      let gathered := if s.pulse.inj.accepted = s.pulse.inj.selection then
          s.pulse.onTime + (u.now - s.pulse.injMark).toNat else s.pulse.onTime
      let change := changeDelay s.pulse.inj 1 u.now = 0
      (s.power.state = .run → change → exec (.injLevelChange sub) s = .next { u with pulse := { u.pulse with
        inj := { s.pulse.inj with accepted := !s.pulse.inj.accepted, pin := !s.pulse.inj.accepted,
                                  pending := none, stood := some u.now },
        onTime := min gathered 25600, injMark := u.now } }) ∧
      ((s.power.state ≠ .run ∨ ¬ change) → exec (.injLevelChange sub) s = .next s)) ∧
    let p := s.pulse.idx
    let time := s.now + BitVec.ofNat 24 (edgeDelay p s.now)
    ((s.awake = false ∨ 256 ≤ (time - s.time.fref).toNat) → exec .idxEdge s = .next s) ∧
    (s.awake = true → (time - s.time.fref).toNat < 256 →
      let u : State := { s with pulse := { s.pulse with
        idx := { p with accepted := !p.selection, pin := !p.selection, pending := none, stood := some time } } }
      let d : Drum := { s.drum with p := 0, indexKnown := true, sinceIndex := 0 }
      let watched := s.drum.state = .idle ∨ s.drum.state = .stepping
      let good := s.drum.p = 19 ∨ s.drum.p = 0 ∨ s.drum.p = 1
      (¬ watched → exec .idxEdge s = .next u) ∧
      (watched → s.drum.indexKnown = false → exec .idxEdge s = .next { u with drum := d }) ∧
      (watched → s.drum.indexKnown = true → good → exec .idxEdge s = .next { u with drum := { d with missCount := 0 } }) ∧
      (watched → s.drum.indexKnown = true → ¬ good → s.drum.missCount < 2 →
        exec .idxEdge s = .next { u with drum := { d with missCount := s.drum.missCount + 1 } }) ∧
      (watched → s.drum.indexKnown = true → ¬ good → 2 ≤ s.drum.missCount →
        exec .idxEdge s = .next (State.notify { u with drum := { d with state := .fault, missCount := 2 } } .drum
          (if s.drum.lost then 0x0103 else 0x0003))))

/-- The close of the SPD and TAC windows, due 100 ms after the last boundary, writes SPEED and ENGINE by the cases of
R5 to R8 and opens the next windows: by the span from the reference with edges, a decay estimate or the kept value
without them, 0 after loss or without a reference, and FAULT with the value kept after an overrun. Holds are kept, and a
change of measured validity posts its CHANNEL notice with the new code. The close's time is that of the latest event (the
model's choice, log entry 7); of a span of 0 counts, whose rate is a free value (log entry 10), nothing is said. -/
def Obligations.WindowCloseSpeeds : Prop :=
  ∀ (s : State) (tripFirst : Bool), s.power.state = .run → 100 ≤ s.pulse.windowClock → ∃ t : State,
    exec (.windowClose tripFirst) s = .next t ∧ channelNotices s t ∧
    (let rule := fun (w w' : Window) (r r' : Channel) (top : Nat) (rate : Nat → Nat → Nat) =>
      let kept := r'.value = r.value ∧ r'.validity = r.validity
      r'.hold = r.hold ∧
      (w.overrun = true → r'.value = r.value ∧ r'.validity = .fault ∧
        w' = { Window.initial with loss := w.loss }) ∧
      (w.overrun = false → 1 ≤ w.n → ∀ last, w.tLast = some last →
        w'.n = 0 ∧ w'.overrun = false ∧ w'.tLast = none ∧ w'.tRef = some last ∧ w'.loss = w.loss ∧
        (∀ ref, w.tRef = some ref → 0 < (last - ref).toNat →
          r'.value = min (rate w.n (last - ref).toNat) top ∧ r'.validity = .valid ∧
          w'.pPrev = some ((last - ref).toNat / w.n)) ∧
        (w.tRef = none → r'.value = r.value ∧ r'.validity = (if r.validity = .fault then .valid else r.validity) ∧
          w'.pPrev = w.pPrev)) ∧
      (w.overrun = false → w.n = 0 →
        (w.tRef = none → r'.value = 0 ∧ r'.validity = .valid ∧ w' = { w with pPrev := none }) ∧
        (∀ ref, w.tRef = some ref →
          let tau := (s.now - ref).toNat
          (w.loss < tau → r'.value = 0 ∧ r'.validity = .valid ∧ w' = { w with tRef := none, pPrev := none }) ∧
          (tau ≤ w.loss → w' = w) ∧
          (tau ≤ w.loss → w.pPrev = none → kept) ∧
          (∀ p, tau ≤ w.loss → w.pPrev = some p → tau ≤ p → kept) ∧
          (∀ p, tau ≤ w.loss → w.pPrev = some p → p < tau →
            r'.value = min (rate 1 tau) top ∧ r'.validity = .valid)))
     0 < s.consts.kvss → 0 < s.consts.ppr →
      rule s.pulse.spdWindow t.pulse.spdWindow s.channels.records[0] t.channels.records[0] 3000
        (fun n span => (2 * (n * 9216000000) + span * s.consts.kvss) / (2 * (span * s.consts.kvss))) ∧
      rule s.pulse.tacWindow t.pulse.tacWindow s.channels.records[1] t.channels.records[1] 9999
        (fun n span => (2 * (n * 15360000) + span * s.consts.ppr) / (2 * (span * s.consts.ppr))))

/-- What a window close hands on and what it leaves alone: the on-time of the window goes to the fuel residue, the
whole mL to both trips and the range basis, and to the newest end of the flow history, from which FUEL_FLOW and then
INST_CONSUMPTION are written, with SPEED as it stands when the Trip Computer's handling is taken; the next window's
on-time starts at 0. Holds are kept, and the four channels' changes of measured validity alone post, each its CHANNEL
notice with the new code. The model's choices: the on-time is closed at the time of the latest event (log entry 7), and a
close that is not due changes nothing (log entry 5). -/
def Obligations.WindowCloseFuel : Prop :=
  ∀ (s : State) (tripFirst : Bool), s.power.state ≠ .held →
    ((s.power.state ≠ .run ∨ s.pulse.windowClock < 100) → exec (.windowClose tripFirst) s = .next s) ∧
    (s.power.state = .run → 100 ≤ s.pulse.windowClock → ∃ t : State, exec (.windowClose tripFirst) s = .next t ∧
      (let c := min (if s.pulse.inj.accepted = s.pulse.inj.selection then
            s.pulse.onTime + (s.now - s.pulse.injMark).toNat else s.pulse.onTime) 25600
       let k := (s.accum.rf + c) / s.consts.cinj
       let fuel := fun trip : Trip =>
        if trip.paused = true ∨ trip.saturated = true then trip
        else if 16777215 < trip.fuel + k then { trip with fuel := 16777215, saturated := true }
        else { trip with fuel := trip.fuel + k }
       let history := (if 10 ≤ s.trip.history.length then s.trip.history.drop (s.trip.history.length - 9)
                       else s.trip.history) ++ [c]
       let j := history.length * s.consts.cinj
       let flow := min ((2 * (360 * history.sum) + j) / (2 * j)) 9999
       let speed := if tripFirst then s.measured 0 else t.measured 0
       let r := s.channels.records[9]
       t.accum = { s.accum with rf := (s.accum.rf + c) % s.consts.cinj } ∧
       t.trip = { s.trip with a := fuel s.trip.a, b := fuel s.trip.b, rbFuel := min (s.trip.rbFuel + k) 16777215,
                              history := history } ∧
       t.channels.records[8] = { s.channels.records[8] with value := flow, validity := .valid } ∧
       t.channels.records[9] =
        (if speed.1 < 100 ∨ speed.2 ≠ .valid then { r with validity := .absent }
         else { r with value := min ((2 * (flow * 1000) + speed.1) / (2 * speed.1)) 999, validity := .valid }) ∧
       (∀ ch : Fin 16, ch ≠ 0 → ch ≠ 1 → ch ≠ 8 → ch ≠ 9 → t.channels.records[ch] = s.channels.records[ch]) ∧
       (∀ ch : Fin 16, t.channels.records[ch].hold = s.channels.records[ch].hold) ∧ channelNotices s t ∧
       t.channels.freshness = s.channels.freshness ∧
       t.pulse = { s.pulse with spdWindow := t.pulse.spdWindow, tacWindow := t.pulse.tacWindow, onTime := 0,
                                injMark := s.now, windowClock := s.pulse.windowClock - 100 } ∧
       (let others := fun n : Notice => decide (∀ ch : Fin 16, validityChanged s t ch → n.key ≠ .channel ch)
        t.notices.filter others = s.notices.filter others) ∧
       t = { s with accum := t.accum, trip := t.trip, channels := t.channels, pulse := t.pulse,
                    notices := t.notices }))

/-- A conversion of an analog input, due every 20 ms in RUN, by the fault limits: while the channel is not FAULT the
fifth consecutive sample out of range makes it FAULT and empties the sum, and an in-range sample joins the sum; in
FAULT the fifth consecutive sample in range clears it to VALID, or ABSENT without a usable curve. A sample that does
not fill the sum changes only its input. Not due, it changes nothing (the model's choice, log entry 5). -/
def Obligations.AnalogSampleResult : Prop :=
  ∀ (s : State) (i : Fin 6) (raw : BitVec 10), s.power.state ≠ .held →
    let a := s.sampler.inputs[i]
    let c : Fin 16 := ⟨2 + i.val, by omega⟩
    let with' := fun (s : State) (b : AnalogInput) =>
      ({ s with sampler := { s.sampler with inputs := s.sampler.inputs.set i { b with due := false } } } : State)
    let mark := fun (v : Validity) =>
      let r : Channel := { s.channels.records[c] with validity := v }
      ({ s with channels := { s.channels with records := s.channels.records.set c r } } : State)
    let out := raw.toNat ≤ a.low ∨ a.high ≤ raw.toNat
    let faulted := s.channels.records[c].validity = .fault
    ((s.power.state ≠ .run ∨ a.due = false) → exec (.analogSample i raw) s = .next s) ∧
    (s.power.state = .run → a.due = true →
      (¬ faulted → out → a.outCount < 4 →
        exec (.analogSample i raw) s = .next (with' s { a with outCount := a.outCount + 1 })) ∧
      (¬ faulted → out → 4 ≤ a.outCount →
        exec (.analogSample i raw) s =
          .next ((with' (mark .fault) { a with outCount := 0, inCount := 0, sum := 0, count := 0 }).notify
            (.channel c) 2)) ∧
      (¬ faulted → ¬ out → a.count + 1 < a.decimation →
        exec (.analogSample i raw) s =
          .next (with' s { a with outCount := 0, sum := a.sum + raw.toNat, count := a.count + 1 })) ∧
      (faulted → out → exec (.analogSample i raw) s = .next (with' s { a with inCount := 0 })) ∧
      (faulted → ¬ out → a.inCount < 4 →
        exec (.analogSample i raw) s = .next (with' s { a with inCount := a.inCount + 1 })) ∧
      (faulted → ¬ out → 4 ≤ a.inCount → s.curveOf a.curve ≠ [] →
        exec (.analogSample i raw) s = .next ((with' (mark .valid) { a with inCount := 0 }).notify (.channel c) 0)) ∧
      (faulted → ¬ out → 4 ≤ a.inCount → s.curveOf a.curve = [] →
        exec (.analogSample i raw) s = .next ((with' (mark .absent) { a with inCount := 0 }).notify (.channel c) 3)))

/-- A sample that fills the decimation sum makes one filter update with the rounded mean: without a usable curve the
channel becomes ABSENT with its value and F kept; else the converted mean, clamped to the channel's range, fills F when
the channel was ABSENT or the armed test passes, or steps F toward it by the division that truncates toward zero, and
the value is F / 256 rounded, VALID. A change of validity posts a CHANNEL notice. -/
def Obligations.FilterUpdateResult : Prop :=
  ∀ (s : State) (i : Fin 6) (raw : BitVec 10), s.power.state = .run → s.sampler.inputs[i].due = true →
    let a := s.sampler.inputs[i]
    let c : Fin 16 := ⟨2 + i.val, by omega⟩
    let r := s.channels.records[c]
    let top := if c = 3 ∨ c = 6 ∨ c = 7 then 255 else 65535
    let mean := (2 * (a.sum + raw.toNat) + (a.count + 1)) / (2 * (a.count + 1))
    let u := fun (b : AnalogInput) (r' : Channel) =>
      let b' : AnalogInput := { b with outCount := 0, sum := 0, count := 0, due := false }
      ({ s with
          sampler := { s.sampler with inputs := s.sampler.inputs.set i b' },
          channels := { s.channels with records := s.channels.records.set c r' } } : State)
    let post := fun (r' : Channel) (t : State) =>
      if r'.validity = r.validity then t else t.notify (.channel c) (BitVec.ofNat 16 (validityCode r'.validity))
    r.validity ≠ .fault → a.low < raw.toNat → raw.toNat < a.high → a.decimation ≤ a.count + 1 →
      (curveAt (s.curveOf a.curve) mean = none →
        exec (.analogSample i raw) s =
          .next (post { r with validity := .absent } (u a { r with validity := .absent }))) ∧
      (∀ y, curveAt (s.curveOf a.curve) mean = some y →
        let m := min y top
        let fills := r.validity = .absent ∨
          (a.armed = true ∧ a.threshold ≠ 0 ∧ (a.threshold : Int) ≤ |(m : Int) - r.value|)
        let f := if fills then m * 256 else ((a.filter : Int) + ((m : Int) * 256 - a.filter).tdiv (2 ^ a.shift)).toNat
        let r' : Channel := { r with value := min ((2 * f + 256) / 512) top, validity := .valid }
        exec (.analogSample i raw) s = .next (post r' (u { a with filter := f, armed := false } r')))

/-- A curve evaluated at v: y_0 at or below x_0, y_k at or above x_k, and within the segment x_i ≤ v < x_(i+1) the
weighed mean of y_i and y_(i+1), rounded with a half up, which lies between them and is y_i at v = x_i. A curve with no
points gives no result. -/
def Obligations.CurveEvaluation : Prop :=
  (∀ v : Nat, curveAt [] v = none) ∧
  ∀ (curve : Curve) (v : Nat), rising curve = true → curve ≠ [] →
    (∀ x y rest, curve = (x, y) :: rest → v ≤ x → curveAt curve v = some y) ∧
    (∀ x y front, curve = front ++ [(x, y)] → x ≤ v → curveAt curve v = some y) ∧
    (∀ front x0 y0 x1 y1 rest, curve = front ++ (x0, y0) :: (x1, y1) :: rest → x0 ≤ v → v < x1 →
      ∃ y : Nat, curveAt curve v = some y ∧
        2 * (y * (x1 - x0)) ≤ 2 * (y0 * (x1 - v) + y1 * (v - x0)) + (x1 - x0) ∧
        2 * (y0 * (x1 - v) + y1 * (v - x0)) + (x1 - x0) < 2 * ((y + 1) * (x1 - x0)) ∧
        min y0 y1 ≤ y ∧ y ≤ max y0 y1 ∧ (v = x0 → y = y0))

/-- A trip second, due each 1000 ms of the trip second clock in RUN: each trip that is counting adds one run second
or saturates at 16,777,215, and the presented range is recomputed from measured FUEL_LEVEL and SPEED: absent without a
fuel level, the raw range when none was presented, when the car stands or when it has fallen, and else at most 1 km
more. RANGE is written with it. Not due, it changes nothing (the model's choice, log entry 5). -/
def Obligations.TripSecondResult : Prop :=
  ∀ s : State, s.power.state ≠ .held →
    ((s.power.state ≠ .run ∨ s.trip.clock = none ∨ ∃ ms, s.trip.clock = some ms ∧ ms < 1000) →
      exec .tripSecond s = .next s) ∧
    (∀ ms, s.power.state = .run → s.trip.clock = some ms → 1000 ≤ ms →
      let second := fun trip : Trip =>
        if trip.paused = true ∨ trip.saturated = true then trip
        else if 16777215 < trip.seconds + 1 then { trip with seconds := 16777215, saturated := true }
        else { trip with seconds := trip.seconds + 1 }
      let level := s.channels.records[2]
      let known := level.validity ≠ .fault ∧ level.validity ≠ .absent
      let raw := if level.value ≤ s.consts.reserve then 0
        else if s.trip.rbFuel = 0 then 1999
        else min ((level.value - s.consts.reserve) * s.trip.rbDist / s.trip.rbFuel) 1999
      let standing := s.channels.records[0].value = 0 ∧ s.channels.records[0].validity = .valid
      let shown := match s.trip.presented with
        | none => raw
        | some p => if standing ∨ raw < p then raw else min raw (p + 1)
      let trips := { s.trip with a := second s.trip.a, b := second s.trip.b, clock := some (ms - 1000) }
      let r := s.channels.records[10]
      let write := fun (p : Option Nat) (r' : Channel) =>
        (let u : State := { s with trip := { trips with presented := p },
                                   channels := { s.channels with records := s.channels.records.set 10 r' } }
         if r'.validity = r.validity then u
         else u.notify (.channel 10) (BitVec.ofNat 16 (validityCode r'.validity)))
      (¬ known → exec .tripSecond s = .next (write none { r with validity := .absent })) ∧
      (known → exec .tripSecond s = .next (write (some shown) { r with value := shown, validity := .valid })))

/-! ## Gauges -/

/-- A motion step, due every 10 ms: a PARKED gauge stands unless it is bound in RUN, an unbound gauge not RETURNING is
parked in RUN, and every other gauge adopts its demand but for the deadband, limits its rate, and slows to turn when
its target lies behind or else moves at most its new rate toward the target and stops on it. The coils follow p, an
arrival changes the sweep modes and parks a RETURNING gauge, whose coils go to a duty of 0 and keep their polarity, and
an open sweep closes when no gauge is left in it. Not due, it changes nothing (the model's choice, log entry 5). -/
def Obligations.GaugeMotionStep : Prop :=
  ∀ s : State, s.power.state ≠ .held →
    (s.gauge.clock < 10 → exec .gaugeMotionStep s = .next s) ∧
    (10 ≤ s.gauge.clock → ∃ t : State, exec .gaugeMotionStep s = .next t ∧
      (∀ k : Fin 6,
        let g := s.gauge.gauges[k]
        let g' := t.gauge.gauges[k]
        let run := s.power.state = .run
        let bound := g.config.source ≠ none ∧ s.curveOf g.config.curve ≠ []
        let still := g.mode = .parked ∧ ¬ (run ∧ bound)
        let parks := run ∧ ¬ bound ∧ g.mode ≠ .parked ∧ g.mode ≠ .returning
        let off := fun c : Coil => ({ c with duty := 0 } : Coil)
        (still → g' = g) ∧
        (parks → g' = { g with mode := .parked, v := 0, sine := off g.sine, cosine := off g.cosine }) ∧
        (¬ still → ¬ parks →
          let mode := if g.mode = .parked then .tracking else g.mode
          let v0 := if g.mode = .parked then 0 else g.v
          let rest := g.config.rest * 16
          let y := fun n : Option Nat => min (n.getD 0) 1023 * 16
          let curve := s.curveOf g.config.curve
          let tracked := match g.config.source with
            | none => rest
            | some c =>
              match (s.channels.records[c].presented).2 with
              | .absent => rest
              | .fault => if g.config.faultRest then rest
                          else y (curveAt curve (s.channels.records[c].presented).1)
              | _ => y (curveAt curve (s.channels.records[c].presented).1)
          let demand := match mode with
            | .parked => g.target
            | .armed => rest
            | .returning => rest
            | .sweepUp => y (curve.getLast?.map Prod.snd)
            | .sweepDown => y (curve.head?.map Prod.snd)
            | .tracking => tracked
          let far := (demand - g.p) + (g.p - demand)
          let T := if mode = .tracking ∧ v0 = 0 ∧ 0 < far ∧ far < g.config.deadband * 16 then g.p else demand
          let v := min v0 g.config.rHi
          let a := g.config.accel
          let lo := g.config.rLo
          let d := (T - g.p) + (g.p - T)
          let behind := 0 < v ∧ ((g.down = true ∧ g.p < T) ∨ (g.down = false ∧ T < g.p))
          let down := if v = 0 ∧ d ≠ 0 then decide (T < g.p) else g.down
          let rate := if v = 0 then lo else if d ≤ braking a lo v v then max (v - a) lo else min (v + a) g.config.rHi
          (behind → v ≤ a + lo → g'.p = g.p ∧ g'.v = 0 ∧ g'.down = g.down) ∧
          (behind → a + lo < v → g'.down = g.down ∧
            (g.down = true → v - a ≤ g.p → g'.p = g.p - (v - a) ∧ g'.v = v - a) ∧
            (g.down = true → g.p < v - a → g'.p = 0 ∧ g'.v = 0) ∧
            (g.down = false → g.p + (v - a) ≤ 16383 → g'.p = g.p + (v - a) ∧ g'.v = v - a) ∧
            (g.down = false → 16383 < g.p + (v - a) → g'.p = 16383 ∧ g'.v = 0)) ∧
          (¬ behind → v = 0 → d = 0 → g'.p = g.p ∧ g'.v = 0 ∧ g'.down = g.down) ∧
          (¬ behind → (v ≠ 0 ∨ d ≠ 0) → g'.down = down ∧
            (d ≤ rate → g'.p = T ∧ g'.v = 0) ∧
            (rate < d → g'.v = rate ∧ g'.p = if down then g.p - rate else g.p + rate)) ∧
          (let arrived := g'.v = 0 ∧ g'.p = T
           g'.mode = (if arrived then
             (match mode with
              | .sweepUp => .sweepDown
              | .sweepDown => .tracking
              | .returning => .parked
              | m => m) else mode)) ∧
          g'.target = T ∧ g'.config = g.config ∧
          (let sine := coilAt (angleCount g'.p)
           let cosine := coilAt (angleCount g'.p + 256)
           g'.sine = (if g'.mode = .parked then off sine else sine) ∧
           g'.cosine = (if g'.mode = .parked then off cosine else cosine)))) ∧
      (∀ k : Fin 6, t.gauge.sweep.completed[k] = (s.gauge.sweep.completed[k] ||
        (decide (s.gauge.gauges[k].mode = .sweepDown) && decide (t.gauge.gauges[k].mode = .tracking)))) ∧
      (let w : Sweep := { s.gauge.sweep with completed := t.gauge.sweep.completed }
       let closes := s.gauge.sweep.isOpen = true ∧ ∀ k : Fin 6, t.gauge.gauges[k].mode ≠ .armed ∧
         t.gauge.gauges[k].mode ≠ .sweepUp ∧ t.gauge.gauges[k].mode ≠ .sweepDown
       t.gauge.sweep = (if closes then { w with isOpen := false, delayTimer := none, timeout := none } else w) ∧
       t.notices = (if closes then (s.notify .sweep (sweepValue w)).notices else s.notices)) ∧
      t = { s with gauge := { gauges := t.gauge.gauges, sweep := t.gauge.sweep, clock := s.gauge.clock - 10,
                              syncPulse := s.gauge.syncPulse, sync := s.gauge.sync },
                   notices := t.notices })

/-- The braking distance of R81 is the sum of max(v − k × a, r_lo) for k from 1 up to and including the first k for
which v − k × a is at most r_lo, and 0 when v is at most r_lo. The coil drive of R84: the angle count of a position p is
p / 16, rounded, modulo 1024; the sine is positive over the first half turn, and half a turn on both coils keep their
duties and turn their polarity, a duty of 0 being positive; the sine duty is 0 at a count of 0 and 2 at a count of 1, 180
and 255 at an eighth and a quarter of a turn, never falls over the first quarter and mirrors in the second; sine and
cosine lie on the circle of 255 within their rounding. -/
def Obligations.BrakingAndCoilDrive : Prop :=
  (∀ a lo v : Nat, 0 < a →
    (v ≤ lo → braking a lo v v = 0) ∧
    ∀ K : Nat, lo < v → v ≤ lo + K * a → (∀ k : Nat, k < K → lo + k * a < v) →
      braking a lo v v = ((List.range K).map fun k => max (v - (k + 1) * a) lo).sum) ∧
  (∀ p : Nat, angleCount p = (p + 8) / 16 % 1024) ∧
  (coilAt 0).duty = 0 ∧ (coilAt 1).duty = 2 ∧ (coilAt 128).duty = 180 ∧ (coilAt 256).duty = 255 ∧
  ∀ k : Nat,
    coilAt (k + 1024) = coilAt k ∧
    (coilAt (k + 512)).duty = (coilAt k).duty ∧
    (0 < (coilAt k).duty → ((coilAt (k + 512)).negative = !(coilAt k).negative)) ∧
    ((coilAt k).duty = 0 → (coilAt k).negative = false) ∧
    (k ≤ 512 → (coilAt (512 - k)).duty = (coilAt k).duty) ∧
    (k < 256 → (coilAt k).duty ≤ (coilAt (k + 1)).duty) ∧
    (k ≤ 512 → (coilAt k).negative = false) ∧
    (coilAt k).duty ^ 2 + (coilAt (k + 256)).duty ^ 2 ≤ 65025 + 361 ∧
    65025 ≤ (coilAt k).duty ^ 2 + (coilAt (k + 256)).duty ^ 2 + 361

/-- The start events and the end of a sweep: the delay's expiry stops the delay timer, and with a gauge ARMED it and a
falling edge on SYNC in RUN send every ARMED gauge to SWEEP_UP with the cause, the delay also driving SYNC low for 1
ms; the timeout sends every ARMED gauge to TRACKING and may close the sweep; the pulse ends after its 1 ms. SYNC is low
by the part exactly while its pulse stands, and its falling edge passes the filter: none is seen sooner than the filter
width allows, nor while the part holds the line low with that level accepted. Before their time, outside RUN or with no
gauge ARMED they change nothing else. The model's choices: events that are not due (log entry 5), the time of the latest
event as theirs (log entry 7), the filter's resolution and the earliest moment of the tick for the edge (log entries 8,
30). -/
def Obligations.SweepEvents : Prop :=
  ∀ s : State, s.power.state ≠ .held →
    let armed := ∃ k : Fin 6, s.gauge.gauges[k].mode = .armed
    let moved := fun (t : State) (m : GaugeMode) =>
      ∀ k : Fin 6, t.gauge.gauges[k] =
        { s.gauge.gauges[k] with
            mode := if s.gauge.gauges[k].mode = .armed then m else s.gauge.gauges[k].mode }
    (s.gauge.sweep.delayTimer ≠ some 0 → exec .sweepDelayExpiry s = .next s) ∧
    (s.gauge.sweep.delayTimer = some 0 → ¬ armed → exec .sweepDelayExpiry s =
      .next { s with gauge := { s.gauge with sweep := { s.gauge.sweep with delayTimer := none } } }) ∧
    (s.gauge.sweep.delayTimer = some 0 → armed → ∃ t : State, exec .sweepDelayExpiry s = .next t ∧
      moved t .sweepUp ∧
      t = { s with gauge := { s.gauge with
        gauges := t.gauge.gauges, sweep := { s.gauge.sweep with delayTimer := none, cause := .delay },
        syncPulse := some 1, sync := syncPulled s } }) ∧
    (s.syncLow = true ↔ s.gauge.syncPulse ≠ none) ∧
    (let p := s.gauge.sync
     let time := s.now + BitVec.ofNat 24 (edgeDelay p s.now)
     let seen := s.power.state = .run ∧ (time - s.time.fref).toNat < 256 ∧
       (s.gauge.syncPulse = none ∨ p.accepted = p.selection)
     let low : PulseInput := { p with accepted := !p.selection, pin := !p.selection, pending := none, stood := some time }
     (¬ seen → exec .syncFallingEdge s = .next s) ∧
     (seen → ¬ armed → exec .syncFallingEdge s = .next { s with gauge := { s.gauge with sync := low } }) ∧
     (seen → armed → ∃ t : State, exec .syncFallingEdge s = .next t ∧ moved t .sweepUp ∧
       t = { s with gauge := { s.gauge with
         gauges := t.gauge.gauges, sweep := { s.gauge.sweep with cause := .sync }, sync := low } })) ∧
    (s.gauge.sweep.timeout ≠ some 0 → exec .sweepTimeoutExpiry s = .next s) ∧
    (s.gauge.sweep.timeout = some 0 → ∃ t : State, exec .sweepTimeoutExpiry s = .next t ∧ moved t .tracking ∧
      (let closes := s.gauge.sweep.isOpen = true ∧
         ∀ k : Fin 6, s.gauge.gauges[k].mode ≠ .sweepUp ∧ s.gauge.gauges[k].mode ≠ .sweepDown
       let w : Sweep := { s.gauge.sweep with timeout := none }
       t = { s with
        gauge := { s.gauge with
          gauges := t.gauge.gauges,
          sweep := if closes then { w with isOpen := false, delayTimer := none } else w },
        notices := if closes then (s.notify .sweep (sweepValue w)).notices else s.notices })) ∧
    (s.gauge.syncPulse ≠ some 0 → exec .syncPulseEnd s = .next s) ∧
    (s.gauge.syncPulse = some 0 → exec .syncPulseEnd s =
      .next { s with gauge := { s.gauge with
        syncPulse := none,
        sync := if s.power.state = .run then foundAt s.gauge.sync false s.now else ignored s.gauge.sync false } })

/-! ## Monitors -/

/-- The raw condition of an evaluation: false when a qualifier fails; by the fault sense when the source is FAULT,
ABSENT or STALE, FREEZE changing nothing but that the evaluation is taken; and else by the method, within whose band
the previous condition stands. An evaluation touches no other monitor. A monitor that is disabled or outside its
run-in only has the evaluation taken; an evaluation that is not due, or waits on an expiry, changes nothing (the model's
choices, log entries 5 and 26). -/
def Obligations.MonitorRawCondition : Prop :=
  ∀ (s : State) (i : Fin 16), s.power.state ≠ .held →
    let m := s.monitor.monitors[i]
    let f := m.config
    let expiring := m.assertTimer = some 0 ∨ m.releaseTimer = some 0 ∨ m.reminderTimer = some 0
    let admitted := f.enabled ≠ 0 ∧ (s.power.state = .run ∨ (f.runIn ≠ 0 ∧ s.power.state = .awakeOff))
    let taken : State := { s with monitor := { s.monitor with
      monitors := s.monitor.monitors.set i { m with due := false } } }
    let active := fun n : Nat => ∃ k : Fin 12, k.val = n ∧
      s.discretes.inputs[k].level = s.discretes.inputs[k].activeHigh
    let passes := fun (kind index : Byte) => match kind.toNat with
      | 0 => True
      | 1 => active index.toNat
      | 2 => ¬ active index.toNat
      | 3 => ∃ j : Fin 16, j.val = index.toNat ∧
          (s.monitor.monitors[j].state = .active ∨ s.monitor.monitors[j].state = .releasing)
      | _ => s.power.state = .run
    let qualified := passes f.q1Kind f.q1Index ∧ passes f.q2Kind f.q2Index
    ((m.due = false ∨ expiring) → exec (.monitorEvaluation i) s = .next s) ∧
    (m.due = true → ¬ expiring → ¬ admitted → exec (.monitorEvaluation i) s = .next taken) ∧
    (m.due = true → ¬ expiring → admitted → ∃ t : State, exec (.monitorEvaluation i) s = .next t ∧
      (∀ j : Fin 16, j ≠ i → t.monitor.monitors[j] = s.monitor.monitors[j]) ∧
      (let raw := t.monitor.monitors[i].raw
       (¬ qualified → raw = false) ∧
       (qualified → f.srcKind = 0 → ∀ c : Fin 16, c.val = f.srcIndex.toNat →
        let v := (s.channels.records[c].presented).1
        let validity := (s.channels.records[c].presented).2
        let bad := validity = .fault ∨ validity = .absent ∨ validity = .stale
        (bad → f.faultSense = 0 → raw = true) ∧
        (bad → f.faultSense = 1 → raw = false) ∧
        (bad → f.faultSense = 2 → t = taken) ∧
        (¬ bad → f.method = 0 →
          raw = if f.setLo.toNat < v then true else if v + f.hyst.toNat ≤ f.setLo.toNat then false else m.raw) ∧
        (¬ bad → f.method = 1 →
          raw = if v < f.setLo.toNat then true else if f.setLo.toNat + f.hyst.toNat ≤ v then false else m.raw) ∧
        (¬ bad → f.method = 2 →
          raw = if v < f.setLo.toNat ∨ f.setHi.toNat < v then true
            else if f.setLo.toNat + f.hyst.toNat ≤ v ∧ v + f.hyst.toNat ≤ f.setHi.toNat then false else m.raw)) ∧
       (qualified → f.srcKind ≠ 0 → f.method = 3 → (raw = true ↔ active f.srcIndex.toNat)) ∧
       (qualified → f.srcKind ≠ 0 → f.method = 4 → (raw = true ↔ ¬ active f.srcIndex.toNat))))

/-- The states of a monitor that evaluates and forms the raw condition r, its source read as a channel's presented face
or as 1 or 0, VALID, for an active or inactive discrete: CLEAR to PENDING with the assert delay or at
once to ACTIVE; PENDING counts down or returns to CLEAR; ACTIVE stays, counts its reminder when acknowledged, or goes
to RELEASING with the release delay or at once to CLEAR when it is not latching or is acknowledged; RELEASING counts
down or returns to ACTIVE with nothing posted. What entry to ACTIVE and to CLEAR brings is R104's and R106's, the MONITOR
notice carrying the state and the marks of acknowledgement and of a snapshot held. -/
def Obligations.MonitorStates : Prop :=
  ∀ (s : State) (i : Fin 16) (r : Bool), s.power.state ≠ .held →
    let m0 := s.monitor.monitors[i]
    (m0.config.srcKind = 0 → ∀ c : Fin 16, c.val = m0.config.srcIndex.toNat →
      s.sourceOf m0 = s.channels.records[c].presented) ∧
    (m0.config.srcKind ≠ 0 → ∀ k : Fin 12, k.val = m0.config.srcIndex.toNat →
      s.sourceOf m0 = (if s.discretes.inputs[k].level = s.discretes.inputs[k].activeHigh then 1 else 0, .valid)) ∧
    (m0.due = true → m0.expiring = false → m0.config.enabled ≠ 0 → s.admits m0 = true → s.rawOf m0 = some r →
    let m : Monitor := { m0 with due := false, raw := r, reading := s.sourceOf m0 }
    let goes := fun m' : Monitor => ({ s with monitor := { s.monitor with
      monitors := s.monitor.monitors.set i m' } } : State)
    let snapshot := if m.config.snapshot ≠ 0 ∧ m.snapshot = none then
        some { total := s.accum.total, value := m.reading.1, validity := m.reading.2 } else m.snapshot
    (m.state = .off → exec (.monitorEvaluation i) s = .next (goes m)) ∧
    (m.state = .clear → r = false → exec (.monitorEvaluation i) s = .next (goes m)) ∧
    (m.state = .clear → r = true → m.config.assertDelay ≠ 0 → exec (.monitorEvaluation i) s =
      .next (goes { m with state := .pending, assertTimer := some m.config.assertDelay.toNat })) ∧
    (m.state = .clear → r = true → m.config.assertDelay = 0 → ∃ t : State,
      exec (.monitorEvaluation i) s = .next t ∧
      monitorWarns s i { m with state := .active, assertTimer := none, snapshot := snapshot } t) ∧
    (m.state = .pending → r = true → exec (.monitorEvaluation i) s =
      .next (goes { m with assertTimer := m.assertTimer.map fun n => n - 1 })) ∧
    (m.state = .pending → r = false → exec (.monitorEvaluation i) s =
      .next (goes { m with state := .clear, assertTimer := none })) ∧
    (m.state = .active → (r = true ∨ (m.config.latching ≠ 0 ∧ m.acked = false)) →
      exec (.monitorEvaluation i) s =
        .next (goes { m with reminderTimer := if m.acked then m.reminderTimer.map fun n => n - 1
                                            else m.reminderTimer })) ∧
    (m.state = .active → r = false → (m.config.latching = 0 ∨ m.acked = true) →
      (m.config.releaseDelay ≠ 0 → exec (.monitorEvaluation i) s =
        .next (goes { m with state := .releasing, releaseTimer := some m.config.releaseDelay.toNat })) ∧
      (m.config.releaseDelay = 0 → ∃ t : State, exec (.monitorEvaluation i) s = .next t ∧
        monitorClears s i { m with state := .clear, acked := false, releaseTimer := none,
                                   reminderTimer := none } t)) ∧
    (m.state = .releasing → r = true → exec (.monitorEvaluation i) s =
      .next (goes { m with state := .active, releaseTimer := none })) ∧
    (m.state = .releasing → r = false → exec (.monitorEvaluation i) s =
      .next (goes { m with releaseTimer := m.releaseTimer.map fun n => n - 1 })))

/-- A monitor timer that has run out, in a power state its run-in admits: the assert timer brings a PENDING monitor to
ACTIVE with its actions and the snapshot, the release timer a RELEASING one to CLEAR, and the reminder un-acknowledges
an ACTIVE one with its claim, chime request and notice placed again. Otherwise each changes nothing (the model's choice,
log entry 5). -/
def Obligations.MonitorExpiries : Prop :=
  ∀ (s : State) (i : Fin 16), s.power.state ≠ .held →
    let m := s.monitor.monitors[i]
    let admitted := s.power.state = .run ∨ (m.config.runIn ≠ 0 ∧ s.power.state = .awakeOff)
    let asserts := m.state = .pending ∧ m.assertTimer = some 0 ∧ admitted
    let releases := m.state = .releasing ∧ m.releaseTimer = some 0 ∧ admitted
    let reminds := m.state = .active ∧ m.reminderTimer = some 0 ∧ admitted
    let snapshot := if m.config.snapshot ≠ 0 ∧ m.snapshot = none then
        some { total := s.accum.total, value := m.reading.1, validity := m.reading.2 } else m.snapshot
    (asserts → ∃ t : State, exec (.assertTimerExpiry i) s = .next t ∧
      monitorWarns s i { m with state := .active, assertTimer := none, snapshot := snapshot } t) ∧
    (¬ asserts → exec (.assertTimerExpiry i) s = .next s) ∧
    (releases → ∃ t : State, exec (.releaseTimerExpiry i) s = .next t ∧
      monitorClears s i { m with state := .clear, acked := false, releaseTimer := none, reminderTimer := none } t) ∧
    (¬ releases → exec (.releaseTimerExpiry i) s = .next s) ∧
    (reminds → ∃ t : State, exec (.reminderExpiry i) s = .next t ∧
      monitorWarns s i { m with acked := false, reminderTimer := none } t) ∧
    (¬ reminds → exec (.reminderExpiry i) s = .next s)

/-! ## Chimes, lamps, drum, EEPROM, link -/

/-- The end of a pattern step and of a gap, in a sound chime unit: a step that is not the last goes on to the next, or
under CUT leaves the request WAITING in its place, or under WITHDRAW removes it; the last step completes the pass, which
removes the request under WITHDRAW or with one pass left, and else moves it to the newest end with the passes left;
every pass is followed by a gap of 200 ms, and a gap's end selects. SPKR sounds the tone of the step that plays, and is
silent in IDLE and GAP. Before its time each changes nothing (the model's choice, log entry 5). -/
def Obligations.ChimeSequence : Prop :=
  ∀ s : State, s.power.state ≠ .held → s.chimeSound →
    let goes := fun (queue : List ChimeRequest) (sequencer : Sequencer) =>
      ({ s with chime := { s.chime with queue := queue, sequencer := sequencer } } : State)
    ((∀ steps k, s.chime.sequencer ≠ .playing steps k 0) → exec .chimeStepEnd s = .next s) ∧
    (∀ steps k front r rest, s.chime.sequencer = .playing steps k 0 → s.chime.queue = front ++ r :: rest →
      r.playing = true →
      let waiting : ChimeRequest := { r with playing := false, reposted := false, stop := .none }
      (k + 1 < steps.length →
        (r.stop = .none → exec .chimeStepEnd s =
          .next (goes s.chime.queue (.playing steps (k + 1) ((steps[k + 1]?.map fun x => x.duration * 10).getD 0)))) ∧
        (r.stop = .cut → exec .chimeStepEnd s = .next (goes (front ++ waiting :: rest) (.gap 200))) ∧
        (r.stop = .withdraw → exec .chimeStepEnd s = .next (goes (front ++ rest) (.gap 200)))) ∧
      (steps.length ≤ k + 1 →
        (r.stop = .withdraw → exec .chimeStepEnd s = .next (goes (front ++ rest) (.gap 200))) ∧
        (r.stop ≠ .withdraw → (r.reposted = true ∨ r.passes = 0) →
          exec .chimeStepEnd s = .next (goes (front ++ rest ++ [waiting]) (.gap 200))) ∧
        (r.stop ≠ .withdraw → r.reposted = false → r.passes = 1 →
          exec .chimeStepEnd s = .next (goes (front ++ rest) (.gap 200))) ∧
        (r.stop ≠ .withdraw → r.reposted = false → 2 ≤ r.passes →
          exec .chimeStepEnd s =
            .next (goes (front ++ rest ++ [{ waiting with passes := r.passes - 1 }]) (.gap 200))))) ∧
    (∀ steps k left x, s.chime.sequencer = .playing steps k left → steps[k]? = some x → s.chime.tone = x.tone) ∧
    (s.chime.sequencer = .idle → s.chime.tone = 0) ∧
    (∀ left, s.chime.sequencer = .gap left → s.chime.tone = 0) ∧
    (s.chime.sequencer ≠ .gap 0 → exec .gapEnd s = .next s) ∧
    (s.chime.sequencer = .gap 0 → ∃ u : ChimeUnit, exec .gapEnd s = .next { s with chime := u } ∧
      selects s.chime u)

/-- A lamp's state: ON while the bulb check runs, else FLASH with at least one FLASH claim, else ON with at least one
claim, else OFF; and its output: off outside RUN and AWAKE_OFF, and there the ON-phase duty in ON, the duty or off by
the half of the flash clock in FLASH, and off in OFF. -/
def Obligations.LampState : Prop :=
  ∀ (s : State) (l : Fin 12),
    (s.lamp.bulbCheck ≠ none → s.lamp.state l = .on) ∧
    (s.lamp.bulbCheck = none →
      (s.lamp.state l = .flash ↔ ∃ c : Fin 23, s.lamp.claim l c = some .flash) ∧
      (s.lamp.state l = .on ↔ (∃ c : Fin 23, s.lamp.claim l c = some .on) ∧
        ∀ c : Fin 23, s.lamp.claim l c ≠ some .flash) ∧
      (s.lamp.state l = .off ↔ ∀ c : Fin 23, s.lamp.claim l c = none)) ∧
    (s.power.state ≠ .run → s.power.state ≠ .awakeOff → s.lampOutput l = 0) ∧
    (s.power.state = .run ∨ s.power.state = .awakeOff →
      (s.lamp.state l = .on → s.lampOutput l = s.lamp.duty) ∧
      (s.lamp.state l = .off → s.lampOutput l = 0) ∧
      (∀ f, s.lamp.state l = .flash → s.lamp.flash = some f →
        s.lampOutput l = if f.lit then s.lamp.duty else 0))

/-- The lamp events, each at its time: the bulb check's end shows the claims again and posts the chime requests of the
service items in DUE and OVERDUE; the flash clock turns over each 500 ms; and each 20 ms in RUN and AWAKE_OFF the duty
is set: 255 without an active dimming discrete or a usable DIMMER, and else DIMMER's presented value, at least 16. The
model's choices: the posts of one bulb check's end are taken from S0 to S5 (log entry 12), and an event before its time
changes nothing (log entry 5). -/
def Obligations.LampEvents : Prop :=
  ∀ s : State, s.power.state ≠ .held →
    (s.lamp.bulbCheck ≠ some 0 → exec .bulbCheckEnd s = .next s) ∧
    (s.lamp.bulbCheck = some 0 → exec .bulbCheckEnd s = .next { s with
      lamp := { s.lamp with bulbCheck := none },
      chime := (List.finRange 6).foldl (fun u k =>
        let i := s.service[k]
        if h : i.config.pattern.toNat < 12 then
          (if i.state = .due ∨ i.state = .overdue then
            u.post (serviceSource k) ⟨i.config.pattern.toNat, h⟩ i.config.priority.toNat i.config.passes.toNat
           else u)
        else u) s.chime }) ∧
    ((∀ f, s.lamp.flash = some f → f.ms < 500) → exec .flashHalfChange s = .next s) ∧
    (∀ f, s.lamp.flash = some f → 500 ≤ f.ms → exec .flashHalfChange s =
      .next { s with lamp := { s.lamp with flash := some { lit := !f.lit, ms := f.ms - 500 } } }) ∧
    ((s.awake = false ∨ s.lamp.dutyClock < 20) → exec .dutySetting s = .next s) ∧
    (s.awake = true → 20 ≤ s.lamp.dutyClock → ∃ duty : Nat, exec .dutySetting s = .next { s with
        lamp := { s.lamp with dutyClock := s.lamp.dutyClock - 20, duty := duty } } ∧
      (let p := s.channels.records[7].presented
       let dimmed := ∃ k : Fin 12, s.lamp.dimming = some k ∧
         s.discretes.inputs[k].level = s.discretes.inputs[k].activeHigh
       (dimmed → (p.2 = .valid ∨ p.2 = .held) → duty = if p.1 < 16 then 16 else p.1) ∧
       ((¬ dimmed ∨ (p.2 ≠ .valid ∧ p.2 ≠ .held)) → duty = 255)))

/-- The drum's events, each at its time: a step 20 ms after the last, in STEPPING in RUN and AWAKE_OFF, which moves the
phase, the debt, p and steps since index by one and makes a miss due at 24 when the index is known; that miss, which
counts in IDLE and STEPPING and at the third brings FAULT with a DRUM notice; and the coils going off in IDLE and FAULT
100 ms after the last step, which has long gone when they have taken none since they were energised (the model's, log
entry 25). Otherwise each changes nothing (the model's choice, log entry 5). The phase outputs carry the phase pattern
while the coils are energised, two neighbouring phases to a pattern, and are off while they are off. -/
def Obligations.DrumEvents : Prop :=
  ∀ s : State, s.power.state ≠ .held →
    let d := s.drum
    let steps := s.awake = true ∧ d.state = .stepping ∧ 20 ≤ d.clock
    let watched := d.state = .idle ∨ d.state = .stepping
    let coilsDue := d.coils = true ∧ (d.state = .idle ∨ d.state = .fault) ∧ (d.stepped = true → 100 ≤ d.clock)
    (¬ steps → exec .drumStep s = .next s) ∧
    (steps → exec .drumStep s = .next { s with drum := { d with
      phase := (d.phase + 1) % 4, debt := d.debt - 1, p := (d.p + 1) % 20, clock := 0,
      stepped := true,
      sinceIndex := if 24 ≤ d.sinceIndex + 1 then 0 else d.sinceIndex + 1,
      missDue := d.missDue || (decide (24 ≤ d.sinceIndex + 1) && d.indexKnown),
      state := if d.debt ≤ 1 then .idle else .stepping } }) ∧
    (d.missDue = false → exec .drumIndexMiss s = .next s) ∧
    (d.missDue = true → ¬ watched → exec .drumIndexMiss s = .next { s with drum := { d with missDue := false } }) ∧
    (d.missDue = true → watched → d.missCount < 2 → exec .drumIndexMiss s =
      .next { s with drum := { d with missDue := false, missCount := d.missCount + 1 } }) ∧
    (d.missDue = true → watched → 2 ≤ d.missCount → exec .drumIndexMiss s =
      .next (State.notify { s with drum := { d with missDue := false, missCount := 2, state := .fault } } .drum
        (if d.lost then 0x0103 else 0x0003))) ∧
    (¬ coilsDue → exec .drumCoilOff s = .next s) ∧
    (coilsDue → exec .drumCoilOff s = .next { s with drum := { d with coils := false } }) ∧
    (d.coils = false → d.phases = []) ∧
    (d.coils = true → (d.phase = 0 → d.phases = [1, 2]) ∧ (d.phase = 1 → d.phases = [2, 3]) ∧
      (d.phase = 2 → d.phases = [3, 4]) ∧ (d.phase = 3 → d.phases = [4, 1]))

/-- The EEPROM port's events: with the part awake, the port idle and an entry waiting, its front entry becomes the
write in flight with the words of its record; a completed word is in the device, and the next follows, or the entry has
completed and an ODOMETER record becomes the ring's newest; a word 25 ms without EDO can complete no more and fails: its
address holds whatever the device left (a free value, with which no record passes its check: log entry 9), the entry is
abandoned and a STORE notice carries the address. The value last bound for the ring is that of the ODOMETER entry that
waits, or else of the ODOMETER write in flight, or else the newest record's, or else none. An ODOMETER value bound while an
ODOMETER entry waits replaces its value in place, and else joins at the back. The model's choices: an event that is not
due changes nothing (log entry 5), and in
the 25th ms the word may do either (log entry 36). -/
def Obligations.EepromEvents : Prop :=
  ∀ s : State, s.power.state ≠ .held →
    let record := fun (first : Nat) (ws : List Nat) =>
      let sum := (ws ++ [(0xA5A5 + 65536 - ws.sum % 65536) % 65536])
      (List.range sum.length).zipWith (fun k w => (first + k, BitVec.ofNat 16 w)) sum
    ((s.awake = false ∨ s.eeprom.flight ≠ none ∨ s.eeprom.queue = []) → exec .eepromWriteBegin s = .next s) ∧
    (∀ e rest, s.awake = true → s.eeprom.flight = none → s.eeprom.queue = e :: rest →
      exec .eepromWriteBegin s = .next { s with eeprom := { s.eeprom with queue := rest, flight := some (match e with
        | .odometer v =>
          let slot : Fin 8 := (s.accum.newestSlot.map fun k => k + 1).getD 0
          { kind := .odometer slot v, words := record (7 + 3 * slot.val) [v / 65536, v % 65536], wait := 0 }
        | .service =>
          { kind := .service, wait := 0,
            words := record 31 (s.service.toList.flatMap fun i => [i.sinceDu / 100, i.sinceDays, i.sinceKr]) }
        | .header =>
          { kind := .header, wait := 0,
            words := record 0 [0x4E5A, s.consts.kvss, s.consts.cinj, s.consts.ppr, s.consts.consumption,
                               s.consts.reserve] }
        | .host a v => { kind := .host, words := [(a, v)], wait := 0 }) } }) ∧
    ((∀ f, s.eeprom.flight = some f → f.words = []) →
      exec .eepromWordComplete s = .next s ∧ exec .eepromWordFail s = .next s) ∧
    (∀ f, s.eeprom.flight = some f → 25 < f.wait → exec .eepromWordComplete s = .next s) ∧
    (∀ f a w rest, s.eeprom.flight = some f → f.words = (a, w) :: rest → f.wait ≤ 25 → ∃ t : State,
      exec .eepromWordComplete s = .next t ∧
      (memoryWf s.eeprom.memory = true → readWord t.eeprom.memory a = w) ∧
      (∀ b : Nat, b ≠ a → readWord t.eeprom.memory b = readWord s.eeprom.memory b) ∧
      t.eeprom.queue = s.eeprom.queue ∧
      (rest ≠ [] → t.eeprom.flight = some { kind := f.kind, words := rest, wait := 0 } ∧ t.accum = s.accum) ∧
      (rest = [] → t.eeprom.flight = none ∧
        (∀ slot v, f.kind = .odometer slot v →
          t.accum = { s.accum with newestSlot := some slot, newestValue := v }) ∧
        ((∀ slot v, f.kind ≠ .odometer slot v) → t.accum = s.accum)) ∧
      t = { s with eeprom := t.eeprom, accum := t.accum }) ∧
    (∀ f a w rest, s.eeprom.flight = some f → f.words = (a, w) :: rest →
      (f.wait < 25 → exec .eepromWordFail s = .next s) ∧
      (25 ≤ f.wait → ∃ t : State, exec .eepromWordFail s = .next t ∧
        tornAt s.eeprom.memory t.eeprom.memory a (Config.leftWord s.freeCount) ∧
        t = { s with eeprom := { memory := t.eeprom.memory, queue := s.eeprom.queue, flight := none },
                     notices := (s.notify .store (BitVec.ofNat 16 (a % 256))).notices,
                     freeCount := s.freeCount + 1 })) ∧
    (∀ v front rest, s.eeprom.queue = front ++ .odometer v :: rest → (∀ e ∈ front, ∀ x, e ≠ .odometer x) →
      s.lastBound = some v) ∧
    ((∀ e ∈ s.eeprom.queue, ∀ x, e ≠ .odometer x) →
      (∀ f slot v, s.eeprom.flight = some f → f.kind = .odometer slot v → s.lastBound = some v) ∧
      ((∀ f slot v, s.eeprom.flight = some f → f.kind ≠ .odometer slot v) →
        s.lastBound = if s.accum.newestSlot = none then none else some s.accum.newestValue)) ∧
    (∀ (v w : Nat) (front rest : List Entry),
      (∀ e ∈ front ++ rest, ∀ x, e ≠ .odometer x) →
      bindOdometer v (front ++ rest) = front ++ rest ++ [.odometer v] ∧
      bindOdometer v (front ++ .odometer w :: rest) = front ++ .odometer v :: rest)

/-- The link's events: the assembler takes a lead byte, a COUNT of 1 to 40 and the bytes it expects, the last of which
completes the frame; a bad COUNT, a character error and 20 ms without a character discard a partial frame; and at the
end of a reply the oldest queued frame is served, judged by its check, its arrival in INIT, its kind and its length in
turn. The frame of COUNT, KIND, payload and CHECK is good exactly when their 8-bit sum is 0. A lead byte in ASLEEP wakes the
part to AWAKE_OFF with its clocks started, the linger timer at its full time and a POWER notice of cause 3. The model's
choices: the moment of a lead byte that wakes, of the last character of a frame and of a reply's end, at which IDX's filter
then starts, is the tick plus the operand, never falling (log entry 7), and finds the pins as a tick does (log entry 8); the
gap counts in ticks (log entry 27); and what is not due changes nothing (log entry 5). -/
def Obligations.LinkEvents : Prop :=
  ∀ (s : State) (m : Moment), s.power.state ≠ .held →
    let u := atMoment s m
    let goes := fun (s : State) (a : Assembler) =>
      ({ s with link := { s.link with assembler := a, gap := 0 } } : State)
    let lead := goes (if s.power.state = .asleep then
      State.notify { u.startClocks with power := { s.power with state := .awakeOff, linger := .running 30000 } }
        .power 0x0301 else s) .count
    let expecting := ∃ taken n, s.link.assembler = .body taken n
    (∀ (count kind check : Byte) (payload : List Byte) (inInit : Bool),
      frameOf (count :: kind :: payload ++ [check]) inInit =
        { kind := kind, payload := payload, inInit := inInit,
          good := decide ((count.toNat + kind.toNat + (payload.map BitVec.toNat).sum + check.toNat) % 256 = 0) }) ∧
    (∀ c, s.link.assembler = .hunt → exec (.characterReceived c false m) s = .next s ∧
      exec .characterGapTimeout s = .next s ∧
      exec (.characterReceived c true m) s = .next (if c = 0xA7 then lead else s)) ∧
    (∀ c, s.link.assembler = .count ∨ expecting → exec (.characterReceived c false m) s = .next (goes s .hunt) ∧
      exec .characterGapTimeout s = .next (if 20 ≤ s.link.gap then goes s .hunt else s)) ∧
    (∀ c : Byte, s.link.assembler = .count →
      exec (.characterReceived c true m) s = .next (if 1 ≤ c.toNat ∧ c.toNat ≤ 40 then goes s (.body [c] (c.toNat + 1))
        else if c = 0xA7 then lead else goes s .hunt)) ∧
    (∀ c taken n, s.link.assembler = .body taken n →
      (2 ≤ n → exec (.characterReceived c true m) s = .next (goes s (.body (taken ++ [c]) (n - 1)))) ∧
      (n ≤ 1 → exec (.characterReceived c true m) s =
        .next ((goes u .hunt).completeFrame (frameOf (taken ++ [c]) (decide (s.power.state = .init)))))) ∧
    (s.link.reply = none → exec (.replyEnd m) s = .next s) ∧
    (s.link.reply ≠ none → s.link.queue = [] →
      exec (.replyEnd m) s = .next { u with link := { s.link with reply := none } }) ∧
    (∀ f rest, s.link.reply ≠ none → s.link.queue = f :: rest →
      ∃ t : State, exec (.replyEnd m) s = .next t ∧
        judged { u with link := { s.link with queue := rest, reply := none } } f t)

/-! ## Requests -/

/-- A complete frame wakes an ASLEEP part to AWAKE_OFF with its clocks started and a POWER notice of cause 3, restarts
the linger timer in AWAKE_OFF, and does nothing to Power Control in RUN and INIT. A request that is not served at once:
in INIT, with the link free, it is answered NOT_READY and changes nothing else; while a reply is being sent its frame
waits, when fewer than two wait, and is discarded when two do. So with every frame, good or bad, that completes: with the
link free it is judged at once by its check, its arrival in INIT, its kind and its payload's length in turn. The model's
choices: a wake starts IDX's filter at the time of the latest event, or at the moment the row brings, the tick plus its
operand, never falling (log entry 7), at which the pins are found as at a tick (log entry 8). -/
def Obligations.FramesAndRequestsThatWait : Prop :=
  (∀ s : State,
    (s.power.state = .run ∨ s.power.state = .init → s.frameActivity = s) ∧
    (s.power.state = .awakeOff →
      s.frameActivity = { s with power := { s.power with linger := .running 30000 } }) ∧
    (s.power.state = .asleep →
      s.frameActivity = State.notify { s with
        power := { s.power with state := .awakeOff, linger := .running 30000 },
        monitor := { s.monitor with clock := some 0 },
        pulse := { s.pulse with
          idx := { s.pulse.idx with accepted := s.pulse.idx.pin, pending := none, stood := some s.now } },
        lamp := { s.lamp with flash := some { lit := true, ms := 0 }, duty := s.dutyNow, dutyClock := 0 } }
        .power 0x0301)) ∧
  (∀ (s : State) (f : Frame),
    (s.linkFree = true → judged s.frameActivity f (s.completeFrame f)) ∧
    (s.link.reply ≠ none →
      let t := s.frameActivity
      s.completeFrame f =
        if s.link.queue.length < 2 then { t with link := { s.link with queue := s.link.queue ++ [f] } } else t)) ∧
  ∀ (c : Instr) (kind : Byte) (payload : List Byte) (s : State), frame? c = some (kind, payload) →
    s.power.state ≠ .held →
    (s.power.state = .init → s.linkFree = true → exec c s = .next ((atCommand s c).replied kind 5 [])) ∧
    (s.link.reply ≠ none →
      let t := (atCommand s c).frameActivity
      let f : Frame := { kind := kind, payload := payload, good := true, inInit := decide (s.power.state = .init) }
      (s.link.queue.length < 2 →
        exec c s = .next { t with link := { s.link with queue := s.link.queue ++ [f] } }) ∧
      (2 ≤ s.link.queue.length → exec c s = .next t))

/-- Every request row is the arrival of its frame: carrying the command out is completing a good frame of the kind and
payload of 11.2 and 11.3, which the link takes, queues, serves or discards as it does any frame (the model's choice, log
entry 13). A row that brings its moment completes it at that moment (the model's choices, log entries 7 and 8). -/
def Obligations.RequestRowIsItsFrame : Prop :=
  ∀ (c : Instr) (kind : Byte) (payload : List Byte) (s : State), frame? c = some (kind, payload) →
    s.power.state ≠ .held →
    exec c s = .next ((atCommand s c).completeFrame
      { kind := kind, payload := payload, good := true, inInit := decide (s.power.state = .init) })

/-- The characters of a request's frame, taken one after another by a hunting assembler, do what the request row does:
lead byte, COUNT, KIND, payload and CHECK of 10.2 are assembled into the frame that the row stands for. Each character and
the row come at one moment (the model's choices, log entries 7 and 8). -/
def Obligations.CharactersMakeTheFrame : Prop :=
  ∀ (c : Instr) (kind : Byte) (payload : List Byte) (s : State) (m : Moment), frame? c = some (kind, payload) →
    c.wellFormed = true → s.power.state ≠ .held → s.link.assembler = .hunt → (∀ n, moment? c = some n → n = m) →
    runAll ((frameBytes kind payload).map fun b => .characterReceived b true m) s =
      exec c (atMoment { s with link := { s.link with assembler := .hunt, gap := 0 } } m)

/-- Status Read and Notice Fetch, served at once: Status Read answers the power state, the start-up flags, the straps,
the part and revision codes and the three queue lengths and changes nothing; Notice Fetch removes the oldest notices,
at most 6, and answers how many, how many are left, and each as its kind, source and value. -/
def Obligations.StatusAndNoticeRequests : Prop :=
  ∀ s : State, s.ready →
    let t := s.frameActivity
    exec .statusRead s = .next (t.replied 0x01 0
      [if t.power.state = .run then 2 else 1,
       BitVec.ofNat 8 ((if t.power.headerDefaulted then 1 else 0) + (if t.power.ringEmpty then 2 else 0) +
         (if t.power.serviceDefaulted then 4 else 0) + (if t.power.clockLost then 8 else 0)),
       BitVec.ofNat 8 ((if t.power.lrate then 1 else 0) + (if t.power.drumfit then 2 else 0)),
       0x48, 0x10, 1, byte t.chime.queue.length, byte t.notices.length, byte t.eeprom.queue.length,
       if t.eeprom.flight = none then 0 else 1]) ∧
    exec .noticeFetch s = .next (({ t with notices := t.notices.drop 6 } : State).replied 0x02 0
      ([byte (min 6 t.notices.length), byte (t.notices.length - 6)] ++
        (t.notices.take 6).flatMap fun n =>
          (match n.key with
            | .monitor m => [1, byte m.val]
            | .service k => [2, byte k.val]
            | .channel c => [3, byte c.val]
            | .drum => [4, 0]
            | .store => [5, 0]
            | .sweep => [6, 0]
            | .power => [7, 0]
            | .startup => [8, 0]
            | .trip => [9, 0]) ++ [n.value.extractLsb' 8 8, n.value.extractLsb' 0 8]))

/-- Soft Restart, served at once, restores in every block what the table of 9.8 gives, empties the Notice Queue after
all the restorations, and is answered OK; the power state, the time, the constants, the accumulators, the trips'
fields, the measured channels, the EEPROM port and the link's frames are kept. A filter that restarts takes the pin level
the command brings. The model's choices: the bytes that a default of none leaves unused are 0 (log entry 24), and the
filters restart, and the on-time is reckoned, at the command's moment, the tick plus its operand, never falling (log entry
7), at which the pins are found as at a tick (log entry 8). -/
def Obligations.SoftRestartResult : Prop :=
  ∀ (s : State) (m : Moment), s.ready →
    let t := (atMoment s m).frameActivity
    ∃ u : State, exec (.softRestart m) s = .next (u.replied 0x03 0 []) ∧ u.notices = [] ∧
      (∀ c : Fin 12, u.curves[c] = []) ∧
      (let input := fun p : PulseInput =>
        if p.filterOn = true ∧ p.selection = false then p
        else { p with filterOn := true, selection := false, accepted := p.pin, pending := none, stood := some t.now }
       let window := fun (p : PulseInput) (w : Window) =>
        if p.filterOn = true ∧ p.selection = false then { w with loss := 256000 } else Window.initial
       u.pulse = { t.pulse with
        spd := input t.pulse.spd, tac := input t.pulse.tac, inj := input t.pulse.inj, idx := input t.pulse.idx,
        spdWindow := window t.pulse.spd t.pulse.spdWindow, tacWindow := window t.pulse.tac t.pulse.tacWindow,
        onTime := if t.power.state = .run then t.pulse.onTimeAt t.now else t.pulse.onTime,
        injMark := if t.power.state = .run then t.now else t.pulse.injMark }) ∧
      (∀ i : Fin 6, u.sampler.inputs[i] =
        { t.sampler.inputs[i] with curve := none, low := 0, high := 1023, decimation := 5, shift := 3,
                                   threshold := 0, sum := 0, count := 0 }) ∧
      u.sampler.clock = t.sampler.clock ∧
      (∀ k : Fin 12, u.discretes.inputs[k] =
        { t.discretes.inputs[k] with activeHigh := false, debounce := 20, wake := false }) ∧
      u.discretes.ign = t.discretes.ign ∧
      (∀ c : Fin 16, u.channels.records[c] =
        if c.val < 11 then { t.channels.records[c] with hold := none }
        else { value := 0, validity := .absent, hold := none }) ∧
      (∀ e : Fin 5, u.channels.freshness[e] = { setting := 0, timer := none }) ∧
      (∀ k : Fin 6, u.gauge.gauges[k] =
        { t.gauge.gauges[k] with config := GaugeConfig.initial, mode := .parked, v := 0,
                                 sine := { t.gauge.gauges[k].sine with duty := 0 },
                                 cosine := { t.gauge.gauges[k].cosine with duty := 0 } }) ∧
      u.gauge.sweep = (if t.gauge.sweep.isOpen then
        { t.gauge.sweep with delay := 0, isOpen := false, delayTimer := none, timeout := none }
        else { t.gauge.sweep with delay := 0 }) ∧
      u.gauge.clock = t.gauge.clock ∧ u.gauge.syncPulse = t.gauge.syncPulse ∧ u.gauge.sync = t.gauge.sync ∧
      (∀ i : Fin 16, u.monitor.monitors[i] = Monitor.initial) ∧ u.monitor.clock = t.monitor.clock ∧
      u.chime.queue = (t.chime.queue.filter fun r => r.playing).map (fun r => { r with stop := .withdraw }) ∧
      (∀ p : Fin 4, u.chime.loaded[p] = []) ∧ u.chime.sequencer = t.chime.sequencer ∧
      (∀ (l : Fin 12) (c : Fin 23), u.lamp.claim l c =
        if c = linkClaim ∨ (∃ i : Fin 16, c = monitorClaim i ∧ t.monitor.monitors[i].config.lamp.toNat = l.val) ∨
            (∃ k : Fin 6, c = serviceClaim k ∧ t.service[k].config.lamp.toNat = l.val) then none
        else t.lamp.claim l c) ∧
      u.lamp = { t.lamp with claims := u.lamp.claims, dimming := none } ∧
      (∀ k : Fin 6, u.service[k] = { t.service[k] with config := serviceDefaults, state := .disabled }) ∧
      u.trip = { t.trip with a := { t.trip.a with paused := false }, b := { t.trip.b with paused := false },
                             hours := 0 } ∧
      u = { t with notices := [], curves := u.curves, pulse := u.pulse, sampler := u.sampler,
                   discretes := u.discretes, channels := u.channels, gauge := u.gauge, monitor := u.monitor,
                   chime := u.chime, lamp := u.lamp, service := u.service, trip := u.trip }

/-- The vehicle constants, odometer and EEPROM requests, served at once: Vehicle Constants Write puts five values in
their ranges in force, rescales each residue whose constant changes and posts the HEADER entry, and is refused in RUN
unless the car stands; EEPROM Write queues a host word of the host area while fewer than four wait; the reads answer
what stands and change nothing, EEPROM Read being refused while a write is in flight. The model's choices: the one write
state of an entry both waiting and in flight is a free value (log entry 35), and a bad argument is answered BAD_ARGUMENT
where the part's state refuses the request too (log entry 43). -/
def Obligations.ConstantsAndEepromRequests : Prop :=
  ∀ s : State, s.ready →
    let t := s.frameActivity
    let waits := fun p : Entry → Bool => s.eeprom.queue.any p
    let flies := fun p : FlightKind → Bool => (s.eeprom.flight.map fun f => p f.kind).getD false
    let writing := fun a b : Bool =>
      if a && b then (if Config.reportWaiting then 1 else 2) else if a then 1 else if b then 2 else 0
    (∀ (kvss cinj : Word) (ppr : Byte) (consumption : Word) (reserve : Byte),
      let inRange := (500 ≤ kvss.toNat ∧ kvss.toNat ≤ 25000) ∧ 256 ≤ cinj.toNat ∧ (1 ≤ ppr.toNat ∧ ppr.toNat ≤ 8) ∧
        (20 ≤ consumption.toNat ∧ consumption.toNat ≤ 500) ∧ reserve.toNat ≤ 200
      let standing := s.channels.records[0].value = 0 ∧ s.channels.records[0].validity = .valid
      let scaled := fun r old new : Nat => if old = new then r else r * new / old
      (¬ inRange →
        exec (.vehicleConstantsWrite kvss cinj ppr consumption reserve) s = .next (t.replied 0x08 3 [])) ∧
      (inRange → s.power.state = .run → ¬ standing →
        exec (.vehicleConstantsWrite kvss cinj ppr consumption reserve) s = .next (t.replied 0x08 2 [])) ∧
      (inRange → (s.power.state ≠ .run ∨ standing) →
        exec (.vehicleConstantsWrite kvss cinj ppr consumption reserve) s = .next (({ t with
          consts := { kvss := kvss.toNat, cinj := cinj.toNat, ppr := ppr.toNat, consumption := consumption.toNat,
                      reserve := reserve.toNat, origin := .written },
          accum := { s.accum with rd := scaled s.accum.rd s.consts.kvss kvss.toNat,
                                  rf := scaled s.accum.rf s.consts.cinj cinj.toNat,
                                  rr := scaled s.accum.rr s.consts.ppr ppr.toNat },
          eeprom := { s.eeprom with queue := if Entry.header ∈ s.eeprom.queue then s.eeprom.queue
                                             else s.eeprom.queue ++ [.header] } } : State).replied 0x08 0 []))) ∧
    exec .vehicleConstantsRead s = .next (t.replied 0x09 0
      (bytes2 s.consts.kvss ++ bytes2 s.consts.cinj ++ [byte s.consts.ppr] ++ bytes2 s.consts.consumption ++
        [byte s.consts.reserve, match s.consts.origin with | .header => 0 | .defaults => 1 | .written => 2,
         byte (writing (waits fun e => e == .header) (flies fun k => k == .header))])) ∧
    (let waiting := waitingOdometer s.eeprom.queue
     let flying := flyingOdometer s.eeprom.flight
     let w := writing waiting.isSome flying.isSome
     exec .odometerRead s = .next (t.replied 0x3B 0
      (bytes4 s.accum.total ++
        (match s.accum.newestSlot with
          | some k => byte k.val :: bytes4 s.accum.newestValue
          | none => 255 :: bytes4 0) ++
        [byte w] ++ bytes4 (if w = 1 then waiting.getD 0 else if w = 2 then flying.getD 0 else 0)))) ∧
    (∀ first count : Byte,
      let bad := 127 < first.toNat ∨ count.toNat = 0 ∨ 16 < count.toNat ∨ 128 < first.toNat + count.toNat
      (bad → exec (.eepromRead first count) s = .next (t.replied 0x0A 3 [])) ∧
      (¬ bad → s.eeprom.flight ≠ none → exec (.eepromRead first count) s = .next (t.replied 0x0A 1 [])) ∧
      (¬ bad → s.eeprom.flight = none → exec (.eepromRead first count) s = .next (t.replied 0x0A 0
        ((List.range count.toNat).flatMap fun k => wordBytes (readWord s.eeprom.memory (first.toNat + k)))))) ∧
    (∀ (address : Byte) (value : Word),
      let inHostArea := 50 ≤ address.toNat ∧ address.toNat ≤ 127
      let hostWords := (s.eeprom.queue.filter fun e => match e with | .host _ _ => true | _ => false).length
      (¬ inHostArea → exec (.eepromWrite address value) s = .next (t.replied 0x0B 3 [])) ∧
      (inHostArea → 4 ≤ hostWords → exec (.eepromWrite address value) s = .next (t.replied 0x0B 1 [])) ∧
      (inHostArea → hostWords < 4 → exec (.eepromWrite address value) s = .next (({ t with
        eeprom := { s.eeprom with queue := s.eeprom.queue ++ [.host address.toNat value] } } : State).replied
          0x0B 0 [])))

/-- The input requests, served at once. Pulse Input Configure refuses an index or a loss code above 3; a change of
filter or selection restarts the input's filter at the pin level the command brings and clears the window of SPD or TAC but for
its timeout, and in RUN the on-time counted so far is kept for INJ. Analog Input Configure stores sound settings and
empties the sum. Discrete Input Configure stores the settings and reports a change of the active state. Discrete Read
answers the active states and the pin levels and changes nothing. The model's choices: the moment at which a filter
restarts, and up to which the on-time is reckoned, is the tick plus the operand, never falling (log entry 7), and the pins
are found there as at a tick (log entry 8). -/
def Obligations.InputRequests : Prop :=
  ∀ s : State, s.ready →
    let t := s.frameActivity
    (∀ (input filter selection loss : Byte) (m : Moment),
      let t := (atMoment s m).frameActivity
      let bad := 3 < input.toNat ∨ 3 < loss.toNat
      let on := decide (filter ≠ 0)
      let sel := decide (selection ≠ 0)
      let same := fun p : PulseInput => p.filterOn = on ∧ p.selection = sel
      let set := fun p : PulseInput =>
        if p.filterOn = on ∧ p.selection = sel then p
        else { p with filterOn := on, selection := sel, accepted := p.pin, pending := none, stood := some t.now }
      let timeout := 64000 * 2 ^ loss.toNat
      let win := fun (p : PulseInput) (w : Window) =>
        if p.filterOn = on ∧ p.selection = sel then { w with loss := timeout }
        else { Window.initial with loss := timeout }
      let done := fun u : PulseUnit => ({ t with pulse := u } : State).replied 0x13 0 []
      (bad → exec (.pulseInputConfigure input filter selection loss m) s = .next (t.replied 0x13 3 [])) ∧
      (¬ bad → input = 0 → exec (.pulseInputConfigure input filter selection loss m) s = .next (done
        { t.pulse with spd := set t.pulse.spd, spdWindow := win t.pulse.spd t.pulse.spdWindow })) ∧
      (¬ bad → input = 1 → exec (.pulseInputConfigure input filter selection loss m) s = .next (done
        { t.pulse with tac := set t.pulse.tac, tacWindow := win t.pulse.tac t.pulse.tacWindow })) ∧
      (¬ bad → input = 2 → exec (.pulseInputConfigure input filter selection loss m) s = .next (done
        { t.pulse with inj := set t.pulse.inj,
                       onTime := if s.power.state = .run then t.pulse.onTimeAt t.now else t.pulse.onTime,
                       injMark := if s.power.state = .run then t.now else t.pulse.injMark })) ∧
      (¬ bad → input = 3 → exec (.pulseInputConfigure input filter selection loss m) s = .next (done
        { t.pulse with idx := set t.pulse.idx }))) ∧
    (∀ (input curve : Byte) (low high : Word) (d shift : Byte) (threshold : Word),
      let bad := 5 < input.toNat ∨ (12 ≤ curve.toNat ∧ curve.toNat ≤ 254) ∨ high.toNat ≤ low.toNat ∨ d.toNat = 0 ∨
        50 < d.toNat ∨ 10 < shift.toNat
      (bad → exec (.analogInputConfigure input curve low high d shift threshold) s = .next (t.replied 0x12 3 [])) ∧
      (∀ (i : Fin 6) (c : Option (Fin 12)), ¬ bad → input.toNat = i.val → curve = indexByte c →
        exec (.analogInputConfigure input curve low high d shift threshold) s =
          (let a : AnalogInput := { s.sampler.inputs[i] with
            curve := c, low := low.toNat, high := high.toNat, decimation := d.toNat, shift := shift.toNat,
            threshold := threshold.toNat, sum := 0, count := 0 }
           .next (({ t with sampler := { s.sampler with inputs := s.sampler.inputs.set i a } } : State).replied
             0x12 0 [])))) ∧
    (∀ input polarity debounce wake : Byte,
      let bad := 11 < input.toNat ∨ debounce.toNat < 5
      (bad → exec (.discreteInputConfigure input polarity debounce wake) s = .next (t.replied 0x14 3 [])) ∧
      (∀ k : Fin 12, ¬ bad → input.toNat = k.val →
        exec (.discreteInputConfigure input polarity debounce wake) s =
          (let d : Discrete := { s.discretes.inputs[k] with
            activeHigh := decide (polarity ≠ 0), debounce := debounce.toNat, wake := decide (wake ≠ 0) }
           .next (({ t with discretes := { s.discretes with inputs := s.discretes.inputs.set k d } } : State).replied
             0x14 0 [])))) ∧
    (let active := fun k : Nat => if h : k < 12 then s.discretes.inputs[k].level == s.discretes.inputs[k].activeHigh
       else k == 12 && s.discretes.ign.level
     let pins := fun k : Nat => if h : k < 12 then s.discretes.inputs[k].pin else k == 12 && s.discretes.ign.pin
     let word := fun f : Nat → Bool => bytes2 ((List.range 13).map fun k => if f k then 2 ^ k else 0).sum
     exec .discreteRead s = .next (t.replied 0x1A 0 (word active ++ word pins)))

/-- The channel requests, served at once: Channel Hold stores the clamped hold value in RUN; Channel Release removes a
hold; Channel Put makes an EXT channel VALID at the value and restarts its freshness timer from a setting that is not
0; External Channel Configure stores the setting and withdraws, restarts or stops; Channel Read answers both faces of
the channels from the first on. Each refuses a channel that is not its own, and nothing else changes. A hold of a bad
channel outside RUN is answered BAD_ARGUMENT (the model's choice, log entry 43). -/
def Obligations.ChannelRequests : Prop :=
  ∀ s : State, s.ready →
    let t := s.frameActivity
    let records := fun (c : Fin 16) (r : Channel) =>
      ({ t with channels := { s.channels with records := s.channels.records.set c r } } : State)
    (∀ (channel : Byte) (value : Word),
      (15 < channel.toNat → exec (.channelHold channel value) s = .next (t.replied 0x16 3 [])) ∧
      (∀ c : Fin 16, channel.toNat = c.val →
        (s.power.state ≠ .run → exec (.channelHold channel value) s = .next (t.replied 0x16 2 [])) ∧
        (s.power.state = .run → exec (.channelHold channel value) s =
          .next ((records c { s.channels.records[c] with
            hold := some (min value.toNat (channelTop c)) }).replied 0x16 0 [])))) ∧
    (∀ channel : Byte,
      (15 < channel.toNat → exec (.channelRelease channel) s = .next (t.replied 0x17 3 [])) ∧
      (∀ c : Fin 16, channel.toNat = c.val → exec (.channelRelease channel) s =
        .next ((records c { s.channels.records[c] with hold := none }).replied 0x17 0 []))) ∧
    (∀ (channel : Byte) (value : Word),
      (channel.toNat < 11 ∨ 15 < channel.toNat → exec (.channelPut channel value) s = .next (t.replied 0x18 3 [])) ∧
      (∀ e : Fin 5, channel.toNat = 11 + e.val →
        let c : Fin 16 := ⟨11 + e.val, by omega⟩
        let old := s.channels.freshness[e]
        let r := s.channels.records[c]
        let u : State := { t with channels :=
          { records := s.channels.records.set c { r with value := value.toNat, validity := .valid },
            freshness := s.channels.freshness.set e
              { old with timer := if old.setting = 0 then none else some (old.setting * 100) } } }
        exec (.channelPut channel value) s =
          .next ((if r.validity = .valid then u else u.notify (.channel c) 0).replied 0x18 0 []))) ∧
    (∀ channel freshness withdraw : Byte,
      (channel.toNat < 11 ∨ 15 < channel.toNat →
        exec (.externalChannelConfigure channel freshness withdraw) s = .next (t.replied 0x19 3 [])) ∧
      (∀ e : Fin 5, channel.toNat = 11 + e.val →
        let c : Fin 16 := ⟨11 + e.val, by omega⟩
        let r := s.channels.records[c]
        let set := fun (r' : Channel) (timer : Option Nat) => ({ t with channels :=
          { records := s.channels.records.set c r',
            freshness := s.channels.freshness.set e { setting := freshness.toNat, timer := timer } } } : State)
        (withdraw ≠ 0 → exec (.externalChannelConfigure channel freshness withdraw) s =
          (let u := set { r with validity := .absent } none
           .next ((if r.validity = .absent then u else u.notify (.channel c) 3).replied 0x19 0 []))) ∧
        (withdraw = 0 → exec (.externalChannelConfigure channel freshness withdraw) s =
          .next ((set r (if r.validity = .valid ∧ freshness.toNat ≠ 0 then some (freshness.toNat * 100)
                         else none)).replied 0x19 0 [])))) ∧
    (∀ first count : Byte,
      let bad := 15 < first.toNat ∨ count.toNat = 0 ∨ 5 < count.toNat ∨ 16 < first.toNat + count.toNat
      (bad → exec (.channelRead first count) s = .next (t.replied 0x15 3 [])) ∧
      (¬ bad → exec (.channelRead first count) s = .next (t.replied 0x15 0
        (((List.finRange 16).filter fun c => decide (first.toNat ≤ c.val ∧ c.val < first.toNat + count.toNat)).flatMap
          fun c =>
            let r := s.channels.records[c]
            let face := fun p : Nat × Validity => bytes2 p.1 ++ [byte (validityCode p.2)]
            byte c.val :: face (r.value, r.validity) ++ face (match r.hold with
              | some h => (h, .held)
              | none => (r.value, r.validity))))))

/-- Curves and gauges, served at once: Curve Load replaces a curve whole by 2 to 8 points of rising x, its checks in
their order; Curve Read answers the points; Gauge Configure stores sound settings, an r_hi below r_lo as r_lo, parks a
gauge whose source is none and closes a sweep it leaves empty; Gauge Read answers the gauge and the sweep; Sweep Start
sends the ARMED gauges to SWEEP_UP and drives the 1 ms pulse, and is refused with none ARMED. How SYNC's filter sees the
line pulled low is the model's choice (log entries 7, 8, 30). -/
def Obligations.CurveAndGaugeRequests : Prop :=
  ∀ s : State, s.ready →
    let t := s.frameActivity
    (∀ (curve count : Byte) (points : List (Word × Word)),
      let loaded := points.map fun p => (p.1.toNat, p.2.toNat)
      (points.length ≠ count.toNat → exec (.curveLoad curve count points) s = .next (t.replied 0x10 6 [])) ∧
      (points.length = count.toNat →
        (11 < curve.toNat ∨ count.toNat < 2 ∨ 8 < count.toNat ∨ ¬ (loaded.map Prod.fst).Pairwise (· < ·)) →
        exec (.curveLoad curve count points) s = .next (t.replied 0x10 3 [])) ∧
      (∀ c : Fin 12, points.length = count.toNat → curve.toNat = c.val → 2 ≤ count.toNat → count.toNat ≤ 8 →
        (loaded.map Prod.fst).Pairwise (· < ·) →
        exec (.curveLoad curve count points) s =
          .next (({ t with curves := s.curves.set c loaded } : State).replied 0x10 0 []))) ∧
    (∀ curve : Byte,
      (11 < curve.toNat → exec (.curveRead curve) s = .next (t.replied 0x11 3 [])) ∧
      (∀ c : Fin 12, curve.toNat = c.val → exec (.curveRead curve) s = .next (t.replied 0x11 0
        (byte s.curves[c].length :: s.curves[c].flatMap fun p => bytes2 p.1 ++ bytes2 p.2)))) ∧
    (∀ (gauge : Byte) (f : GaugeFields) (delay : Word),
      let bad := 5 < gauge.toNat ∨ (16 ≤ f.source.toNat ∧ f.source.toNat ≤ 254) ∨
        (12 ≤ f.curve.toNat ∧ f.curve.toNat ≤ 254) ∨ 1023 < f.rest.toNat ∨ 1 < f.faultMode.toNat ∨
        1 < f.sweep.toNat ∨ f.rLo.toNat = 0 ∨ f.accel.toNat = 0 ∨ f.rHi.toNat = 0 ∨ 1023 < f.rHi.toNat ∨
        63 < f.deadband.toNat ∨ (256 ≤ delay.toNat ∧ delay.toNat ≤ 65534)
      (bad → exec (.gaugeConfigure gauge f delay) s = .next (t.replied 0x20 3 [])) ∧
      (∀ (k : Fin 6) (source : Option (Fin 16)) (curve : Option (Fin 12)), ¬ bad → gauge.toNat = k.val →
        f.source = indexByte source → f.curve = indexByte curve →
        let g := s.gauge.gauges[k]
        let config : GaugeConfig :=
          { source := source, curve := curve, rest := f.rest.toNat, faultRest := decide (f.faultMode = 1),
            rLo := f.rLo.toNat, rHi := if f.rHi.toNat < f.rLo.toNat then f.rLo.toNat else f.rHi.toNat,
            accel := f.accel.toNat, deadband := f.deadband.toNat, sweep := decide (f.sweep = 1) }
        let g' : Gauge := if source = none then
            { g with config := config, mode := .parked, v := 0, sine := { g.sine with duty := 0 },
                     cosine := { g.cosine with duty := 0 } }
          else { g with config := config }
        let gs := s.gauge.gauges.set k g'
        let w : Sweep := { s.gauge.sweep with
          delay := if delay.toNat = 65535 then s.gauge.sweep.delay else delay.toNat }
        let closes := w.isOpen = true ∧ ∀ j : Fin 6, gs[j].mode ≠ .armed ∧ gs[j].mode ≠ .sweepUp ∧
          gs[j].mode ≠ .sweepDown
        let u : State := { t with gauge := { s.gauge with gauges := gs, sweep := w } }
        (¬ closes → exec (.gaugeConfigure gauge f delay) s = .next (u.replied 0x20 0 [])) ∧
        (closes → exec (.gaugeConfigure gauge f delay) s = .next ((State.notify
          { u with gauge := { u.gauge with sweep := { w with isOpen := false, delayTimer := none, timeout := none } } }
          .sweep (sweepValue w)).replied 0x20 0 [])))) ∧
    (∀ gauge : Byte,
      (5 < gauge.toNat → exec (.gaugeRead gauge) s = .next (t.replied 0x21 3 [])) ∧
      (∀ k : Fin 6, gauge.toNat = k.val → exec (.gaugeRead gauge) s = .next (t.replied 0x21 0
        (let g := s.gauge.gauges[k]
         let w := s.gauge.sweep
         let flag := fun b : Bool => if b then (1 : Byte) else 0
         [indexByte g.config.source, indexByte g.config.curve] ++ bytes2 g.config.rest ++
          [flag g.config.faultRest, byte g.config.rLo] ++ bytes2 g.config.rHi ++
          [byte g.config.accel, byte g.config.deadband, flag g.config.sweep, byte (modeCode g.mode)] ++
          bytes2 g.p ++ bytes2 g.v ++ [flag g.down] ++ bytes2 g.target ++ bytes2 (angleCount g.p) ++
          [byte g.sine.duty, byte g.cosine.duty,
           BitVec.ofNat 8 ((if g.sine.negative then 1 else 0) + (if g.cosine.negative then 2 else 0)),
           byte w.delay, flag w.isOpen] ++
          bytes2 (w.delayTimer.getD 65535) ++ bytes2 (w.timeout.getD 65535) ++
          [BitVec.ofNat 8 ((List.finRange 6).map fun k => if w.completed[k] then 2 ^ k.val else 0).sum,
           match w.cause with | .none => 0 | .request => 1 | .delay => 2 | .sync => 3])))) ∧
    (let armed := ∃ k : Fin 6, s.gauge.gauges[k].mode = .armed
     (¬ armed → exec .sweepStart s = .next (t.replied 0x22 2 [])) ∧
     (armed → ∃ u : State, exec .sweepStart s = .next (u.replied 0x22 0 []) ∧
      (∀ k : Fin 6, u.gauge.gauges[k] = { s.gauge.gauges[k] with
        mode := if s.gauge.gauges[k].mode = .armed then .sweepUp else s.gauge.gauges[k].mode }) ∧
      u = { t with gauge := { s.gauge with
        gauges := u.gauge.gauges, sweep := { s.gauge.sweep with cause := .request }, syncPulse := some 1,
        sync := syncPulled t } }))

/-- The monitor requests, served at once: Monitor Configure refuses unsound settings and else stores them and sets the
monitor going afresh, its claim and request gone and its snapshot kept; Monitor Read answers the settings or the
state, with passes of 255 where no chime request stands (the model's choice, log entry 23); Monitor Acknowledge, of one
monitor, refuses one that does not warn, restarts the reminder of one already acknowledged, and else acknowledges it,
turns its claim to ON and withdraws its request, a latching one whose condition has gone being released; of ALL, it does
so to every monitor that warns and answers how many did; Monitor Clear Snapshot removes one snapshot or all. -/
def Obligations.MonitorRequests : Prop :=
  ∀ s : State, s.ready →
    let t := s.frameActivity
    let setting := fun (i : Fin 16) (m : Monitor) =>
      ({ t with monitor := { t.monitor with monitors := s.monitor.monitors.set i m } } : State)
    let claims := fun (i : Fin 16) (lamp : Byte) (c : Option LampMode) (u : State) =>
      (∀ (l : Fin 12) (x : Fin 23), u.lamp.claim l x =
        if x = monitorClaim i ∧ lamp.toNat = l.val then c else s.lamp.claim l x) ∧
      u.lamp = { t.lamp with claims := u.lamp.claims }
    (∀ (monitor : Byte) (f : MonitorFields),
      (15 < monitor.toNat → exec (.monitorConfigure monitor f) s = .next (t.replied 0x28 3 [])) ∧
      (∀ i : Fin 16, monitor.toNat = i.val →
        (monitorUnsound i f s → exec (.monitorConfigure monitor f) s = .next (t.replied 0x28 3 [])) ∧
        (¬ monitorUnsound i f s → ∃ u : State, exec (.monitorConfigure monitor f) s = .next (u.replied 0x28 0 []) ∧
          claims i s.monitor.monitors[i].config.lamp none u ∧
          u = { setting i { s.monitor.monitors[i] with
                  config := f, state := if f.enabled = 0 then .off else .clear, acked := false, raw := false,
                  assertTimer := none, releaseTimer := none, reminderTimer := none } with
                lamp := u.lamp,
                chime := { s.chime with queue := withdrawn (monitorSource i) s.chime.queue } }))) ∧
    (∀ monitor part : Byte,
      (15 < monitor.toNat ∨ 1 < part.toNat → exec (.monitorRead monitor part) s = .next (t.replied 0x29 3 [])) ∧
      (∀ i : Fin 16, monitor.toNat = i.val →
        (part = 0 → exec (.monitorRead monitor part) s = .next (t.replied 0x29 0
          (monitorBytes s.monitor.monitors[i].config))) ∧
        (part = 1 → exec (.monitorRead monitor part) s = .next (t.replied 0x29 0
          (let m := s.monitor.monitors[i]
           let r := s.chime.queue.find? fun q => q.source = monitorSource i
           let claim := if h : m.config.lamp.toNat < 12 then
             s.lamp.claim ⟨m.config.lamp.toNat, h⟩ (monitorClaim i) else none
           [byte (monitorCode m.state),
            BitVec.ofNat 8 ((if m.acked then 1 else 0) + (if m.raw then 2 else 0) +
              (if m.snapshot = none then 0 else 4))] ++
           bytes2 (m.assertTimer.getD 65535) ++ bytes2 (m.releaseTimer.getD 65535) ++
           bytes4 (m.reminderTimer.getD 4294967295) ++
           [match claim with | none => (0 : Byte) | some .on => 1 | some .flash => 2] ++
           (match r with | none => [(0 : Byte), 255] | some q => [if q.playing then 2 else 1, byte q.passes]) ++
           (match m.snapshot with
            | none => [(0 : Byte), 0, 0, 0, 0, 0, 0]
            | some x => bytes4 x.total ++ bytes2 x.value ++ [byte (validityCode x.validity)])))))) ∧
    (∀ monitor : Byte,
      (15 < monitor.toNat → monitor ≠ 255 → exec (.monitorAcknowledge monitor) s = .next (t.replied 0x2A 3 [])) ∧
      (∀ i : Fin 16, monitor.toNat = i.val →
        let m := s.monitor.monitors[i]
        let timer := if m.config.reminder = 0 then m.reminderTimer else some (m.config.reminder.toNat * 600)
        let acked : Monitor := { m with acked := true, reminderTimer := timer }
        let warns := m.state = .active ∨ m.state = .releasing
        let releases := m.config.latching ≠ 0 ∧ m.state = .active ∧ m.raw = false
        let acts := fun (m' : Monitor) (u : State) => claims i m.config.lamp (some .on) u ∧
          u = { setting i m' with
                lamp := u.lamp, chime := { s.chime with queue := withdrawn (monitorSource i) s.chime.queue } }
        (¬ warns → exec (.monitorAcknowledge monitor) s = .next (t.replied 0x2A 2 [])) ∧
        (warns → m.acked = true → exec (.monitorAcknowledge monitor) s =
          .next ((setting i { m with reminderTimer := timer }).replied 0x2A 0 [])) ∧
        (warns → m.acked = false → ¬ releases → ∃ u : State,
          exec (.monitorAcknowledge monitor) s = .next (u.replied 0x2A 0 []) ∧ acts acked u) ∧
        (warns → m.acked = false → releases → m.config.releaseDelay ≠ 0 → ∃ u : State,
          exec (.monitorAcknowledge monitor) s = .next (u.replied 0x2A 0 []) ∧
          acts { acked with state := .releasing, releaseTimer := some m.config.releaseDelay.toNat } u) ∧
        (warns → m.acked = false → releases → m.config.releaseDelay = 0 → ∃ u : State,
          exec (.monitorAcknowledge monitor) s = .next (u.replied 0x2A 0 []) ∧
          monitorClears t i { acked with state := .clear, acked := false, releaseTimer := none,
                                         reminderTimer := none } u))) ∧
    (let warns := fun i : Fin 16 =>
       decide (s.monitor.monitors[i].state = .active ∨ s.monitor.monitors[i].state = .releasing)
     let fresh := fun i : Fin 16 => warns i && !s.monitor.monitors[i].acked
     let releases := fun i : Fin 16 => fresh i && decide (s.monitor.monitors[i].config.latching ≠ 0 ∧
       s.monitor.monitors[i].state = .active ∧ s.monitor.monitors[i].raw = false)
     let clears := fun i : Fin 16 => releases i && decide (s.monitor.monitors[i].config.releaseDelay = 0)
     let reports := fun i : Fin 16 => clears i && decide (s.monitor.monitors[i].config.notice ≠ 0)
     ∃ u : State, exec (.monitorAcknowledge 255) s = .next (u.replied 0x2A 0
        [byte ((List.finRange 16).filter warns).length]) ∧
      (∀ i : Fin 16, u.monitor.monitors[i] =
        (let m := s.monitor.monitors[i]
         let timer := if m.config.reminder = 0 then m.reminderTimer else some (m.config.reminder.toNat * 600)
         if clears i then { m with state := .clear, acked := false, releaseTimer := none, reminderTimer := none }
         else if releases i then
           { m with acked := true, reminderTimer := timer, state := .releasing,
                    releaseTimer := some m.config.releaseDelay.toNat }
         else if warns i then { m with acked := true, reminderTimer := timer }
         else m)) ∧
      (∀ (i : Fin 16) (l : Fin 12), u.lamp.claim l (monitorClaim i) =
        if fresh i = true ∧ s.monitor.monitors[i].config.lamp.toNat = l.val then
          (if clears i then none else some .on)
        else s.lamp.claim l (monitorClaim i)) ∧
      (∀ (l : Fin 12) (c : Fin 23), (∀ i : Fin 16, c ≠ monitorClaim i) → u.lamp.claim l c = s.lamp.claim l c) ∧
      u.chime = { s.chime with
        queue := s.chime.queue.filterMap fun r =>
          if (∃ i : Fin 16, r.source = monitorSource i ∧ fresh i = true) then
            (if r.playing then some { r with stop := .withdraw } else none)
          else some r } ∧
      (∀ i : Fin 16, reports i = true →
        u.posted (.monitor i) (BitVec.ofNat 16 (1 + if s.monitor.monitors[i].snapshot = none then 0 else 512))) ∧
      (let others := fun n : Notice => decide (∀ i : Fin 16, reports i = true → n.key ≠ .monitor i)
       u.notices.filter others = t.notices.filter others) ∧
      u = { t with monitor := { t.monitor with monitors := u.monitor.monitors },
                   lamp := { t.lamp with claims := u.lamp.claims }, chime := u.chime, notices := u.notices }) ∧
    (∀ monitor : Byte,
      (15 < monitor.toNat → monitor ≠ 255 → exec (.monitorClearSnapshot monitor) s = .next (t.replied 0x2B 3 [])) ∧
      (∀ i : Fin 16, monitor.toNat = i.val → exec (.monitorClearSnapshot monitor) s =
        .next ((setting i { s.monitor.monitors[i] with snapshot := none }).replied 0x2B 0 []))) ∧
    (∃ u : State, exec (.monitorClearSnapshot 255) s = .next (u.replied 0x2B 0 []) ∧
      (∀ i : Fin 16, u.monitor.monitors[i] = { s.monitor.monitors[i] with snapshot := none }) ∧
      u = { t with monitor := { t.monitor with monitors := u.monitor.monitors } })

/-- The chime requests, served at once in a sound chime unit: Chime Post refuses a bad slot or an empty pattern, clamps
the priority and the passes, places a new request at the newest end, which plays at once when the sequencer is IDLE and
may cut a lower one when it is PLAYING, or acts on the request of its slot in place, with the same test of the PLAYING
request (the model's reading, log entry 22); the patterns are P0 to P7 of 7.3 and the four loaded; Chime Withdraw
withdraws the slots named and answers how many had a
request; Pattern Load checks in order and replaces a loadable pattern whole; Chime Read answers the sequencer and a page
of the queue. -/
def Obligations.ChimeRequests : Prop :=
  ∀ s : State, s.ready → s.chimeSound →
    let t := s.frameActivity
    let chime := fun u : ChimeUnit => ({ t with chime := u } : State)
    (s.chime.steps 0 = [⟨3, 40⟩] ∧ s.chime.steps 1 = [⟨3, 40⟩, ⟨0, 15⟩, ⟨2, 40⟩] ∧
      s.chime.steps 2 = [⟨1, 60⟩, ⟨0, 90⟩] ∧ s.chime.steps 3 = [⟨4, 10⟩, ⟨0, 10⟩] ∧
      s.chime.steps 4 = [⟨4, 1⟩, ⟨0, 49⟩] ∧ s.chime.steps 5 = [⟨1, 15⟩, ⟨2, 15⟩, ⟨3, 30⟩] ∧
      s.chime.steps 6 = [⟨4, 20⟩, ⟨3, 20⟩] ∧ s.chime.steps 7 = [⟨2, 20⟩, ⟨0, 180⟩] ∧
      ∀ k : Fin 4, s.chime.steps ⟨8 + k.val, by omega⟩ = s.chime.loaded[k]) ∧
    (∀ slot pattern priority passes : Byte,
      let cmd := Instr.chimePost slot pattern priority passes
      let level := if 7 < priority.toNat then 7 else priority.toNat
      let count := if 15 < passes.toNat then 15 else passes.toNat
      (3 < slot.toNat ∨ 11 < pattern.toNat → exec cmd s = .next (t.replied 0x30 3 [])) ∧
      (∀ (j : Fin 4) (p : Fin 12), slot.toNat = j.val → pattern.toNat = p.val →
        let source : Fin 26 := ⟨22 + j.val, by omega⟩
        let preempted := fun q : List ChimeRequest => q.map fun r =>
          if r.playing = true ∧ r.source ≠ source ∧ r.stop = .none ∧ 6 ≤ level ∧ r.priority < level then
            { r with stop := .cut } else r
        let queued := s.chime.queue ++ [{ source := source, pattern := p, priority := level, passes := count,
                                          playing := false, reposted := false, stop := .none }]
        (s.chime.steps p = [] → exec cmd s = .next (t.replied 0x30 3 [])) ∧
        (s.chime.steps p ≠ [] → (∀ r ∈ s.chime.queue, r.source ≠ source) →
          (s.chime.sequencer = .idle → ∃ u : ChimeUnit, exec cmd s = .next ((chime u).replied 0x30 0 []) ∧
            selects { s.chime with queue := queued } u) ∧
          (∀ left, s.chime.sequencer = .gap left → exec cmd s =
            .next ((chime { s.chime with queue := queued }).replied 0x30 0 [])) ∧
          (∀ steps k left, s.chime.sequencer = .playing steps k left → exec cmd s =
            .next ((chime { s.chime with queue := preempted queued }).replied 0x30 0 []))) ∧
        (∀ front r rest, s.chime.steps p ≠ [] → s.chime.queue = front ++ r :: rest → r.source = source →
          let r' : ChimeRequest := { r with
            pattern := p, priority := level, passes := count, reposted := r.playing || r.reposted,
            stop := if r.stop = .withdraw then .none else r.stop }
          let reposted :=
            if r.pattern = p ∧ r.priority = level then front ++ r' :: rest else front ++ rest ++ [r']
          exec cmd s = .next ((chime { s.chime with queue := preempted reposted }).replied 0x30 0 [])))) ∧
    (∀ slot : Byte,
      let has := fun j : Fin 4 => s.chime.queue.any fun r => decide (r.source.val = 22 + j.val)
      (3 < slot.toNat → slot ≠ 255 → exec (.chimeWithdraw slot) s = .next (t.replied 0x31 3 [])) ∧
      (∀ j : Fin 4, slot.toNat = j.val → exec (.chimeWithdraw slot) s =
        .next ((chime { s.chime with queue := withdrawn ⟨22 + j.val, by omega⟩ s.chime.queue }).replied 0x31 0
          [if has j then 1 else 0])) ∧
      (slot = 255 →
        let leaves := fun r : ChimeRequest =>
          if 22 ≤ r.source.val then (if r.playing then some { r with stop := StopOrder.withdraw } else none)
          else some r
        exec (.chimeWithdraw slot) s =
          .next ((chime { s.chime with queue := s.chime.queue.filterMap leaves }).replied 0x31 0
            [byte ((List.finRange 4).filter has).length]))) ∧
    (∀ (pattern count : Byte) (steps : List (Byte × Byte)),
      let bad := pattern.toNat < 8 ∨ 11 < pattern.toNat ∨ count.toNat < 1 ∨ 6 < count.toNat ∨
        ∃ x ∈ steps, 4 < x.1.toNat ∨ x.2.toNat = 0
      (steps.length ≠ count.toNat → exec (.patternLoad pattern count steps) s = .next (t.replied 0x32 6 [])) ∧
      (steps.length = count.toNat → bad → exec (.patternLoad pattern count steps) s = .next (t.replied 0x32 3 [])) ∧
      (∀ k : Fin 4, steps.length = count.toNat → ¬ bad → pattern.toNat = 8 + k.val →
        let loaded : List ToneStep := steps.map fun x => { tone := x.1.toNat, duration := x.2.toNat }
        exec (.patternLoad pattern count steps) s =
          .next ((chime { s.chime with loaded := s.chime.loaded.set k loaded }).replied 0x32 0 []))) ∧
    (∀ first : Byte,
      (25 < first.toNat → exec (.chimeRead first) s = .next (t.replied 0x33 3 [])) ∧
      (first.toNat ≤ 25 →
        let page := (s.chime.queue.drop first.toNat).take 6
        let n := byte s.chime.queue.length
        let records := byte page.length :: page.flatMap fun r =>
          [byte r.source.val, byte r.pattern.val, byte r.priority, byte r.passes, if r.playing then 1 else 0]
        (s.chime.sequencer = .idle → exec (.chimeRead first) s =
          .next (t.replied 0x33 0 ([0, n, 255, 0, 0, 0, 0] ++ records))) ∧
        (∀ left, s.chime.sequencer = .gap left → exec (.chimeRead first) s =
          .next (t.replied 0x33 0 ([2, n, 255, 0, 0] ++ bytes2 left ++ records))) ∧
        (∀ steps k left r, s.chime.sequencer = .playing steps k left → r ∈ s.chime.queue → r.playing = true →
          exec (.chimeRead first) s =
            .next (t.replied 0x33 0 ([1, n, byte r.source.val, byte k,
              match r.stop with | .none => 0 | .cut => 1 | .withdraw => 2] ++ bytes2 left ++ records)))))

/-- The lamp and trip requests, served at once: Lamp Set adds, changes or removes the link's claim on the lamps named
and no other claim; Lamp Configure stores the dimming discrete; Trip Reset zeroes the trips named and clears their
saturated flags, keeping their paused flags; Trip Control runs, pauses and sets the auto-reset hours; Lamp Read and Trip
Read answer what stands and change nothing, the figures of a trip absent below 60 s and 100 DU. -/
def Obligations.LampAndTripRequests : Prop :=
  ∀ s : State, s.ready →
    let t := s.frameActivity
    (∀ lamp mode : Byte,
      let bad := (12 ≤ lamp.toNat ∧ lamp.toNat ≤ 254) ∨ 2 < mode.toNat
      (bad → exec (.lampSet lamp mode) s = .next (t.replied 0x34 3 [])) ∧
      (¬ bad → ∃ u : State, exec (.lampSet lamp mode) s = .next (u.replied 0x34 0 []) ∧
        (∀ (l : Fin 12) (c : Fin 23), u.lamp.claim l c =
          if c.val = 22 ∧ (lamp = 255 ∨ lamp.toNat = l.val) then
            (if mode = 0 then none else if mode = 1 then some .on else some .flash)
          else s.lamp.claim l c) ∧
        u = { t with lamp := { t.lamp with claims := u.lamp.claims } })) ∧
    (∀ discrete : Byte,
      (12 ≤ discrete.toNat → discrete ≠ 255 → exec (.lampConfigure discrete) s = .next (t.replied 0x35 3 [])) ∧
      (∀ d : Option (Fin 12), discrete = indexByte d → exec (.lampConfigure discrete) s =
        .next (({ t with lamp := { t.lamp with dimming := d } } : State).replied 0x35 0 []))) ∧
    (∀ lamp : Byte,
      (11 < lamp.toNat → exec (.lampRead lamp) s = .next (t.replied 0x36 3 [])) ∧
      (∀ l : Fin 12, lamp.toNat = l.val → exec (.lampRead lamp) s = .next (t.replied 0x36 0
        (((List.finRange 12).map fun k => match t.lamp.state k with | .off => (0 : Byte) | .on => 1 | .flash => 2) ++
          (match t.lamp.bulbCheck with | none => [(0 : Byte), 0, 0] | some n => 1 :: bytes2 n) ++
          [match t.lamp.flash with | some f => if f.lit then (0 : Byte) else 1 | none => 2,
           match t.lamp.dimming with | some d => byte d.val | none => 255, byte t.lamp.duty, lamp] ++
          [LampMode.on, LampMode.flash].flatMap fun m =>
            let n := ((List.finRange 23).map fun c => if t.lamp.claim l c = some m then 2 ^ c.val else 0).sum
            [byte (n / 65536), byte (n / 256), byte n])))) ∧
    (∀ selector : Byte,
      let zero := fun x : Trip => ({ x with distance := 0, fuel := 0, seconds := 0, saturated := false } : Trip)
      (selector = 0 ∨ 3 < selector.toNat → exec (.tripReset selector) s = .next (t.replied 0x39 3 [])) ∧
      (1 ≤ selector.toNat → selector.toNat ≤ 3 → exec (.tripReset selector) s =
        .next (({ t with trip := { s.trip with
          a := if selector = 2 then s.trip.a else zero s.trip.a,
          b := if selector = 1 then s.trip.b else zero s.trip.b } } : State).replied 0x39 0 []))) ∧
    (∀ actionA actionB hours : Byte,
      let bad := 2 < actionA.toNat ∨ 2 < actionB.toNat ∨ (25 ≤ hours.toNat ∧ hours.toNat ≤ 254)
      let act := fun (x : Trip) (a : Byte) =>
        ({ x with paused := if a = 1 then false else if a = 2 then true else x.paused } : Trip)
      (bad → exec (.tripControl actionA actionB hours) s = .next (t.replied 0x3A 3 [])) ∧
      (¬ bad → exec (.tripControl actionA actionB hours) s = .next (({ t with trip := { s.trip with
        a := act s.trip.a actionA, b := act s.trip.b actionB,
        hours := if hours.toNat ≤ 24 then hours.toNat else s.trip.hours } } : State).replied 0x3A 0 []))) ∧
    (∀ selector : Byte,
      let record := fun x : Trip =>
        bytes4 x.distance ++ bytes4 x.fuel ++ bytes4 x.seconds ++
          [BitVec.ofNat 8 ((if x.paused then 1 else 0) + (if x.saturated then 2 else 0))] ++
          bytes2 (if x.seconds < 60 then 65535
                  else min ((2 * (x.distance * 360) + x.seconds) / (2 * x.seconds)) 3000) ++
          bytes2 (if x.distance < 100 then 65535
                  else min ((2 * (x.fuel * 100) + x.distance) / (2 * x.distance)) 999) ++
          bytes4 ((2 * x.fuel + 100) / 200)
      let level := s.channels.records[2]
      let raw := if level.validity = .fault ∨ level.validity = .absent then 65535
        else if level.value ≤ s.consts.reserve then 0
        else if s.trip.rbFuel = 0 then 1999
        else min ((level.value - s.consts.reserve) * s.trip.rbDist / s.trip.rbFuel) 1999
      (2 < selector.toNat → exec (.tripRead selector) s = .next (t.replied 0x38 3 [])) ∧
      (selector = 0 → exec (.tripRead selector) s = .next (t.replied 0x38 0 (record s.trip.a))) ∧
      (selector = 1 → exec (.tripRead selector) s = .next (t.replied 0x38 0 (record s.trip.b))) ∧
      (selector = 2 → exec (.tripRead selector) s = .next (t.replied 0x38 0
        (bytes2 s.trip.rbDist ++ bytes4 s.trip.rbFuel ++ bytes2 raw ++ bytes2 (s.trip.presented.getD 65535) ++
          [byte s.trip.history.length] ++ bytes4 s.trip.history.sum))))

/-- The drum and service requests, served at once: Drum Restart is refused with no drum, clears the miss count and the
index otherwise, and takes a drum in FAULT to STEPPING or IDLE with a DRUM notice; Service Configure refuses unsound
settings and else stores them, recomputes the state and brings claim, request and notice into line; Service Reset, with
the car standing in RUN, zeroes the items named, removes their claims and requests, posts their notices and one SERVICE
entry; the reads answer what stands and change nothing. The model's choices: a Drum Restart leaves a miss that is due and
the coils' clock as they are (log entry 25), a reset of all posts its notices from S0 to S5 (log entry 12), Service Read
gives passes of 255 where no chime request stands (log entry 23), one write state where an entry both waits and is in
flight (log entry 35), and a reset of a bad item is answered BAD_ARGUMENT in every state (log entry 43). -/
def Obligations.DrumAndServiceRequests : Prop :=
  ∀ s : State, s.ready →
    let t := s.frameActivity
    (let d : Drum := { s.drum with missCount := 0, indexKnown := false, sinceIndex := 0 }
     let started : Drum := { d with state := .stepping, coils := true, clock := if d.coils then d.clock else 0,
                                    stepped := d.coils && d.stepped }
     (s.drum.state = .absent → exec .drumRestart s = .next (t.replied 0x3D 2 [])) ∧
     (s.drum.state = .idle ∨ s.drum.state = .stepping →
      exec .drumRestart s = .next (({ t with drum := d } : State).replied 0x3D 0 [])) ∧
     (s.drum.state = .fault → s.drum.debt = 0 → exec .drumRestart s =
      .next ((State.notify { t with drum := { d with state := .idle } } .drum
        (if d.lost then 0x0101 else 0x0001)).replied 0x3D 0 [])) ∧
     (s.drum.state = .fault → s.drum.debt ≠ 0 → exec .drumRestart s =
      .next ((State.notify { t with drum := started } .drum
        (if d.lost then 0x0102 else 0x0002)).replied 0x3D 0 []))) ∧
    (let flag := fun b : Bool => if b then (1 : Byte) else 0
     let d := s.drum
     exec .drumRead s = .next (t.replied 0x3C 0
      ([match d.state with | .absent => (0 : Byte) | .idle => 1 | .stepping => 2 | .fault => 3] ++ bytes2 d.debt ++
        [flag d.lost, byte s.accum.rs, byte d.p, flag d.indexKnown, byte d.missCount, byte d.sinceIndex,
         flag d.coils]))) ∧
    (∀ (item : Byte) (f : ServiceFields),
      (5 < item.toNat ∨ serviceUnsound f s → exec (.serviceConfigure item f) s = .next (t.replied 0x40 3 [])) ∧
      (∀ k : Fin 6, item.toNat = k.val → ¬ serviceUnsound f s → ∃ u : State,
        exec (.serviceConfigure item f) s = .next (u.replied 0x40 0 []) ∧
        (let old := s.service[k]
         let new := u.service[k]
         let due := new.state = .due ∨ new.state = .overdue
         let action := (11 < old.config.pattern.toNat ∧ 11 < f.pattern.toNat) ∨
           (old.config.pattern = f.pattern ∧ old.config.priority = f.priority ∧ old.config.passes = f.passes)
         serviceStateIs { old with config := f } new.state ∧
         u.service = s.service.set k { old with config := f, state := new.state } ∧
         (∀ (l : Fin 12) (c : Fin 23), u.lamp.claim l c =
           if c = serviceClaim k ∧ f.lamp.toNat = l.val then
             (match new.state with | .due => some .on | .overdue => some .flash | _ => none)
           else if c = serviceClaim k ∧ old.config.lamp.toNat = l.val then none
           else s.lamp.claim l c) ∧
         u.chime = { s.chime with queue := if due ∧ action then s.chime.queue
                                           else withdrawn (serviceSource k) s.chime.queue } ∧
         u.notices = (if new.state = old.state then t.notices
                      else (t.notify (.service k) (serviceValue new)).notices) ∧
         u = { t with service := u.service, lamp := { t.lamp with claims := u.lamp.claims }, chime := u.chime,
                      notices := u.notices }))) ∧
    (∀ item : Byte,
      let named := (List.finRange 6).filter fun k => decide (item = 255 ∨ item.toNat = k.val)
      let standing := s.channels.records[0].value = 0 ∧ s.channels.records[0].validity = .valid
      (5 < item.toNat → item ≠ 255 → exec (.serviceReset item) s = .next (t.replied 0x42 3 [])) ∧
      (named ≠ [] → ¬ (s.power.state = .run ∧ standing) → exec (.serviceReset item) s = .next (t.replied 0x42 2 [])) ∧
      (named ≠ [] → s.power.state = .run → standing → ∃ u : State,
        exec (.serviceReset item) s = .next (u.replied 0x42 0 []) ∧
        (∀ k : Fin 6, k ∉ named → u.service[k] = s.service[k]) ∧
        (∀ k ∈ named, u.service[k] = { s.service[k] with sinceDu := 0, sinceDays := 0, sinceKr := 0,
                                                         state := u.service[k].state } ∧
          serviceStateIs u.service[k] u.service[k].state) ∧
        (∀ (l : Fin 12) (c : Fin 23), u.lamp.claim l c =
          if ∃ k ∈ named, c = serviceClaim k ∧ s.service[k].config.lamp.toNat = l.val then none
          else s.lamp.claim l c) ∧
        (let leaves := fun r : ChimeRequest =>
          if ∃ k ∈ named, r.source = serviceSource k then
            (if r.playing then some { r with stop := .withdraw } else none)
          else some r
         u.chime = { s.chime with queue := s.chime.queue.filterMap leaves }) ∧
        u.notices = named.foldl (fun q k => postNotice (.service k) (serviceValue u.service[k]) q) s.notices ∧
        u = { s with service := u.service, lamp := { s.lamp with claims := u.lamp.claims }, chime := u.chime,
                     notices := u.notices,
                     eeprom := { s.eeprom with queue := if Entry.service ∈ s.eeprom.queue then s.eeprom.queue
                                                        else s.eeprom.queue ++ [.service] } })) ∧
    (∀ item : Byte,
      (5 < item.toNat → exec (.serviceRead item) s = .next (t.replied 0x41 3 [])) ∧
      (∀ k : Fin 6, item.toNat = k.val → exec (.serviceRead item) s = .next (t.replied 0x41 0
        (let i := s.service[k]
         let f := i.config
         let level := fun u c : Nat =>
          if u = 0 then (0 : Byte)
          else if u * (100 + f.grace.toNat) ≤ c * 100 then 4
          else if u ≤ c then 3
          else if u * (100 - f.margin.toNat) ≤ c * 100 then 2
          else 1
         let claim := if h : f.lamp.toNat < 12 then s.lamp.claim ⟨f.lamp.toNat, h⟩ (serviceClaim k) else none
         let r := s.chime.queue.find? fun q => q.source = serviceSource k
         let waits := s.eeprom.queue.any fun e => e == .service
         let flies := (s.eeprom.flight.map fun x => x.kind == .service).getD false
         [f.enabled] ++ wordBytes f.km ++ wordBytes f.days ++
          [f.mrev, f.margin, f.grace, f.lamp, f.pattern, f.priority, f.passes] ++
          bytes4 i.sinceDu ++ bytes2 i.sinceDays ++ bytes2 i.sinceKr ++
          [match i.state with | .disabled => (0 : Byte) | .ok => 1 | .early => 2 | .due => 3 | .overdue => 4,
           level (f.km.toNat * 100) i.sinceDu, level f.days.toNat i.sinceDays, level (f.mrev.toNat * 1000) i.sinceKr,
           match claim with | none => 0 | some .on => 1 | some .flash => 2] ++
          (match r with | none => [(0 : Byte), 255] | some q => [if q.playing then 2 else 1, byte q.passes]) ++
          bytes4 s.time.seconds ++ bytes2 s.time.days ++
          [byte (if waits && flies then (if Config.reportWaiting then 1 else 2) else if waits then 1
                 else if flies then 2 else 0)]))))
end

