-- ==== Sys2Proof/Laws/Pulse.lean ====
section
/-!
SUPPORT. What the filters of the pulse inputs and the drum's coil hold do, and the SERVICE word: each definition's small
lemmas.
-/
namespace Sys2Proof.Machine

/-! ## The pulse inputs, field by field -/

@[simp] theorem PulseInput.edge_accepted (p : PulseInput) (t : Stamp) : (p.edge t).accepted = !p.selection := rfl
@[simp] theorem PulseInput.edge_pin (p : PulseInput) (t : Stamp) : (p.edge t).pin = !p.selection := rfl
@[simp] theorem PulseInput.edge_pending (p : PulseInput) (t : Stamp) : (p.edge t).pending = none := rfl
@[simp] theorem PulseInput.edge_stood (p : PulseInput) (t : Stamp) : (p.edge t).stood = some t := rfl
@[simp] theorem PulseInput.edge_selection (p : PulseInput) (t : Stamp) : (p.edge t).selection = p.selection := rfl
@[simp] theorem PulseInput.edge_filterOn (p : PulseInput) (t : Stamp) : (p.edge t).filterOn = p.filterOn := rfl
@[simp] theorem PulseInput.toggle_accepted (p : PulseInput) (t : Stamp) : (p.toggle t).accepted = !p.accepted := rfl
@[simp] theorem PulseInput.toggle_pin (p : PulseInput) (t : Stamp) : (p.toggle t).pin = !p.accepted := rfl
@[simp] theorem PulseInput.toggle_pending (p : PulseInput) (t : Stamp) : (p.toggle t).pending = none := rfl
@[simp] theorem PulseInput.toggle_stood (p : PulseInput) (t : Stamp) : (p.toggle t).stood = some t := rfl
@[simp] theorem PulseInput.toggle_selection (p : PulseInput) (t : Stamp) : (p.toggle t).selection = p.selection := rfl
@[simp] theorem PulseInput.toggle_filterOn (p : PulseInput) (t : Stamp) : (p.toggle t).filterOn = p.filterOn := rfl
@[simp] theorem PulseInput.enable_accepted (p : PulseInput) (t : Stamp) : (p.enable t).accepted = p.pin := rfl
@[simp] theorem PulseInput.enable_pin (p : PulseInput) (t : Stamp) : (p.enable t).pin = p.pin := rfl
@[simp] theorem PulseInput.enable_pending (p : PulseInput) (t : Stamp) : (p.enable t).pending = none := rfl
@[simp] theorem PulseInput.enable_stood (p : PulseInput) (t : Stamp) : (p.enable t).stood = some t := rfl
@[simp] theorem PulseInput.enable_selection (p : PulseInput) (t : Stamp) : (p.enable t).selection = p.selection := rfl
@[simp] theorem PulseInput.enable_filterOn (p : PulseInput) (t : Stamp) : (p.enable t).filterOn = p.filterOn := rfl
@[simp] theorem PulseInput.disable_accepted (p : PulseInput) : p.disable.accepted = p.accepted := rfl
@[simp] theorem PulseInput.disable_pin (p : PulseInput) : p.disable.pin = p.pin := rfl
@[simp] theorem PulseInput.disable_pending (p : PulseInput) : p.disable.pending = none := rfl
@[simp] theorem PulseInput.disable_stood (p : PulseInput) : p.disable.stood = none := rfl
@[simp] theorem PulseInput.disable_selection (p : PulseInput) : p.disable.selection = p.selection := rfl
@[simp] theorem PulseInput.disable_filterOn (p : PulseInput) : p.disable.filterOn = p.filterOn := rfl

/-! ## The filters -/

/-- A stamp has passed exactly when it is now or more than two ticks ahead. -/
theorem countsTo_eq_zero_iff (e t : Stamp) : countsTo e t = 0 ↔ span e t = 0 ∨ 512 < span e t := by
  unfold countsTo Config.frefPerTick
  split <;> omega

/-- A wait is at most two ticks. -/
theorem countsTo_le (e t : Stamp) : countsTo e t ≤ 512 := by
  unfold countsTo Config.frefPerTick
  split <;> omega

/-- Settling a filter completes a pending change back that has stood for its width, and does nothing else. -/
theorem PulseInput.settle_cases (p : PulseInput) (t : Stamp) :
    (∃ d, p.pending = some d ∧ p.accepted = (!p.selection) ∧ p.width ≤ span t d ∧
      p.settle t = { p with accepted := p.selection, pending := none,
                            stood := some (d + BitVec.ofNat 24 (p.changeWait 1 d)) }) ∨
    p.settle t = p := by
  unfold PulseInput.settle
  split
  · exact .inr rfl
  · next d hd =>
    split
    · next h => exact .inl ⟨d, hd, h.1, h.2, rfl⟩
    · exact .inr rfl

@[simp] theorem PulseInput.settle_selection (p : PulseInput) (t : Stamp) : (p.settle t).selection = p.selection := by
  rcases p.settle_cases t with ⟨d, -, -, -, h⟩ | h <;> simp [h]
@[simp] theorem PulseInput.settle_filterOn (p : PulseInput) (t : Stamp) : (p.settle t).filterOn = p.filterOn := by
  rcases p.settle_cases t with ⟨d, -, -, -, h⟩ | h <;> simp [h]
@[simp] theorem PulseInput.settle_pin (p : PulseInput) (t : Stamp) : (p.settle t).pin = p.pin := by
  rcases p.settle_cases t with ⟨d, -, -, -, h⟩ | h <;> simp [h]
@[simp] theorem PulseInput.settle_width (p : PulseInput) (t : Stamp) : (p.settle t).width = p.width := by
  simp [PulseInput.width]

/-- A pin that a tick finds away from the accepted level is a pending change, and one found there discards it (R1). -/
theorem PulseInput.sample_pending (p : PulseInput) (b : Bool) (t : Stamp) :
    (p.sample b t).pending = if b = p.accepted then none else some (p.pending.getD t) := by
  unfold PulseInput.sample
  split <;> rfl

@[simp] theorem PulseInput.sample_accepted (p : PulseInput) (b : Bool) (t : Stamp) :
    (p.sample b t).accepted = p.accepted := by
  unfold PulseInput.sample
  split <;> rfl
@[simp] theorem PulseInput.sample_pin (p : PulseInput) (b : Bool) (t : Stamp) : (p.sample b t).pin = b := by
  unfold PulseInput.sample
  split <;> rfl
@[simp] theorem PulseInput.watch_pin (p : PulseInput) (e b : Bool) (t : Stamp) : (p.watch e b t).pin = b := by
  unfold PulseInput.watch
  split <;> simp

/-- From the level an active edge leaves, an edge waits for one change. -/
theorem PulseInput.edgeWait_of_eq {p : PulseInput} (h : p.accepted = p.selection) (t : Stamp) :
    p.edgeWait t = p.changeWait 1 t := by
  simp [PulseInput.edgeWait, h]

@[simp] theorem State.advancePulse_time (s : State) (b : BitVec 8) :
    (s.advancePulse b).time = (s.advance b).time := rfl
@[simp] theorem State.advancePulse_now (s : State) (b : BitVec 8) : (s.advancePulse b).now = (s.advance b).now := rfl
@[simp] theorem State.advancePulse_pulse (s : State) (b : BitVec 8) :
    (s.advancePulse b).pulse = s.pulse.settle (s.advance b).now := rfl
@[simp] theorem PulseUnit.settle_inj (u : PulseUnit) (t : Stamp) : (u.settle t).inj = u.inj := rfl
@[simp] theorem PulseUnit.settle_spdWindow (u : PulseUnit) (t : Stamp) : (u.settle t).spdWindow = u.spdWindow := rfl
@[simp] theorem PulseUnit.settle_tacWindow (u : PulseUnit) (t : Stamp) : (u.settle t).tacWindow = u.tacWindow := rfl
@[simp] theorem PulseUnit.settle_onTime (u : PulseUnit) (t : Stamp) : (u.settle t).onTime = u.onTime := rfl
@[simp] theorem PulseUnit.settle_injMark (u : PulseUnit) (t : Stamp) : (u.settle t).injMark = u.injMark := rfl
@[simp] theorem PulseUnit.settle_windowClock (u : PulseUnit) (t : Stamp) : (u.settle t).windowClock = u.windowClock := rfl

/-! ## The filters as the statements spell them out -/

theorem PulseInput.changeWait_eq (p : PulseInput) (n : Nat) (t : Stamp) : p.changeWait n t = changeDelay p n t := rfl

theorem PulseInput.edgeWait_eq (p : PulseInput) (t : Stamp) : p.edgeWait t = edgeDelay p t := rfl

theorem PulseInput.settle_eq (p : PulseInput) (t : Stamp) : p.settle t = settledAt p t := by
  have h : (p.accepted = !p.selection) ↔ p.accepted ≠ p.selection := by
    cases p.accepted <;> cases p.selection <;> decide
  unfold PulseInput.settle settledAt
  simp only [h]
  rfl

theorem PulseInput.sample_eq (p : PulseInput) (pin : Bool) (t : Stamp) : p.sample pin t = foundAt p pin t := by
  unfold PulseInput.sample foundAt
  split
  · rfl
  · cases p.pending <;> cases p.stood <;> simp only [recent, Option.filter, Option.getD, decide_eq_true_iff] <;> rfl

theorem PulseInput.sampleEdges_eq (p : PulseInput) (pin : Bool) (t : Stamp) :
    p.sampleEdges pin t = foundByTick p pin t := by
  have h : (p.accepted = !p.selection) ↔ p.accepted ≠ p.selection := by
    cases p.accepted <;> cases p.selection <;> decide
  unfold PulseInput.sampleEdges foundByTick
  rw [PulseInput.sample_eq]
  simp only [h]
  split
  · cases p.stood with
    | none => rfl
    | some l =>
      by_cases hl : span t l < p.width
      · have hl' : (t - l).toNat < filterWidth p := hl
        simp only [recent, Option.map_some, if_pos hl, if_pos hl', Option.filter]
        simp [span, Config.frefPerTick]
      · have hl' : ¬ (t - l).toNat < filterWidth p := hl
        simp only [recent, Option.map_some, if_neg hl, if_neg hl', Option.filter, decide_eq_true_iff]
        rfl
  · rfl

/-- An input sampled at a tick keeps its accepted level. -/
@[simp] theorem PulseInput.sampleEdges_accepted (p : PulseInput) (b : Bool) (t : Stamp) :
    (p.sampleEdges b t).accepted = p.accepted := by
  unfold PulseInput.sampleEdges
  split <;> simp
@[simp] theorem PulseInput.sampleEdges_pin (p : PulseInput) (b : Bool) (t : Stamp) : (p.sampleEdges b t).pin = b := by
  unfold PulseInput.sampleEdges
  split <;> simp
@[simp] theorem PulseInput.sampleEdges_selection (p : PulseInput) (b : Bool) (t : Stamp) :
    (p.sampleEdges b t).selection = p.selection := by
  unfold PulseInput.sampleEdges PulseInput.sample
  repeat' split
  all_goals rfl
@[simp] theorem PulseInput.sampleEdges_filterOn (p : PulseInput) (b : Bool) (t : Stamp) :
    (p.sampleEdges b t).filterOn = p.filterOn := by
  unfold PulseInput.sampleEdges PulseInput.sample
  repeat' split
  all_goals rfl

theorem PulseInput.watchEdges_eq (p : PulseInput) (enabled pin : Bool) (t : Stamp) :
    p.watchEdges enabled pin t = if enabled then foundByTick (settledAt p t) pin t else ignored p pin := by
  unfold PulseInput.watchEdges
  rw [PulseInput.sampleEdges_eq, PulseInput.settle_eq]
  rfl

theorem PulseInput.watch_eq (p : PulseInput) (enabled pin : Bool) (t : Stamp) :
    p.watch enabled pin t = if enabled then foundAt p pin t else ignored p pin := by
  unfold PulseInput.watch
  rw [PulseInput.sample_eq]
  rfl

theorem State.syncSettled_eq (s : State) (t : Stamp) : s.gauge.settle t = { s.gauge with sync := syncSettledAt s t } := by
  refine congrArg (fun p => { s.gauge with sync := p }) ?_
  unfold GaugeUnit.ownEdge syncSettledAt
  rw [PulseInput.settle_eq]
  simp only
  cases hp : s.gauge.sync.pending with
  | none => simp [settledAt, hp]
  | some d =>
    simp only [Option.map_some, Option.getD_some, Bool.and_eq_true, Option.isSome_iff_ne_none, beq_iff_eq,
      decide_eq_true_iff, and_assoc]
    rfl

theorem State.advancePulse_eq (s : State) (sub : BitVec 8) : s.advancePulse sub = broughtTo s sub := by
  unfold State.advancePulse broughtTo
  simp only [PulseUnit.settle, PulseInput.settle_eq]
  have h := (s.advance sub).syncSettled_eq (s.advance sub).now
  rw [h]
  rfl

theorem PulseUnit.sample_eq (s : State) (pulse : BitVec 5) (t : Stamp) :
    s.pulse.sample s.inRun s.awake pulse t = pulsesFound s pulse t := by
  simp only [PulseUnit.sample, PulseInput.watchEdges_eq, PulseInput.watch_eq]
  rfl

theorem GaugeUnit.sample_sync (s : State) (others : Bool) (t : Stamp) :
    s.gauge.sample s.inRun others t = { s.gauge with sync := syncFound s others t } := by
  have hl : s.gauge.syncPulse.isNone = decide (s.gauge.syncPulse = none) := by cases s.gauge.syncPulse <;> rfl
  have hr : s.inRun = decide (s.power.state = .run) := rfl
  unfold GaugeUnit.sample syncFound
  simp only [s.syncSettled_eq, PulseInput.sampleEdges_eq, hl, hr, decide_eq_true_iff]
  rfl

/-- A command's moment brings the part to that time, with the pins as it says. -/
theorem State.reach_eq (s : State) (m : Moment) : s.reach m = atMoment s m := by
  unfold State.reach State.findPins
  have h := PulseUnit.sample_eq (s.advance m.sub) m.pulse (s.advance m.sub).now
  have g := GaugeUnit.sample_sync (s.advance m.sub) (m.pulse.getLsbD 4) (s.advance m.sub).now
  simp only [h, g]
  rfl

/-! ## Two looks at one moment -/

theorem span_self (t : Stamp) : span t t = 0 := by simp [span]

theorem PulseInput.width_pos (p : PulseInput) : 0 < p.width := by unfold PulseInput.width; split <;> omega

theorem recent_recent (t : Stamp) (l : Option Stamp) : recent t (recent t l) = recent t l := by
  cases l with
  | none => rfl
  | some l => by_cases h : span t l < Config.frefPerTick <;> simp [recent, Option.filter, h]

/-- A second look at a pin at the same moment finds nothing new. -/
theorem PulseInput.sample_sample (p : PulseInput) (b : Bool) (t : Stamp) : (p.sample b t).sample b t = p.sample b t := by
  by_cases h : b = p.accepted <;> simp [PulseInput.sample, h, recent_recent]

theorem PulseInput.watch_watch (p : PulseInput) (e b : Bool) (t : Stamp) : (p.watch e b t).watch e b t = p.watch e b t := by
  cases e <;> simp [PulseInput.watch, PulseInput.sample_sample, PulseInput.disable]

theorem recent_held (t : Stamp) (w : Nat) (l : Option Stamp) (hw : 0 < w) :
    let held := fun l : Option Stamp => recent t (l.map fun l => if span t l < w then t else l)
    held (held l) = held l := by
  cases l with
  | none => rfl
  | some l =>
    by_cases g : span t l < w
    · simp [recent, Option.filter, g, span_self, hw, Config.frefPerTick]
    · by_cases r : span t l < 256 <;> simp [recent, Option.filter, g, r, Config.frefPerTick]

theorem PulseInput.sampleEdges_sampleEdges (p : PulseInput) (b : Bool) (t : Stamp) :
    (p.sampleEdges b t).sampleEdges b t = p.sampleEdges b t := by
  by_cases h : b = p.accepted ∧ p.accepted = !p.selection
  · have e : p.sampleEdges b t = { p with
        pin := b, pending := none, stood := recent t (p.stood.map fun l => if span t l < p.width then t else l) } := if_pos h
    rw [e]
    refine (if_pos h).trans ?_
    exact congrArg (fun l => ({ p with pin := b, pending := none, stood := l } : PulseInput))
      (recent_held t p.width p.stood p.width_pos)
  · have e : p.sampleEdges b t = p.sample b t := if_neg h
    rw [e]
    refine (if_neg ?_).trans (p.sample_sample b t)
    rw [PulseInput.sample_accepted]
    unfold PulseInput.sample
    split <;> exact h

/-- A change back that a look leaves pending has not stood for its width at that look. -/
theorem PulseInput.settle_watched (p : PulseInput) (b : Bool) (t : Stamp) :
    ((p.settle t).sampleEdges b t).settle t = (p.settle t).sampleEdges b t := by
  have key : ∀ q : PulseInput, (∀ d, q.pending = some d → q.accepted = (!q.selection) → ¬ q.width ≤ span t d) →
      q.settle t = q := by
    intro q h
    unfold PulseInput.settle
    split
    · rfl
    · next d hd => exact if_neg fun g => h d hd g.1 g.2
  have settled : ∀ d, (p.settle t).pending = some d → (p.settle t).accepted = (!(p.settle t).selection) →
      ¬ (p.settle t).width ≤ span t d := by
    intro d hd ha hw
    rcases p.settle_cases t with ⟨_, -, -, -, h⟩ | h
    · simp [h] at hd
    · have hs : p.settle t = { p with accepted := p.selection, pending := none, stood := some (d + BitVec.ofNat 24 (p.changeWait 1 d)) } := by
        rw [h] at hd ha hw
        unfold PulseInput.settle
        rw [hd]
        exact if_pos ⟨ha, hw⟩
      rw [hs] at hd
      cases hd
  generalize p.settle t = q at settled ⊢
  refine key _ fun d hd ha => ?_
  unfold PulseInput.sampleEdges PulseInput.sample at hd ha ⊢
  split at hd
  · cases hd
  · next h =>
    simp only [h, if_false] at ha ⊢
    split at hd
    · cases hd
    · next g =>
      simp only [g, if_false] at ha ⊢
      cases hp : q.pending with
      | none =>
        rw [hp] at hd
        cases hd
        exact Nat.not_le.mpr ((span_self t).symm ▸ q.width_pos)
      | some d' =>
        rw [hp] at hd
        cases hd
        exact settled d' hp ha

theorem PulseInput.watchEdges_watchEdges (p : PulseInput) (e b : Bool) (t : Stamp) :
    (p.watchEdges e b t).watchEdges e b t = p.watchEdges e b t := by
  cases e
  · rfl
  · simp only [PulseInput.watchEdges, if_true, PulseInput.settle_watched, PulseInput.sampleEdges_sampleEdges]

/-- What a look leaves pending: nothing, or what was, or a change that it found itself. -/
theorem PulseInput.sampleEdges_pending (p : PulseInput) (b : Bool) (t : Stamp) :
    (p.sampleEdges b t).pending = none ∨ (p.sampleEdges b t).pending = some (p.pending.getD t) := by
  unfold PulseInput.sampleEdges PulseInput.sample
  split
  · exact .inl rfl
  split
  · exact .inl rfl
  · exact .inr rfl

theorem GaugeUnit.sample_sample (u : GaugeUnit) (r o : Bool) (t : Stamp) :
    (u.sample r o t).sample r o t = u.sample r o t := by
  cases r
  · rfl
  · generalize hl : (o && u.syncPulse.isNone) = line
    have e : u.sample true o t = { u with sync := (u.settle t).sync.sampleEdges line t } := by
      rw [← hl]
      rfl
    have again : ∀ v : GaugeUnit, v.syncPulse = u.syncPulse →
        v.sample true o t = { v with sync := (v.settle t).sync.sampleEdges line t } := by
      intro v hv
      rw [← hl, ← hv]
      rfl
    have done : ∀ q : PulseInput, q.settle t = q → (GaugeUnit.ownEdge { u with sync := q } t) = false →
        GaugeUnit.settle { u with sync := q } t = { u with sync := q } := by
      intro q hq hn
      unfold GaugeUnit.settle
      rw [hn]
      exact congrArg (fun x => { u with sync := x }) hq
    have fixed : GaugeUnit.settle { u with sync := (u.settle t).sync.sampleEdges line t } t =
        { u with sync := (u.settle t).sync.sampleEdges line t } := by
      by_cases h : u.ownEdge t = true
      · have hq : (u.settle t).sync = u.sync.edge t := by simp [GaugeUnit.settle, h]
        rw [hq]
        refine done _ ?_ ?_
        · unfold PulseInput.settle
          rcases (u.sync.edge t).sampleEdges_pending line t with hp | hp
          · rw [hp]
          · rw [hp]
            refine if_neg fun g => absurd g.2 (Nat.not_le.mpr ?_)
            exact (span_self t).symm ▸ PulseInput.width_pos _
        · simp [GaugeUnit.ownEdge]
      · have h' : u.ownEdge t = false := by simpa using h
        have hq : (u.settle t).sync = u.sync.settle t := by simp [GaugeUnit.settle, h']
        rw [hq]
        refine done _ (u.sync.settle_watched line t) ?_
        unfold GaugeUnit.ownEdge
        rcases (u.sync.settle t).sampleEdges_pending line t with hp | hp
        · simp [hp]
        · have hw : (u.sync.settle t |>.sampleEdges line t).width = u.sync.width := by
            simp [PulseInput.width]
          simp only [hp, hw, PulseInput.sampleEdges_accepted, PulseInput.sampleEdges_selection,
            PulseInput.settle_selection]
          cases hd : (u.sync.settle t).pending with
          | none => simp [span_self, Nat.pos_iff_ne_zero.mp u.sync.width_pos]
          | some d =>
            rcases u.sync.settle_cases t with ⟨_, -, -, -, g⟩ | g
            · simp [g] at hd
            · rw [g] at hd ⊢
              unfold GaugeUnit.ownEdge at h'
              simpa [hd] using h'
    rw [e]
    refine (again { u with sync := (u.settle t).sync.sampleEdges line t } rfl).trans ?_
    rw [fixed]
    exact congrArg (fun x => { u with sync := x }) (PulseInput.sampleEdges_sampleEdges _ _ _)

theorem PulseUnit.sample_sample (u : PulseUnit) (r a : Bool) (p : BitVec 5) (t : Stamp) :
    (u.sample r a p t).sample r a p t = u.sample r a p t := by
  simp only [PulseUnit.sample, PulseInput.watchEdges_watchEdges, PulseInput.watch_watch]

/-- A part at a command's moment is there already: the characters of a frame and its row come to one moment. -/
theorem State.reach_reach (s : State) (m : Moment) : (s.reach m).reach m = s.reach m := by
  have ht : ((s.advance m.sub).advance m.sub).time = (s.advance m.sub).time := by
    unfold State.advance
    by_cases h : s.time.sub ≤ m.sub
    · simp [h]
    · simp [h]
  have hp := (s.advance m.sub).pulse.sample_sample s.inRun s.awake m.pulse (s.advance m.sub).now
  have hg := (s.advance m.sub).gauge.sample_sample s.inRun (m.pulse.getLsbD 4) (s.advance m.sub).now
  have hn : ((s.reach m).advance m.sub).now = (s.advance m.sub).now := by
    unfold State.now
    rw [show ((s.reach m).advance m.sub).time = ((s.advance m.sub).advance m.sub).time from rfl, ht]
  have e : (s.reach m).reach m =
      { s.reach m with
          time := ((s.advance m.sub).advance m.sub).time,
          pulse := ((s.advance m.sub).pulse.sample s.inRun s.awake m.pulse (s.advance m.sub).now).sample s.inRun
            s.awake m.pulse ((s.reach m).advance m.sub).now,
          gauge := ((s.advance m.sub).gauge.sample s.inRun (m.pulse.getLsbD 4) (s.advance m.sub).now).sample s.inRun
            (m.pulse.getLsbD 4) ((s.reach m).advance m.sub).now } := rfl
  rw [e, hn, hp, hg, ht]
  rfl

/-! ## The SERVICE, MONITOR and SWEEP words -/

theorem Monitor.noticeWord_eq (m : Monitor) : m.noticeWord = monitorValue m := by
  have word : ∀ (x : MonitorState) (a b : Bool), noticeValue (flagByte [a, b]) (byte (monitorCode x)) =
      BitVec.ofNat 16 ((match x with | .off => 0 | .clear => 1 | .pending => 2 | .active => 3 | .releasing => 4) +
        (if a then 256 else 0) + (if b then 512 else 0)) := by
    intro x a b
    cases x <;> revert a b <;> decide
  unfold Monitor.noticeWord monitorValue
  rw [word]
  cases m.snapshot <;> rfl

theorem Sweep.noticeWord_eq (w : Sweep) : w.noticeWord = sweepValue w := by
  have word : ∀ (a b c d e f : Bool) (x : Fin 4), noticeValue (byte x.val) (flagByte [a, b, c, d, e, f]) =
      BitVec.ofNat 16 (((if a then 1 else 0) + ((if b then 2 else 0) + ((if c then 4 else 0) + ((if d then 8 else 0) +
        ((if e then 16 else 0) + ((if f then 32 else 0) + 0)))))) + 256 * x.val) := by decide
  obtain ⟨_, _, _, _, ⟨⟨l⟩, hl⟩, cause⟩ := w
  match l, hl with
  | [a, b, c, d, e, f], _ =>
    cases cause
    · exact word a b c d e f 0
    · exact word a b c d e f 1
    · exact word a b c d e f 2
    · exact word a b c d e f 3

/-- A basis has the level of a state exactly when its level's number is the state's code, and no basis that of DISABLED. -/
theorem level_eq_iff (u c margin grace : Nat) (x : ServiceState) :
    ((if u = 0 then none else some (basisLevel u c margin grace)) == some x) =
      decide (serviceCode x ≠ 0 ∧
        (if u = 0 then 0
         else if u * (100 + grace) ≤ c * 100 then 4
         else if u ≤ c then 3
         else if u * (100 - margin) ≤ c * 100 then 2
         else 1) = serviceCode x) := by
  unfold basisLevel serviceCode
  cases x <;> (repeat' split) <;> simp_all

/-- The SERVICE word of the model is the one R145 spells out. -/
theorem ServiceItem.noticeWord_eq (i : ServiceItem) : i.noticeWord = serviceValue i := by
  have word : ∀ (x : ServiceState) (a b c : Bool), (x = .disabled → a = false ∧ b = false ∧ c = false) →
      noticeValue (if x = .disabled then 0 else flagByte [a, b, c]) (byte (serviceCode x)) =
        BitVec.ofNat 16 (serviceCode x +
          256 * ((if a then 1 else 0) + (if b then 2 else 0) + (if c then 4 else 0))) := by
    intro x a b c h
    cases x <;> revert a b c <;> decide
  simp only [ServiceItem.noticeWord, ServiceItem.levels, ServiceItem.bases, List.map_cons,
    List.map_nil, level_eq_iff]
  rw [word]
  · simp only [decide_eq_true_eq]
    rfl
  · intro h
    simp [h, serviceCode]

end Sys2Proof.Machine
end

