-- ==== Sys2Proof/Laws/FrameBlocks.lean ====
section
/-!
SUPPORT. The frames of the operations of the Channel Table, the Chime Sequencer, the Lamp Unit, the EEPROM Port, the
Service Schedule, the Drum Drive, the Trip Computer and the Accumulator Unit: the pieces of the state that each
leaves as they were.
-/
namespace Sys2Proof.Machine

/-- A fold of changes that each keep a piece of the state keeps it. -/
theorem foldl_keeps {β γ : Type} (g : State → γ) (f : State → β → State) (h : ∀ s b, g (f s b) = g s)
    (l : List β) (s : State) : g (l.foldl f s) = g s := by
  induction l generalizing s with
  | nil => rfl
  | cons b l ih => rw [List.foldl_cons, ih, h]

@[simp] theorem State.notify_frame (s : State) (k : NoticeKey) (v : Word) :
    (s.notify k v).time = s.time ∧
    (s.notify k v).power = s.power ∧
    (s.notify k v).consts = s.consts ∧
    (s.notify k v).pulse = s.pulse ∧
    (s.notify k v).sampler = s.sampler ∧
    (s.notify k v).discretes = s.discretes ∧
    (s.notify k v).channels = s.channels ∧
    (s.notify k v).curves = s.curves ∧
    (s.notify k v).accum = s.accum ∧
    (s.notify k v).drum = s.drum ∧
    (s.notify k v).trip = s.trip ∧
    (s.notify k v).gauge = s.gauge ∧
    (s.notify k v).monitor = s.monitor ∧
    (s.notify k v).chime = s.chime ∧
    (s.notify k v).lamp = s.lamp ∧
    (s.notify k v).service = s.service ∧
    (s.notify k v).eeprom = s.eeprom ∧
    (s.notify k v).link = s.link ∧
    (s.notify k v).freeCount = s.freeCount ∧
    (s.notify k v).pending = s.pending := ⟨rfl, rfl, rfl, rfl, rfl, rfl, rfl, rfl, rfl, rfl, rfl, rfl, rfl, rfl, rfl, rfl, rfl, rfl, rfl, rfl⟩

@[simp] theorem State.advance_frame (s : State) (b : BitVec 8) :
    (s.advance b).power = s.power ∧
    (s.advance b).consts = s.consts ∧
    (s.advance b).pulse = s.pulse ∧
    (s.advance b).sampler = s.sampler ∧
    (s.advance b).discretes = s.discretes ∧
    (s.advance b).channels = s.channels ∧
    (s.advance b).curves = s.curves ∧
    (s.advance b).accum = s.accum ∧
    (s.advance b).drum = s.drum ∧
    (s.advance b).trip = s.trip ∧
    (s.advance b).gauge = s.gauge ∧
    (s.advance b).monitor = s.monitor ∧
    (s.advance b).chime = s.chime ∧
    (s.advance b).lamp = s.lamp ∧
    (s.advance b).service = s.service ∧
    (s.advance b).eeprom = s.eeprom ∧
    (s.advance b).link = s.link ∧
    (s.advance b).notices = s.notices ∧
    (s.advance b).freeCount = s.freeCount ∧
    (s.advance b).pending = s.pending := ⟨rfl, rfl, rfl, rfl, rfl, rfl, rfl, rfl, rfl, rfl, rfl, rfl, rfl, rfl, rfl, rfl, rfl, rfl, rfl, rfl⟩

@[simp] theorem State.writeChannel_frame (s : State) (c : Fin 16) (v : Option Nat) (w : Option Validity) :
    (s.writeChannel c v w).time = s.time ∧
    (s.writeChannel c v w).power = s.power ∧
    (s.writeChannel c v w).consts = s.consts ∧
    (s.writeChannel c v w).pulse = s.pulse ∧
    (s.writeChannel c v w).sampler = s.sampler ∧
    (s.writeChannel c v w).discretes = s.discretes ∧
    (s.writeChannel c v w).curves = s.curves ∧
    (s.writeChannel c v w).accum = s.accum ∧
    (s.writeChannel c v w).drum = s.drum ∧
    (s.writeChannel c v w).trip = s.trip ∧
    (s.writeChannel c v w).gauge = s.gauge ∧
    (s.writeChannel c v w).monitor = s.monitor ∧
    (s.writeChannel c v w).chime = s.chime ∧
    (s.writeChannel c v w).lamp = s.lamp ∧
    (s.writeChannel c v w).service = s.service ∧
    (s.writeChannel c v w).eeprom = s.eeprom ∧
    (s.writeChannel c v w).link = s.link ∧
    (s.writeChannel c v w).freeCount = s.freeCount ∧
    (s.writeChannel c v w).pending = s.pending := by
  simp only [State.writeChannel]
  repeat' split
  all_goals simp

@[simp] theorem State.setHold_frame (s : State) (c : Fin 16) (h : Option Nat) :
    (s.setHold c h).time = s.time ∧
    (s.setHold c h).power = s.power ∧
    (s.setHold c h).consts = s.consts ∧
    (s.setHold c h).pulse = s.pulse ∧
    (s.setHold c h).sampler = s.sampler ∧
    (s.setHold c h).discretes = s.discretes ∧
    (s.setHold c h).curves = s.curves ∧
    (s.setHold c h).accum = s.accum ∧
    (s.setHold c h).drum = s.drum ∧
    (s.setHold c h).trip = s.trip ∧
    (s.setHold c h).gauge = s.gauge ∧
    (s.setHold c h).monitor = s.monitor ∧
    (s.setHold c h).chime = s.chime ∧
    (s.setHold c h).lamp = s.lamp ∧
    (s.setHold c h).service = s.service ∧
    (s.setHold c h).eeprom = s.eeprom ∧
    (s.setHold c h).link = s.link ∧
    (s.setHold c h).notices = s.notices ∧
    (s.setHold c h).freeCount = s.freeCount ∧
    (s.setHold c h).pending = s.pending := ⟨rfl, rfl, rfl, rfl, rfl, rfl, rfl, rfl, rfl, rfl, rfl, rfl, rfl, rfl, rfl, rfl, rfl, rfl, rfl, rfl⟩

@[simp] theorem State.clearHolds_frame (s : State) :
    (s.clearHolds).time = s.time ∧
    (s.clearHolds).power = s.power ∧
    (s.clearHolds).consts = s.consts ∧
    (s.clearHolds).pulse = s.pulse ∧
    (s.clearHolds).sampler = s.sampler ∧
    (s.clearHolds).discretes = s.discretes ∧
    (s.clearHolds).curves = s.curves ∧
    (s.clearHolds).accum = s.accum ∧
    (s.clearHolds).drum = s.drum ∧
    (s.clearHolds).trip = s.trip ∧
    (s.clearHolds).gauge = s.gauge ∧
    (s.clearHolds).monitor = s.monitor ∧
    (s.clearHolds).chime = s.chime ∧
    (s.clearHolds).lamp = s.lamp ∧
    (s.clearHolds).service = s.service ∧
    (s.clearHolds).eeprom = s.eeprom ∧
    (s.clearHolds).link = s.link ∧
    (s.clearHolds).notices = s.notices ∧
    (s.clearHolds).freeCount = s.freeCount ∧
    (s.clearHolds).pending = s.pending := ⟨rfl, rfl, rfl, rfl, rfl, rfl, rfl, rfl, rfl, rfl, rfl, rfl, rfl, rfl, rfl, rfl, rfl, rfl, rfl, rfl⟩

@[simp] theorem State.setFreshness_frame (s : State) (e : Fin 5) (f : Freshness) :
    (s.setFreshness e f).time = s.time ∧
    (s.setFreshness e f).power = s.power ∧
    (s.setFreshness e f).consts = s.consts ∧
    (s.setFreshness e f).pulse = s.pulse ∧
    (s.setFreshness e f).sampler = s.sampler ∧
    (s.setFreshness e f).discretes = s.discretes ∧
    (s.setFreshness e f).curves = s.curves ∧
    (s.setFreshness e f).accum = s.accum ∧
    (s.setFreshness e f).drum = s.drum ∧
    (s.setFreshness e f).trip = s.trip ∧
    (s.setFreshness e f).gauge = s.gauge ∧
    (s.setFreshness e f).monitor = s.monitor ∧
    (s.setFreshness e f).chime = s.chime ∧
    (s.setFreshness e f).lamp = s.lamp ∧
    (s.setFreshness e f).service = s.service ∧
    (s.setFreshness e f).eeprom = s.eeprom ∧
    (s.setFreshness e f).link = s.link ∧
    (s.setFreshness e f).notices = s.notices ∧
    (s.setFreshness e f).freeCount = s.freeCount ∧
    (s.setFreshness e f).pending = s.pending := ⟨rfl, rfl, rfl, rfl, rfl, rfl, rfl, rfl, rfl, rfl, rfl, rfl, rfl, rfl, rfl, rfl, rfl, rfl, rfl, rfl⟩

@[simp] theorem State.tickFreshness_frame (s : State) :
    (s.tickFreshness).time = s.time ∧
    (s.tickFreshness).power = s.power ∧
    (s.tickFreshness).consts = s.consts ∧
    (s.tickFreshness).pulse = s.pulse ∧
    (s.tickFreshness).sampler = s.sampler ∧
    (s.tickFreshness).discretes = s.discretes ∧
    (s.tickFreshness).curves = s.curves ∧
    (s.tickFreshness).accum = s.accum ∧
    (s.tickFreshness).drum = s.drum ∧
    (s.tickFreshness).trip = s.trip ∧
    (s.tickFreshness).gauge = s.gauge ∧
    (s.tickFreshness).monitor = s.monitor ∧
    (s.tickFreshness).chime = s.chime ∧
    (s.tickFreshness).lamp = s.lamp ∧
    (s.tickFreshness).service = s.service ∧
    (s.tickFreshness).eeprom = s.eeprom ∧
    (s.tickFreshness).link = s.link ∧
    (s.tickFreshness).notices = s.notices ∧
    (s.tickFreshness).freeCount = s.freeCount ∧
    (s.tickFreshness).pending = s.pending := ⟨rfl, rfl, rfl, rfl, rfl, rfl, rfl, rfl, rfl, rfl, rfl, rfl, rfl, rfl, rfl, rfl, rfl, rfl, rfl, rfl⟩

@[simp] theorem State.expireFreshness_frame (s : State) (e : Fin 5) :
    (s.expireFreshness e).time = s.time ∧
    (s.expireFreshness e).power = s.power ∧
    (s.expireFreshness e).consts = s.consts ∧
    (s.expireFreshness e).pulse = s.pulse ∧
    (s.expireFreshness e).sampler = s.sampler ∧
    (s.expireFreshness e).discretes = s.discretes ∧
    (s.expireFreshness e).curves = s.curves ∧
    (s.expireFreshness e).accum = s.accum ∧
    (s.expireFreshness e).drum = s.drum ∧
    (s.expireFreshness e).trip = s.trip ∧
    (s.expireFreshness e).gauge = s.gauge ∧
    (s.expireFreshness e).monitor = s.monitor ∧
    (s.expireFreshness e).chime = s.chime ∧
    (s.expireFreshness e).lamp = s.lamp ∧
    (s.expireFreshness e).service = s.service ∧
    (s.expireFreshness e).eeprom = s.eeprom ∧
    (s.expireFreshness e).link = s.link ∧
    (s.expireFreshness e).freeCount = s.freeCount ∧
    (s.expireFreshness e).pending = s.pending := by
  simp only [State.expireFreshness]
  repeat' split
  all_goals simp

@[simp] theorem State.restartExt_frame (s : State) :
    (s.restartExt).time = s.time ∧
    (s.restartExt).power = s.power ∧
    (s.restartExt).consts = s.consts ∧
    (s.restartExt).pulse = s.pulse ∧
    (s.restartExt).sampler = s.sampler ∧
    (s.restartExt).discretes = s.discretes ∧
    (s.restartExt).curves = s.curves ∧
    (s.restartExt).accum = s.accum ∧
    (s.restartExt).drum = s.drum ∧
    (s.restartExt).trip = s.trip ∧
    (s.restartExt).gauge = s.gauge ∧
    (s.restartExt).monitor = s.monitor ∧
    (s.restartExt).chime = s.chime ∧
    (s.restartExt).lamp = s.lamp ∧
    (s.restartExt).service = s.service ∧
    (s.restartExt).eeprom = s.eeprom ∧
    (s.restartExt).link = s.link ∧
    (s.restartExt).freeCount = s.freeCount ∧
    (s.restartExt).pending = s.pending := by
  unfold State.restartExt
  exact ⟨foldl_keeps State.time _ (fun _ _ => by simp) _ _,
    foldl_keeps State.power _ (fun _ _ => by simp) _ _,
    foldl_keeps State.consts _ (fun _ _ => by simp) _ _,
    foldl_keeps State.pulse _ (fun _ _ => by simp) _ _,
    foldl_keeps State.sampler _ (fun _ _ => by simp) _ _,
    foldl_keeps State.discretes _ (fun _ _ => by simp) _ _,
    foldl_keeps State.curves _ (fun _ _ => by simp) _ _,
    foldl_keeps State.accum _ (fun _ _ => by simp) _ _,
    foldl_keeps State.drum _ (fun _ _ => by simp) _ _,
    foldl_keeps State.trip _ (fun _ _ => by simp) _ _,
    foldl_keeps State.gauge _ (fun _ _ => by simp) _ _,
    foldl_keeps State.monitor _ (fun _ _ => by simp) _ _,
    foldl_keeps State.chime _ (fun _ _ => by simp) _ _,
    foldl_keeps State.lamp _ (fun _ _ => by simp) _ _,
    foldl_keeps State.service _ (fun _ _ => by simp) _ _,
    foldl_keeps State.eeprom _ (fun _ _ => by simp) _ _,
    foldl_keeps State.link _ (fun _ _ => by simp) _ _,
    foldl_keeps State.freeCount _ (fun _ _ => by simp) _ _,
    foldl_keeps State.pending _ (fun _ _ => by simp) _ _⟩

@[simp] theorem State.postChime_frame (s : State) (i : Fin 26) (p : Fin 12) (a b : Nat) :
    (s.postChime i p a b).time = s.time ∧
    (s.postChime i p a b).power = s.power ∧
    (s.postChime i p a b).consts = s.consts ∧
    (s.postChime i p a b).pulse = s.pulse ∧
    (s.postChime i p a b).sampler = s.sampler ∧
    (s.postChime i p a b).discretes = s.discretes ∧
    (s.postChime i p a b).channels = s.channels ∧
    (s.postChime i p a b).curves = s.curves ∧
    (s.postChime i p a b).accum = s.accum ∧
    (s.postChime i p a b).drum = s.drum ∧
    (s.postChime i p a b).trip = s.trip ∧
    (s.postChime i p a b).gauge = s.gauge ∧
    (s.postChime i p a b).monitor = s.monitor ∧
    (s.postChime i p a b).lamp = s.lamp ∧
    (s.postChime i p a b).service = s.service ∧
    (s.postChime i p a b).eeprom = s.eeprom ∧
    (s.postChime i p a b).link = s.link ∧
    (s.postChime i p a b).notices = s.notices ∧
    (s.postChime i p a b).freeCount = s.freeCount ∧
    (s.postChime i p a b).pending = s.pending := ⟨rfl, rfl, rfl, rfl, rfl, rfl, rfl, rfl, rfl, rfl, rfl, rfl, rfl, rfl, rfl, rfl, rfl, rfl, rfl, rfl⟩

@[simp] theorem State.withdrawChime_frame (s : State) (i : Fin 26) :
    (s.withdrawChime i).time = s.time ∧
    (s.withdrawChime i).power = s.power ∧
    (s.withdrawChime i).consts = s.consts ∧
    (s.withdrawChime i).pulse = s.pulse ∧
    (s.withdrawChime i).sampler = s.sampler ∧
    (s.withdrawChime i).discretes = s.discretes ∧
    (s.withdrawChime i).channels = s.channels ∧
    (s.withdrawChime i).curves = s.curves ∧
    (s.withdrawChime i).accum = s.accum ∧
    (s.withdrawChime i).drum = s.drum ∧
    (s.withdrawChime i).trip = s.trip ∧
    (s.withdrawChime i).gauge = s.gauge ∧
    (s.withdrawChime i).monitor = s.monitor ∧
    (s.withdrawChime i).lamp = s.lamp ∧
    (s.withdrawChime i).service = s.service ∧
    (s.withdrawChime i).eeprom = s.eeprom ∧
    (s.withdrawChime i).link = s.link ∧
    (s.withdrawChime i).notices = s.notices ∧
    (s.withdrawChime i).freeCount = s.freeCount ∧
    (s.withdrawChime i).pending = s.pending := ⟨rfl, rfl, rfl, rfl, rfl, rfl, rfl, rfl, rfl, rfl, rfl, rfl, rfl, rfl, rfl, rfl, rfl, rfl, rfl, rfl⟩

@[simp] theorem State.setClaim_frame (s : State) (l : Fin 12) (i : Fin 23) (c : Option LampMode) :
    (s.setClaim l i c).time = s.time ∧
    (s.setClaim l i c).power = s.power ∧
    (s.setClaim l i c).consts = s.consts ∧
    (s.setClaim l i c).pulse = s.pulse ∧
    (s.setClaim l i c).sampler = s.sampler ∧
    (s.setClaim l i c).discretes = s.discretes ∧
    (s.setClaim l i c).channels = s.channels ∧
    (s.setClaim l i c).curves = s.curves ∧
    (s.setClaim l i c).accum = s.accum ∧
    (s.setClaim l i c).drum = s.drum ∧
    (s.setClaim l i c).trip = s.trip ∧
    (s.setClaim l i c).gauge = s.gauge ∧
    (s.setClaim l i c).monitor = s.monitor ∧
    (s.setClaim l i c).chime = s.chime ∧
    (s.setClaim l i c).service = s.service ∧
    (s.setClaim l i c).eeprom = s.eeprom ∧
    (s.setClaim l i c).link = s.link ∧
    (s.setClaim l i c).notices = s.notices ∧
    (s.setClaim l i c).freeCount = s.freeCount ∧
    (s.setClaim l i c).pending = s.pending := ⟨rfl, rfl, rfl, rfl, rfl, rfl, rfl, rfl, rfl, rfl, rfl, rfl, rfl, rfl, rfl, rfl, rfl, rfl, rfl, rfl⟩

@[simp] theorem State.setDuty_frame (s : State) :
    (s.setDuty).time = s.time ∧
    (s.setDuty).power = s.power ∧
    (s.setDuty).consts = s.consts ∧
    (s.setDuty).pulse = s.pulse ∧
    (s.setDuty).sampler = s.sampler ∧
    (s.setDuty).discretes = s.discretes ∧
    (s.setDuty).channels = s.channels ∧
    (s.setDuty).curves = s.curves ∧
    (s.setDuty).accum = s.accum ∧
    (s.setDuty).drum = s.drum ∧
    (s.setDuty).trip = s.trip ∧
    (s.setDuty).gauge = s.gauge ∧
    (s.setDuty).monitor = s.monitor ∧
    (s.setDuty).chime = s.chime ∧
    (s.setDuty).service = s.service ∧
    (s.setDuty).eeprom = s.eeprom ∧
    (s.setDuty).link = s.link ∧
    (s.setDuty).notices = s.notices ∧
    (s.setDuty).freeCount = s.freeCount ∧
    (s.setDuty).pending = s.pending := ⟨rfl, rfl, rfl, rfl, rfl, rfl, rfl, rfl, rfl, rfl, rfl, rfl, rfl, rfl, rfl, rfl, rfl, rfl, rfl, rfl⟩

@[simp] theorem State.startLamps_frame (s : State) :
    (s.startLamps).time = s.time ∧
    (s.startLamps).power = s.power ∧
    (s.startLamps).consts = s.consts ∧
    (s.startLamps).pulse = s.pulse ∧
    (s.startLamps).sampler = s.sampler ∧
    (s.startLamps).discretes = s.discretes ∧
    (s.startLamps).channels = s.channels ∧
    (s.startLamps).curves = s.curves ∧
    (s.startLamps).accum = s.accum ∧
    (s.startLamps).drum = s.drum ∧
    (s.startLamps).trip = s.trip ∧
    (s.startLamps).gauge = s.gauge ∧
    (s.startLamps).monitor = s.monitor ∧
    (s.startLamps).chime = s.chime ∧
    (s.startLamps).service = s.service ∧
    (s.startLamps).eeprom = s.eeprom ∧
    (s.startLamps).link = s.link ∧
    (s.startLamps).notices = s.notices ∧
    (s.startLamps).freeCount = s.freeCount ∧
    (s.startLamps).pending = s.pending := ⟨rfl, rfl, rfl, rfl, rfl, rfl, rfl, rfl, rfl, rfl, rfl, rfl, rfl, rfl, rfl, rfl, rfl, rfl, rfl, rfl⟩

@[simp] theorem State.restartLamps_frame (s : State) :
    (s.restartLamps).time = s.time ∧
    (s.restartLamps).power = s.power ∧
    (s.restartLamps).consts = s.consts ∧
    (s.restartLamps).pulse = s.pulse ∧
    (s.restartLamps).sampler = s.sampler ∧
    (s.restartLamps).discretes = s.discretes ∧
    (s.restartLamps).channels = s.channels ∧
    (s.restartLamps).curves = s.curves ∧
    (s.restartLamps).accum = s.accum ∧
    (s.restartLamps).drum = s.drum ∧
    (s.restartLamps).trip = s.trip ∧
    (s.restartLamps).gauge = s.gauge ∧
    (s.restartLamps).monitor = s.monitor ∧
    (s.restartLamps).chime = s.chime ∧
    (s.restartLamps).service = s.service ∧
    (s.restartLamps).eeprom = s.eeprom ∧
    (s.restartLamps).link = s.link ∧
    (s.restartLamps).notices = s.notices ∧
    (s.restartLamps).freeCount = s.freeCount ∧
    (s.restartLamps).pending = s.pending := ⟨rfl, rfl, rfl, rfl, rfl, rfl, rfl, rfl, rfl, rfl, rfl, rfl, rfl, rfl, rfl, rfl, rfl, rfl, rfl, rfl⟩

@[simp] theorem State.postOdometer_frame (s : State) :
    (s.postOdometer).time = s.time ∧
    (s.postOdometer).power = s.power ∧
    (s.postOdometer).consts = s.consts ∧
    (s.postOdometer).pulse = s.pulse ∧
    (s.postOdometer).sampler = s.sampler ∧
    (s.postOdometer).discretes = s.discretes ∧
    (s.postOdometer).channels = s.channels ∧
    (s.postOdometer).curves = s.curves ∧
    (s.postOdometer).accum = s.accum ∧
    (s.postOdometer).drum = s.drum ∧
    (s.postOdometer).trip = s.trip ∧
    (s.postOdometer).gauge = s.gauge ∧
    (s.postOdometer).monitor = s.monitor ∧
    (s.postOdometer).chime = s.chime ∧
    (s.postOdometer).lamp = s.lamp ∧
    (s.postOdometer).service = s.service ∧
    (s.postOdometer).link = s.link ∧
    (s.postOdometer).notices = s.notices ∧
    (s.postOdometer).freeCount = s.freeCount ∧
    (s.postOdometer).pending = s.pending := by
  simp only [State.postOdometer]
  repeat' split
  all_goals simp

@[simp] theorem State.postService_frame (s : State) :
    (s.postService).time = s.time ∧
    (s.postService).power = s.power ∧
    (s.postService).consts = s.consts ∧
    (s.postService).pulse = s.pulse ∧
    (s.postService).sampler = s.sampler ∧
    (s.postService).discretes = s.discretes ∧
    (s.postService).channels = s.channels ∧
    (s.postService).curves = s.curves ∧
    (s.postService).accum = s.accum ∧
    (s.postService).drum = s.drum ∧
    (s.postService).trip = s.trip ∧
    (s.postService).gauge = s.gauge ∧
    (s.postService).monitor = s.monitor ∧
    (s.postService).chime = s.chime ∧
    (s.postService).lamp = s.lamp ∧
    (s.postService).service = s.service ∧
    (s.postService).link = s.link ∧
    (s.postService).notices = s.notices ∧
    (s.postService).freeCount = s.freeCount ∧
    (s.postService).pending = s.pending := ⟨rfl, rfl, rfl, rfl, rfl, rfl, rfl, rfl, rfl, rfl, rfl, rfl, rfl, rfl, rfl, rfl, rfl, rfl, rfl, rfl⟩

@[simp] theorem State.postHeader_frame (s : State) :
    (s.postHeader).time = s.time ∧
    (s.postHeader).power = s.power ∧
    (s.postHeader).consts = s.consts ∧
    (s.postHeader).pulse = s.pulse ∧
    (s.postHeader).sampler = s.sampler ∧
    (s.postHeader).discretes = s.discretes ∧
    (s.postHeader).channels = s.channels ∧
    (s.postHeader).curves = s.curves ∧
    (s.postHeader).accum = s.accum ∧
    (s.postHeader).drum = s.drum ∧
    (s.postHeader).trip = s.trip ∧
    (s.postHeader).gauge = s.gauge ∧
    (s.postHeader).monitor = s.monitor ∧
    (s.postHeader).chime = s.chime ∧
    (s.postHeader).lamp = s.lamp ∧
    (s.postHeader).service = s.service ∧
    (s.postHeader).link = s.link ∧
    (s.postHeader).notices = s.notices ∧
    (s.postHeader).freeCount = s.freeCount ∧
    (s.postHeader).pending = s.pending := ⟨rfl, rfl, rfl, rfl, rfl, rfl, rfl, rfl, rfl, rfl, rfl, rfl, rfl, rfl, rfl, rfl, rfl, rfl, rfl, rfl⟩

@[simp] theorem State.beginWrite_frame (s : State) :
    (s.beginWrite).time = s.time ∧
    (s.beginWrite).power = s.power ∧
    (s.beginWrite).consts = s.consts ∧
    (s.beginWrite).pulse = s.pulse ∧
    (s.beginWrite).sampler = s.sampler ∧
    (s.beginWrite).discretes = s.discretes ∧
    (s.beginWrite).channels = s.channels ∧
    (s.beginWrite).curves = s.curves ∧
    (s.beginWrite).accum = s.accum ∧
    (s.beginWrite).drum = s.drum ∧
    (s.beginWrite).trip = s.trip ∧
    (s.beginWrite).gauge = s.gauge ∧
    (s.beginWrite).monitor = s.monitor ∧
    (s.beginWrite).chime = s.chime ∧
    (s.beginWrite).lamp = s.lamp ∧
    (s.beginWrite).service = s.service ∧
    (s.beginWrite).link = s.link ∧
    (s.beginWrite).notices = s.notices ∧
    (s.beginWrite).freeCount = s.freeCount ∧
    (s.beginWrite).pending = s.pending := by
  simp only [State.beginWrite]
  repeat' split
  all_goals simp

@[simp] theorem State.completeWord_frame (s : State) :
    (s.completeWord).time = s.time ∧
    (s.completeWord).power = s.power ∧
    (s.completeWord).consts = s.consts ∧
    (s.completeWord).pulse = s.pulse ∧
    (s.completeWord).sampler = s.sampler ∧
    (s.completeWord).discretes = s.discretes ∧
    (s.completeWord).channels = s.channels ∧
    (s.completeWord).curves = s.curves ∧
    (s.completeWord).drum = s.drum ∧
    (s.completeWord).trip = s.trip ∧
    (s.completeWord).gauge = s.gauge ∧
    (s.completeWord).monitor = s.monitor ∧
    (s.completeWord).chime = s.chime ∧
    (s.completeWord).lamp = s.lamp ∧
    (s.completeWord).service = s.service ∧
    (s.completeWord).link = s.link ∧
    (s.completeWord).notices = s.notices ∧
    (s.completeWord).freeCount = s.freeCount ∧
    (s.completeWord).pending = s.pending := by
  simp only [State.completeWord]
  repeat' split
  all_goals simp

@[simp] theorem State.leaveWord_frame (s : State) (a : Nat) :
    (s.leaveWord a).time = s.time ∧
    (s.leaveWord a).power = s.power ∧
    (s.leaveWord a).consts = s.consts ∧
    (s.leaveWord a).pulse = s.pulse ∧
    (s.leaveWord a).sampler = s.sampler ∧
    (s.leaveWord a).discretes = s.discretes ∧
    (s.leaveWord a).channels = s.channels ∧
    (s.leaveWord a).curves = s.curves ∧
    (s.leaveWord a).accum = s.accum ∧
    (s.leaveWord a).drum = s.drum ∧
    (s.leaveWord a).trip = s.trip ∧
    (s.leaveWord a).gauge = s.gauge ∧
    (s.leaveWord a).monitor = s.monitor ∧
    (s.leaveWord a).chime = s.chime ∧
    (s.leaveWord a).lamp = s.lamp ∧
    (s.leaveWord a).service = s.service ∧
    (s.leaveWord a).link = s.link ∧
    (s.leaveWord a).notices = s.notices ∧
    (s.leaveWord a).pending = s.pending := ⟨rfl, rfl, rfl, rfl, rfl, rfl, rfl, rfl, rfl, rfl, rfl, rfl, rfl, rfl, rfl, rfl, rfl, rfl, rfl⟩

@[simp] theorem State.failWord_frame (s : State) :
    (s.failWord).time = s.time ∧
    (s.failWord).power = s.power ∧
    (s.failWord).consts = s.consts ∧
    (s.failWord).pulse = s.pulse ∧
    (s.failWord).sampler = s.sampler ∧
    (s.failWord).discretes = s.discretes ∧
    (s.failWord).channels = s.channels ∧
    (s.failWord).curves = s.curves ∧
    (s.failWord).accum = s.accum ∧
    (s.failWord).drum = s.drum ∧
    (s.failWord).trip = s.trip ∧
    (s.failWord).gauge = s.gauge ∧
    (s.failWord).monitor = s.monitor ∧
    (s.failWord).chime = s.chime ∧
    (s.failWord).lamp = s.lamp ∧
    (s.failWord).service = s.service ∧
    (s.failWord).link = s.link ∧
    (s.failWord).pending = s.pending := by
  simp only [State.failWord]
  repeat' split
  all_goals simp

@[simp] theorem State.cutEeprom_frame (s : State) :
    (s.cutEeprom).time = s.time ∧
    (s.cutEeprom).power = s.power ∧
    (s.cutEeprom).consts = s.consts ∧
    (s.cutEeprom).pulse = s.pulse ∧
    (s.cutEeprom).sampler = s.sampler ∧
    (s.cutEeprom).discretes = s.discretes ∧
    (s.cutEeprom).channels = s.channels ∧
    (s.cutEeprom).curves = s.curves ∧
    (s.cutEeprom).accum = s.accum ∧
    (s.cutEeprom).drum = s.drum ∧
    (s.cutEeprom).trip = s.trip ∧
    (s.cutEeprom).gauge = s.gauge ∧
    (s.cutEeprom).monitor = s.monitor ∧
    (s.cutEeprom).chime = s.chime ∧
    (s.cutEeprom).lamp = s.lamp ∧
    (s.cutEeprom).service = s.service ∧
    (s.cutEeprom).link = s.link ∧
    (s.cutEeprom).notices = s.notices ∧
    (s.cutEeprom).pending = s.pending := by
  simp only [State.cutEeprom]
  repeat' split
  all_goals simp

@[simp] theorem State.setItem_frame (s : State) (k : Fin 6) (i : ServiceItem) :
    (s.setItem k i).time = s.time ∧
    (s.setItem k i).power = s.power ∧
    (s.setItem k i).consts = s.consts ∧
    (s.setItem k i).pulse = s.pulse ∧
    (s.setItem k i).sampler = s.sampler ∧
    (s.setItem k i).discretes = s.discretes ∧
    (s.setItem k i).channels = s.channels ∧
    (s.setItem k i).curves = s.curves ∧
    (s.setItem k i).accum = s.accum ∧
    (s.setItem k i).drum = s.drum ∧
    (s.setItem k i).trip = s.trip ∧
    (s.setItem k i).gauge = s.gauge ∧
    (s.setItem k i).monitor = s.monitor ∧
    (s.setItem k i).chime = s.chime ∧
    (s.setItem k i).lamp = s.lamp ∧
    (s.setItem k i).eeprom = s.eeprom ∧
    (s.setItem k i).link = s.link ∧
    (s.setItem k i).notices = s.notices ∧
    (s.setItem k i).freeCount = s.freeCount ∧
    (s.setItem k i).pending = s.pending := ⟨rfl, rfl, rfl, rfl, rfl, rfl, rfl, rfl, rfl, rfl, rfl, rfl, rfl, rfl, rfl, rfl, rfl, rfl, rfl, rfl⟩

@[simp] theorem State.setItemClaim_frame (s : State) (k : Fin 6) (l : Option (Fin 12)) (c : Option LampMode) :
    (s.setItemClaim k l c).time = s.time ∧
    (s.setItemClaim k l c).power = s.power ∧
    (s.setItemClaim k l c).consts = s.consts ∧
    (s.setItemClaim k l c).pulse = s.pulse ∧
    (s.setItemClaim k l c).sampler = s.sampler ∧
    (s.setItemClaim k l c).discretes = s.discretes ∧
    (s.setItemClaim k l c).channels = s.channels ∧
    (s.setItemClaim k l c).curves = s.curves ∧
    (s.setItemClaim k l c).accum = s.accum ∧
    (s.setItemClaim k l c).drum = s.drum ∧
    (s.setItemClaim k l c).trip = s.trip ∧
    (s.setItemClaim k l c).gauge = s.gauge ∧
    (s.setItemClaim k l c).monitor = s.monitor ∧
    (s.setItemClaim k l c).chime = s.chime ∧
    (s.setItemClaim k l c).service = s.service ∧
    (s.setItemClaim k l c).eeprom = s.eeprom ∧
    (s.setItemClaim k l c).link = s.link ∧
    (s.setItemClaim k l c).notices = s.notices ∧
    (s.setItemClaim k l c).freeCount = s.freeCount ∧
    (s.setItemClaim k l c).pending = s.pending := by
  simp only [State.setItemClaim]
  repeat' split
  all_goals simp

@[simp] theorem State.alignItem_frame (s : State) (k : Fin 6) :
    (s.alignItem k).time = s.time ∧
    (s.alignItem k).power = s.power ∧
    (s.alignItem k).consts = s.consts ∧
    (s.alignItem k).pulse = s.pulse ∧
    (s.alignItem k).sampler = s.sampler ∧
    (s.alignItem k).discretes = s.discretes ∧
    (s.alignItem k).channels = s.channels ∧
    (s.alignItem k).curves = s.curves ∧
    (s.alignItem k).accum = s.accum ∧
    (s.alignItem k).drum = s.drum ∧
    (s.alignItem k).trip = s.trip ∧
    (s.alignItem k).gauge = s.gauge ∧
    (s.alignItem k).monitor = s.monitor ∧
    (s.alignItem k).service = s.service ∧
    (s.alignItem k).eeprom = s.eeprom ∧
    (s.alignItem k).link = s.link ∧
    (s.alignItem k).freeCount = s.freeCount ∧
    (s.alignItem k).pending = s.pending := by
  simp only [State.alignItem]
  repeat' split
  all_goals simp

@[simp] theorem State.recount_frame (s : State) (k : Fin 6) (i : ServiceItem) :
    (s.recount k i).time = s.time ∧
    (s.recount k i).power = s.power ∧
    (s.recount k i).consts = s.consts ∧
    (s.recount k i).pulse = s.pulse ∧
    (s.recount k i).sampler = s.sampler ∧
    (s.recount k i).discretes = s.discretes ∧
    (s.recount k i).channels = s.channels ∧
    (s.recount k i).curves = s.curves ∧
    (s.recount k i).accum = s.accum ∧
    (s.recount k i).drum = s.drum ∧
    (s.recount k i).trip = s.trip ∧
    (s.recount k i).gauge = s.gauge ∧
    (s.recount k i).monitor = s.monitor ∧
    (s.recount k i).eeprom = s.eeprom ∧
    (s.recount k i).link = s.link ∧
    (s.recount k i).freeCount = s.freeCount ∧
    (s.recount k i).pending = s.pending := by
  simp only [State.recount]
  repeat' split
  all_goals simp

@[simp] theorem State.serviceDu_frame (s : State) :
    (s.serviceDu).time = s.time ∧
    (s.serviceDu).power = s.power ∧
    (s.serviceDu).consts = s.consts ∧
    (s.serviceDu).pulse = s.pulse ∧
    (s.serviceDu).sampler = s.sampler ∧
    (s.serviceDu).discretes = s.discretes ∧
    (s.serviceDu).channels = s.channels ∧
    (s.serviceDu).curves = s.curves ∧
    (s.serviceDu).accum = s.accum ∧
    (s.serviceDu).drum = s.drum ∧
    (s.serviceDu).trip = s.trip ∧
    (s.serviceDu).gauge = s.gauge ∧
    (s.serviceDu).monitor = s.monitor ∧
    (s.serviceDu).eeprom = s.eeprom ∧
    (s.serviceDu).link = s.link ∧
    (s.serviceDu).freeCount = s.freeCount ∧
    (s.serviceDu).pending = s.pending := by
  unfold State.serviceDu
  exact ⟨foldl_keeps State.time _ (fun _ _ => by simp) _ _,
    foldl_keeps State.power _ (fun _ _ => by simp) _ _,
    foldl_keeps State.consts _ (fun _ _ => by simp) _ _,
    foldl_keeps State.pulse _ (fun _ _ => by simp) _ _,
    foldl_keeps State.sampler _ (fun _ _ => by simp) _ _,
    foldl_keeps State.discretes _ (fun _ _ => by simp) _ _,
    foldl_keeps State.channels _ (fun _ _ => by simp) _ _,
    foldl_keeps State.curves _ (fun _ _ => by simp) _ _,
    foldl_keeps State.accum _ (fun _ _ => by simp) _ _,
    foldl_keeps State.drum _ (fun _ _ => by simp) _ _,
    foldl_keeps State.trip _ (fun _ _ => by simp) _ _,
    foldl_keeps State.gauge _ (fun _ _ => by simp) _ _,
    foldl_keeps State.monitor _ (fun _ _ => by simp) _ _,
    foldl_keeps State.eeprom _ (fun _ _ => by simp) _ _,
    foldl_keeps State.link _ (fun _ _ => by simp) _ _,
    foldl_keeps State.freeCount _ (fun _ _ => by simp) _ _,
    foldl_keeps State.pending _ (fun _ _ => by simp) _ _⟩

@[simp] theorem State.serviceKr_frame (s : State) :
    (s.serviceKr).time = s.time ∧
    (s.serviceKr).power = s.power ∧
    (s.serviceKr).consts = s.consts ∧
    (s.serviceKr).pulse = s.pulse ∧
    (s.serviceKr).sampler = s.sampler ∧
    (s.serviceKr).discretes = s.discretes ∧
    (s.serviceKr).channels = s.channels ∧
    (s.serviceKr).curves = s.curves ∧
    (s.serviceKr).accum = s.accum ∧
    (s.serviceKr).drum = s.drum ∧
    (s.serviceKr).trip = s.trip ∧
    (s.serviceKr).gauge = s.gauge ∧
    (s.serviceKr).monitor = s.monitor ∧
    (s.serviceKr).eeprom = s.eeprom ∧
    (s.serviceKr).link = s.link ∧
    (s.serviceKr).freeCount = s.freeCount ∧
    (s.serviceKr).pending = s.pending := by
  unfold State.serviceKr
  exact ⟨foldl_keeps State.time _ (fun _ _ => by simp) _ _,
    foldl_keeps State.power _ (fun _ _ => by simp) _ _,
    foldl_keeps State.consts _ (fun _ _ => by simp) _ _,
    foldl_keeps State.pulse _ (fun _ _ => by simp) _ _,
    foldl_keeps State.sampler _ (fun _ _ => by simp) _ _,
    foldl_keeps State.discretes _ (fun _ _ => by simp) _ _,
    foldl_keeps State.channels _ (fun _ _ => by simp) _ _,
    foldl_keeps State.curves _ (fun _ _ => by simp) _ _,
    foldl_keeps State.accum _ (fun _ _ => by simp) _ _,
    foldl_keeps State.drum _ (fun _ _ => by simp) _ _,
    foldl_keeps State.trip _ (fun _ _ => by simp) _ _,
    foldl_keeps State.gauge _ (fun _ _ => by simp) _ _,
    foldl_keeps State.monitor _ (fun _ _ => by simp) _ _,
    foldl_keeps State.eeprom _ (fun _ _ => by simp) _ _,
    foldl_keeps State.link _ (fun _ _ => by simp) _ _,
    foldl_keeps State.freeCount _ (fun _ _ => by simp) _ _,
    foldl_keeps State.pending _ (fun _ _ => by simp) _ _⟩

@[simp] theorem State.serviceDay_frame (s : State) :
    (s.serviceDay).time = s.time ∧
    (s.serviceDay).power = s.power ∧
    (s.serviceDay).consts = s.consts ∧
    (s.serviceDay).pulse = s.pulse ∧
    (s.serviceDay).sampler = s.sampler ∧
    (s.serviceDay).discretes = s.discretes ∧
    (s.serviceDay).channels = s.channels ∧
    (s.serviceDay).curves = s.curves ∧
    (s.serviceDay).accum = s.accum ∧
    (s.serviceDay).drum = s.drum ∧
    (s.serviceDay).trip = s.trip ∧
    (s.serviceDay).gauge = s.gauge ∧
    (s.serviceDay).monitor = s.monitor ∧
    (s.serviceDay).eeprom = s.eeprom ∧
    (s.serviceDay).link = s.link ∧
    (s.serviceDay).freeCount = s.freeCount ∧
    (s.serviceDay).pending = s.pending := by
  unfold State.serviceDay
  exact ⟨foldl_keeps State.time _ (fun _ _ => by simp) _ _,
    foldl_keeps State.power _ (fun _ _ => by simp) _ _,
    foldl_keeps State.consts _ (fun _ _ => by simp) _ _,
    foldl_keeps State.pulse _ (fun _ _ => by simp) _ _,
    foldl_keeps State.sampler _ (fun _ _ => by simp) _ _,
    foldl_keeps State.discretes _ (fun _ _ => by simp) _ _,
    foldl_keeps State.channels _ (fun _ _ => by simp) _ _,
    foldl_keeps State.curves _ (fun _ _ => by simp) _ _,
    foldl_keeps State.accum _ (fun _ _ => by simp) _ _,
    foldl_keeps State.drum _ (fun _ _ => by simp) _ _,
    foldl_keeps State.trip _ (fun _ _ => by simp) _ _,
    foldl_keeps State.gauge _ (fun _ _ => by simp) _ _,
    foldl_keeps State.monitor _ (fun _ _ => by simp) _ _,
    foldl_keeps State.eeprom _ (fun _ _ => by simp) _ _,
    foldl_keeps State.link _ (fun _ _ => by simp) _ _,
    foldl_keeps State.freeCount _ (fun _ _ => by simp) _ _,
    foldl_keeps State.pending _ (fun _ _ => by simp) _ _⟩

@[simp] theorem State.keyOnChimes_frame (s : State) :
    (s.keyOnChimes).time = s.time ∧
    (s.keyOnChimes).power = s.power ∧
    (s.keyOnChimes).consts = s.consts ∧
    (s.keyOnChimes).pulse = s.pulse ∧
    (s.keyOnChimes).sampler = s.sampler ∧
    (s.keyOnChimes).discretes = s.discretes ∧
    (s.keyOnChimes).channels = s.channels ∧
    (s.keyOnChimes).curves = s.curves ∧
    (s.keyOnChimes).accum = s.accum ∧
    (s.keyOnChimes).drum = s.drum ∧
    (s.keyOnChimes).trip = s.trip ∧
    (s.keyOnChimes).gauge = s.gauge ∧
    (s.keyOnChimes).monitor = s.monitor ∧
    (s.keyOnChimes).lamp = s.lamp ∧
    (s.keyOnChimes).service = s.service ∧
    (s.keyOnChimes).eeprom = s.eeprom ∧
    (s.keyOnChimes).link = s.link ∧
    (s.keyOnChimes).notices = s.notices ∧
    (s.keyOnChimes).freeCount = s.freeCount ∧
    (s.keyOnChimes).pending = s.pending := by
  unfold State.keyOnChimes
  exact ⟨foldl_keeps State.time _ (fun _ _ => by split <;> (try split) <;> simp) _ _,
    foldl_keeps State.power _ (fun _ _ => by split <;> (try split) <;> simp) _ _,
    foldl_keeps State.consts _ (fun _ _ => by split <;> (try split) <;> simp) _ _,
    foldl_keeps State.pulse _ (fun _ _ => by split <;> (try split) <;> simp) _ _,
    foldl_keeps State.sampler _ (fun _ _ => by split <;> (try split) <;> simp) _ _,
    foldl_keeps State.discretes _ (fun _ _ => by split <;> (try split) <;> simp) _ _,
    foldl_keeps State.channels _ (fun _ _ => by split <;> (try split) <;> simp) _ _,
    foldl_keeps State.curves _ (fun _ _ => by split <;> (try split) <;> simp) _ _,
    foldl_keeps State.accum _ (fun _ _ => by split <;> (try split) <;> simp) _ _,
    foldl_keeps State.drum _ (fun _ _ => by split <;> (try split) <;> simp) _ _,
    foldl_keeps State.trip _ (fun _ _ => by split <;> (try split) <;> simp) _ _,
    foldl_keeps State.gauge _ (fun _ _ => by split <;> (try split) <;> simp) _ _,
    foldl_keeps State.monitor _ (fun _ _ => by split <;> (try split) <;> simp) _ _,
    foldl_keeps State.lamp _ (fun _ _ => by split <;> (try split) <;> simp) _ _,
    foldl_keeps State.service _ (fun _ _ => by split <;> (try split) <;> simp) _ _,
    foldl_keeps State.eeprom _ (fun _ _ => by split <;> (try split) <;> simp) _ _,
    foldl_keeps State.link _ (fun _ _ => by split <;> (try split) <;> simp) _ _,
    foldl_keeps State.notices _ (fun _ _ => by split <;> (try split) <;> simp) _ _,
    foldl_keeps State.freeCount _ (fun _ _ => by split <;> (try split) <;> simp) _ _,
    foldl_keeps State.pending _ (fun _ _ => by split <;> (try split) <;> simp) _ _⟩

@[simp] theorem State.restartService_frame (s : State) :
    (s.restartService).time = s.time ∧
    (s.restartService).power = s.power ∧
    (s.restartService).consts = s.consts ∧
    (s.restartService).pulse = s.pulse ∧
    (s.restartService).sampler = s.sampler ∧
    (s.restartService).discretes = s.discretes ∧
    (s.restartService).channels = s.channels ∧
    (s.restartService).curves = s.curves ∧
    (s.restartService).accum = s.accum ∧
    (s.restartService).drum = s.drum ∧
    (s.restartService).trip = s.trip ∧
    (s.restartService).gauge = s.gauge ∧
    (s.restartService).monitor = s.monitor ∧
    (s.restartService).eeprom = s.eeprom ∧
    (s.restartService).link = s.link ∧
    (s.restartService).notices = s.notices ∧
    (s.restartService).freeCount = s.freeCount ∧
    (s.restartService).pending = s.pending := by
  unfold State.restartService
  exact ⟨foldl_keeps State.time _ (fun _ _ => by simp) _ _,
    foldl_keeps State.power _ (fun _ _ => by simp) _ _,
    foldl_keeps State.consts _ (fun _ _ => by simp) _ _,
    foldl_keeps State.pulse _ (fun _ _ => by simp) _ _,
    foldl_keeps State.sampler _ (fun _ _ => by simp) _ _,
    foldl_keeps State.discretes _ (fun _ _ => by simp) _ _,
    foldl_keeps State.channels _ (fun _ _ => by simp) _ _,
    foldl_keeps State.curves _ (fun _ _ => by simp) _ _,
    foldl_keeps State.accum _ (fun _ _ => by simp) _ _,
    foldl_keeps State.drum _ (fun _ _ => by simp) _ _,
    foldl_keeps State.trip _ (fun _ _ => by simp) _ _,
    foldl_keeps State.gauge _ (fun _ _ => by simp) _ _,
    foldl_keeps State.monitor _ (fun _ _ => by simp) _ _,
    foldl_keeps State.eeprom _ (fun _ _ => by simp) _ _,
    foldl_keeps State.link _ (fun _ _ => by simp) _ _,
    foldl_keeps State.notices _ (fun _ _ => by simp) _ _,
    foldl_keeps State.freeCount _ (fun _ _ => by simp) _ _,
    foldl_keeps State.pending _ (fun _ _ => by simp) _ _⟩

@[simp] theorem State.configureItem_frame (s : State) (k : Fin 6) (f : ServiceFields) :
    (s.configureItem k f).time = s.time ∧
    (s.configureItem k f).power = s.power ∧
    (s.configureItem k f).consts = s.consts ∧
    (s.configureItem k f).pulse = s.pulse ∧
    (s.configureItem k f).sampler = s.sampler ∧
    (s.configureItem k f).discretes = s.discretes ∧
    (s.configureItem k f).channels = s.channels ∧
    (s.configureItem k f).curves = s.curves ∧
    (s.configureItem k f).accum = s.accum ∧
    (s.configureItem k f).drum = s.drum ∧
    (s.configureItem k f).trip = s.trip ∧
    (s.configureItem k f).gauge = s.gauge ∧
    (s.configureItem k f).monitor = s.monitor ∧
    (s.configureItem k f).eeprom = s.eeprom ∧
    (s.configureItem k f).link = s.link ∧
    (s.configureItem k f).freeCount = s.freeCount ∧
    (s.configureItem k f).pending = s.pending := by
  simp only [State.configureItem]
  repeat' split
  all_goals simp

@[simp] theorem State.resetItem_frame (s : State) (k : Fin 6) :
    (s.resetItem k).time = s.time ∧
    (s.resetItem k).power = s.power ∧
    (s.resetItem k).consts = s.consts ∧
    (s.resetItem k).pulse = s.pulse ∧
    (s.resetItem k).sampler = s.sampler ∧
    (s.resetItem k).discretes = s.discretes ∧
    (s.resetItem k).channels = s.channels ∧
    (s.resetItem k).curves = s.curves ∧
    (s.resetItem k).accum = s.accum ∧
    (s.resetItem k).drum = s.drum ∧
    (s.resetItem k).trip = s.trip ∧
    (s.resetItem k).gauge = s.gauge ∧
    (s.resetItem k).monitor = s.monitor ∧
    (s.resetItem k).eeprom = s.eeprom ∧
    (s.resetItem k).link = s.link ∧
    (s.resetItem k).freeCount = s.freeCount ∧
    (s.resetItem k).pending = s.pending := by
  simp [State.resetItem]

@[simp] theorem State.notifyDrum_frame (s : State) :
    (s.notifyDrum).time = s.time ∧
    (s.notifyDrum).power = s.power ∧
    (s.notifyDrum).consts = s.consts ∧
    (s.notifyDrum).pulse = s.pulse ∧
    (s.notifyDrum).sampler = s.sampler ∧
    (s.notifyDrum).discretes = s.discretes ∧
    (s.notifyDrum).channels = s.channels ∧
    (s.notifyDrum).curves = s.curves ∧
    (s.notifyDrum).accum = s.accum ∧
    (s.notifyDrum).drum = s.drum ∧
    (s.notifyDrum).trip = s.trip ∧
    (s.notifyDrum).gauge = s.gauge ∧
    (s.notifyDrum).monitor = s.monitor ∧
    (s.notifyDrum).chime = s.chime ∧
    (s.notifyDrum).lamp = s.lamp ∧
    (s.notifyDrum).service = s.service ∧
    (s.notifyDrum).eeprom = s.eeprom ∧
    (s.notifyDrum).link = s.link ∧
    (s.notifyDrum).freeCount = s.freeCount ∧
    (s.notifyDrum).pending = s.pending := ⟨rfl, rfl, rfl, rfl, rfl, rfl, rfl, rfl, rfl, rfl, rfl, rfl, rfl, rfl, rfl, rfl, rfl, rfl, rfl, rfl⟩

@[simp] theorem State.drumDu_frame (s : State) :
    (s.drumDu).time = s.time ∧
    (s.drumDu).power = s.power ∧
    (s.drumDu).consts = s.consts ∧
    (s.drumDu).pulse = s.pulse ∧
    (s.drumDu).sampler = s.sampler ∧
    (s.drumDu).discretes = s.discretes ∧
    (s.drumDu).channels = s.channels ∧
    (s.drumDu).curves = s.curves ∧
    (s.drumDu).trip = s.trip ∧
    (s.drumDu).gauge = s.gauge ∧
    (s.drumDu).monitor = s.monitor ∧
    (s.drumDu).chime = s.chime ∧
    (s.drumDu).lamp = s.lamp ∧
    (s.drumDu).service = s.service ∧
    (s.drumDu).eeprom = s.eeprom ∧
    (s.drumDu).link = s.link ∧
    (s.drumDu).freeCount = s.freeCount ∧
    (s.drumDu).pending = s.pending := by
  simp only [State.drumDu]
  repeat' split
  all_goals simp

@[simp] theorem State.countMiss_frame (s : State) :
    (s.countMiss).time = s.time ∧
    (s.countMiss).power = s.power ∧
    (s.countMiss).consts = s.consts ∧
    (s.countMiss).pulse = s.pulse ∧
    (s.countMiss).sampler = s.sampler ∧
    (s.countMiss).discretes = s.discretes ∧
    (s.countMiss).channels = s.channels ∧
    (s.countMiss).curves = s.curves ∧
    (s.countMiss).accum = s.accum ∧
    (s.countMiss).trip = s.trip ∧
    (s.countMiss).gauge = s.gauge ∧
    (s.countMiss).monitor = s.monitor ∧
    (s.countMiss).chime = s.chime ∧
    (s.countMiss).lamp = s.lamp ∧
    (s.countMiss).service = s.service ∧
    (s.countMiss).eeprom = s.eeprom ∧
    (s.countMiss).link = s.link ∧
    (s.countMiss).freeCount = s.freeCount ∧
    (s.countMiss).pending = s.pending := by
  simp only [State.countMiss]
  repeat' split
  all_goals simp

@[simp] theorem State.indexEdge_frame (s : State) :
    (s.indexEdge).time = s.time ∧
    (s.indexEdge).power = s.power ∧
    (s.indexEdge).consts = s.consts ∧
    (s.indexEdge).pulse = s.pulse ∧
    (s.indexEdge).sampler = s.sampler ∧
    (s.indexEdge).discretes = s.discretes ∧
    (s.indexEdge).channels = s.channels ∧
    (s.indexEdge).curves = s.curves ∧
    (s.indexEdge).accum = s.accum ∧
    (s.indexEdge).trip = s.trip ∧
    (s.indexEdge).gauge = s.gauge ∧
    (s.indexEdge).monitor = s.monitor ∧
    (s.indexEdge).chime = s.chime ∧
    (s.indexEdge).lamp = s.lamp ∧
    (s.indexEdge).service = s.service ∧
    (s.indexEdge).eeprom = s.eeprom ∧
    (s.indexEdge).link = s.link ∧
    (s.indexEdge).freeCount = s.freeCount ∧
    (s.indexEdge).pending = s.pending := by
  simp only [State.indexEdge]
  repeat' split
  all_goals simp

@[simp] theorem State.stepDrum_frame (s : State) :
    (s.stepDrum).time = s.time ∧
    (s.stepDrum).power = s.power ∧
    (s.stepDrum).consts = s.consts ∧
    (s.stepDrum).pulse = s.pulse ∧
    (s.stepDrum).sampler = s.sampler ∧
    (s.stepDrum).discretes = s.discretes ∧
    (s.stepDrum).channels = s.channels ∧
    (s.stepDrum).curves = s.curves ∧
    (s.stepDrum).accum = s.accum ∧
    (s.stepDrum).trip = s.trip ∧
    (s.stepDrum).gauge = s.gauge ∧
    (s.stepDrum).monitor = s.monitor ∧
    (s.stepDrum).chime = s.chime ∧
    (s.stepDrum).lamp = s.lamp ∧
    (s.stepDrum).service = s.service ∧
    (s.stepDrum).eeprom = s.eeprom ∧
    (s.stepDrum).link = s.link ∧
    (s.stepDrum).notices = s.notices ∧
    (s.stepDrum).freeCount = s.freeCount ∧
    (s.stepDrum).pending = s.pending := by
  simp only [State.stepDrum]
  repeat' split
  all_goals simp

@[simp] theorem State.missIndex_frame (s : State) :
    (s.missIndex).time = s.time ∧
    (s.missIndex).power = s.power ∧
    (s.missIndex).consts = s.consts ∧
    (s.missIndex).pulse = s.pulse ∧
    (s.missIndex).sampler = s.sampler ∧
    (s.missIndex).discretes = s.discretes ∧
    (s.missIndex).channels = s.channels ∧
    (s.missIndex).curves = s.curves ∧
    (s.missIndex).accum = s.accum ∧
    (s.missIndex).trip = s.trip ∧
    (s.missIndex).gauge = s.gauge ∧
    (s.missIndex).monitor = s.monitor ∧
    (s.missIndex).chime = s.chime ∧
    (s.missIndex).lamp = s.lamp ∧
    (s.missIndex).service = s.service ∧
    (s.missIndex).eeprom = s.eeprom ∧
    (s.missIndex).link = s.link ∧
    (s.missIndex).freeCount = s.freeCount ∧
    (s.missIndex).pending = s.pending := by
  simp only [State.missIndex]
  repeat' split
  all_goals simp

@[simp] theorem State.releaseCoils_frame (s : State) :
    (s.releaseCoils).time = s.time ∧
    (s.releaseCoils).power = s.power ∧
    (s.releaseCoils).consts = s.consts ∧
    (s.releaseCoils).pulse = s.pulse ∧
    (s.releaseCoils).sampler = s.sampler ∧
    (s.releaseCoils).discretes = s.discretes ∧
    (s.releaseCoils).channels = s.channels ∧
    (s.releaseCoils).curves = s.curves ∧
    (s.releaseCoils).accum = s.accum ∧
    (s.releaseCoils).trip = s.trip ∧
    (s.releaseCoils).gauge = s.gauge ∧
    (s.releaseCoils).monitor = s.monitor ∧
    (s.releaseCoils).chime = s.chime ∧
    (s.releaseCoils).lamp = s.lamp ∧
    (s.releaseCoils).service = s.service ∧
    (s.releaseCoils).eeprom = s.eeprom ∧
    (s.releaseCoils).link = s.link ∧
    (s.releaseCoils).notices = s.notices ∧
    (s.releaseCoils).freeCount = s.freeCount ∧
    (s.releaseCoils).pending = s.pending := by
  simp only [State.releaseCoils]
  repeat' split
  all_goals simp

@[simp] theorem State.writeConsumption_frame (s : State) :
    (s.writeConsumption).time = s.time ∧
    (s.writeConsumption).power = s.power ∧
    (s.writeConsumption).consts = s.consts ∧
    (s.writeConsumption).pulse = s.pulse ∧
    (s.writeConsumption).sampler = s.sampler ∧
    (s.writeConsumption).discretes = s.discretes ∧
    (s.writeConsumption).curves = s.curves ∧
    (s.writeConsumption).accum = s.accum ∧
    (s.writeConsumption).drum = s.drum ∧
    (s.writeConsumption).trip = s.trip ∧
    (s.writeConsumption).gauge = s.gauge ∧
    (s.writeConsumption).monitor = s.monitor ∧
    (s.writeConsumption).chime = s.chime ∧
    (s.writeConsumption).lamp = s.lamp ∧
    (s.writeConsumption).service = s.service ∧
    (s.writeConsumption).eeprom = s.eeprom ∧
    (s.writeConsumption).link = s.link ∧
    (s.writeConsumption).freeCount = s.freeCount ∧
    (s.writeConsumption).pending = s.pending := by
  simp only [State.writeConsumption]
  repeat' split
  all_goals simp

@[simp] theorem State.tripWindow_frame (s : State) (c : Nat) :
    (s.tripWindow c).time = s.time ∧
    (s.tripWindow c).power = s.power ∧
    (s.tripWindow c).consts = s.consts ∧
    (s.tripWindow c).pulse = s.pulse ∧
    (s.tripWindow c).sampler = s.sampler ∧
    (s.tripWindow c).discretes = s.discretes ∧
    (s.tripWindow c).curves = s.curves ∧
    (s.tripWindow c).accum = s.accum ∧
    (s.tripWindow c).drum = s.drum ∧
    (s.tripWindow c).gauge = s.gauge ∧
    (s.tripWindow c).monitor = s.monitor ∧
    (s.tripWindow c).chime = s.chime ∧
    (s.tripWindow c).lamp = s.lamp ∧
    (s.tripWindow c).service = s.service ∧
    (s.tripWindow c).eeprom = s.eeprom ∧
    (s.tripWindow c).link = s.link ∧
    (s.tripWindow c).freeCount = s.freeCount ∧
    (s.tripWindow c).pending = s.pending := by
  simp [State.tripWindow]

@[simp] theorem State.presentRange_frame (s : State) :
    (s.presentRange).time = s.time ∧
    (s.presentRange).power = s.power ∧
    (s.presentRange).consts = s.consts ∧
    (s.presentRange).pulse = s.pulse ∧
    (s.presentRange).sampler = s.sampler ∧
    (s.presentRange).discretes = s.discretes ∧
    (s.presentRange).curves = s.curves ∧
    (s.presentRange).accum = s.accum ∧
    (s.presentRange).drum = s.drum ∧
    (s.presentRange).gauge = s.gauge ∧
    (s.presentRange).monitor = s.monitor ∧
    (s.presentRange).chime = s.chime ∧
    (s.presentRange).lamp = s.lamp ∧
    (s.presentRange).service = s.service ∧
    (s.presentRange).eeprom = s.eeprom ∧
    (s.presentRange).link = s.link ∧
    (s.presentRange).freeCount = s.freeCount ∧
    (s.presentRange).pending = s.pending := by
  simp only [State.presentRange]
  repeat' split
  all_goals simp

@[simp] theorem State.tripSecond_frame (s : State) :
    (s.tripSecond).time = s.time ∧
    (s.tripSecond).power = s.power ∧
    (s.tripSecond).consts = s.consts ∧
    (s.tripSecond).pulse = s.pulse ∧
    (s.tripSecond).sampler = s.sampler ∧
    (s.tripSecond).discretes = s.discretes ∧
    (s.tripSecond).curves = s.curves ∧
    (s.tripSecond).accum = s.accum ∧
    (s.tripSecond).drum = s.drum ∧
    (s.tripSecond).gauge = s.gauge ∧
    (s.tripSecond).monitor = s.monitor ∧
    (s.tripSecond).chime = s.chime ∧
    (s.tripSecond).lamp = s.lamp ∧
    (s.tripSecond).service = s.service ∧
    (s.tripSecond).eeprom = s.eeprom ∧
    (s.tripSecond).link = s.link ∧
    (s.tripSecond).freeCount = s.freeCount ∧
    (s.tripSecond).pending = s.pending := by
  simp only [State.tripSecond]
  repeat' split
  all_goals simp

@[simp] theorem State.autoReset_frame (s : State) :
    (s.autoReset).time = s.time ∧
    (s.autoReset).power = s.power ∧
    (s.autoReset).consts = s.consts ∧
    (s.autoReset).pulse = s.pulse ∧
    (s.autoReset).sampler = s.sampler ∧
    (s.autoReset).discretes = s.discretes ∧
    (s.autoReset).channels = s.channels ∧
    (s.autoReset).curves = s.curves ∧
    (s.autoReset).accum = s.accum ∧
    (s.autoReset).drum = s.drum ∧
    (s.autoReset).gauge = s.gauge ∧
    (s.autoReset).monitor = s.monitor ∧
    (s.autoReset).chime = s.chime ∧
    (s.autoReset).lamp = s.lamp ∧
    (s.autoReset).service = s.service ∧
    (s.autoReset).eeprom = s.eeprom ∧
    (s.autoReset).link = s.link ∧
    (s.autoReset).freeCount = s.freeCount ∧
    (s.autoReset).pending = s.pending := by
  simp only [State.autoReset]
  repeat' split
  all_goals simp

@[simp] theorem State.countDu_frame (s : State) :
    (s.countDu).time = s.time ∧
    (s.countDu).power = s.power ∧
    (s.countDu).consts = s.consts ∧
    (s.countDu).pulse = s.pulse ∧
    (s.countDu).sampler = s.sampler ∧
    (s.countDu).discretes = s.discretes ∧
    (s.countDu).channels = s.channels ∧
    (s.countDu).curves = s.curves ∧
    (s.countDu).drum = s.drum ∧
    (s.countDu).gauge = s.gauge ∧
    (s.countDu).monitor = s.monitor ∧
    (s.countDu).chime = s.chime ∧
    (s.countDu).lamp = s.lamp ∧
    (s.countDu).service = s.service ∧
    (s.countDu).eeprom = s.eeprom ∧
    (s.countDu).link = s.link ∧
    (s.countDu).notices = s.notices ∧
    (s.countDu).freeCount = s.freeCount ∧
    (s.countDu).pending = s.pending := ⟨rfl, rfl, rfl, rfl, rfl, rfl, rfl, rfl, rfl, rfl, rfl, rfl, rfl, rfl, rfl, rfl, rfl, rfl, rfl⟩

@[simp] theorem State.postHundred_frame (s : State) :
    (s.postHundred).time = s.time ∧
    (s.postHundred).power = s.power ∧
    (s.postHundred).consts = s.consts ∧
    (s.postHundred).pulse = s.pulse ∧
    (s.postHundred).sampler = s.sampler ∧
    (s.postHundred).discretes = s.discretes ∧
    (s.postHundred).channels = s.channels ∧
    (s.postHundred).curves = s.curves ∧
    (s.postHundred).accum = s.accum ∧
    (s.postHundred).drum = s.drum ∧
    (s.postHundred).trip = s.trip ∧
    (s.postHundred).gauge = s.gauge ∧
    (s.postHundred).monitor = s.monitor ∧
    (s.postHundred).chime = s.chime ∧
    (s.postHundred).lamp = s.lamp ∧
    (s.postHundred).service = s.service ∧
    (s.postHundred).link = s.link ∧
    (s.postHundred).notices = s.notices ∧
    (s.postHundred).freeCount = s.freeCount ∧
    (s.postHundred).pending = s.pending := by
  simp only [State.postHundred]
  repeat' split
  all_goals simp

@[simp] theorem State.postTenThousand_frame (s : State) :
    (s.postTenThousand).time = s.time ∧
    (s.postTenThousand).power = s.power ∧
    (s.postTenThousand).consts = s.consts ∧
    (s.postTenThousand).pulse = s.pulse ∧
    (s.postTenThousand).sampler = s.sampler ∧
    (s.postTenThousand).discretes = s.discretes ∧
    (s.postTenThousand).channels = s.channels ∧
    (s.postTenThousand).curves = s.curves ∧
    (s.postTenThousand).accum = s.accum ∧
    (s.postTenThousand).drum = s.drum ∧
    (s.postTenThousand).trip = s.trip ∧
    (s.postTenThousand).gauge = s.gauge ∧
    (s.postTenThousand).monitor = s.monitor ∧
    (s.postTenThousand).chime = s.chime ∧
    (s.postTenThousand).lamp = s.lamp ∧
    (s.postTenThousand).service = s.service ∧
    (s.postTenThousand).link = s.link ∧
    (s.postTenThousand).notices = s.notices ∧
    (s.postTenThousand).freeCount = s.freeCount ∧
    (s.postTenThousand).pending = s.pending := by
  simp only [State.postTenThousand]
  repeat' split
  all_goals simp

@[simp] theorem State.emitDu_frame (s : State) :
    (s.emitDu).time = s.time ∧
    (s.emitDu).power = s.power ∧
    (s.emitDu).consts = s.consts ∧
    (s.emitDu).pulse = s.pulse ∧
    (s.emitDu).sampler = s.sampler ∧
    (s.emitDu).discretes = s.discretes ∧
    (s.emitDu).channels = s.channels ∧
    (s.emitDu).curves = s.curves ∧
    (s.emitDu).gauge = s.gauge ∧
    (s.emitDu).monitor = s.monitor ∧
    (s.emitDu).link = s.link ∧
    (s.emitDu).freeCount = s.freeCount ∧
    (s.emitDu).pending = s.pending := by
  simp [State.emitDu]

@[simp] theorem State.addDistance_frame (s : State) :
    (s.addDistance).time = s.time ∧
    (s.addDistance).power = s.power ∧
    (s.addDistance).consts = s.consts ∧
    (s.addDistance).pulse = s.pulse ∧
    (s.addDistance).sampler = s.sampler ∧
    (s.addDistance).discretes = s.discretes ∧
    (s.addDistance).channels = s.channels ∧
    (s.addDistance).curves = s.curves ∧
    (s.addDistance).gauge = s.gauge ∧
    (s.addDistance).monitor = s.monitor ∧
    (s.addDistance).link = s.link ∧
    (s.addDistance).freeCount = s.freeCount ∧
    (s.addDistance).pending = s.pending := by
  simp only [State.addDistance]
  repeat' split
  all_goals simp

@[simp] theorem State.addRevolution_frame (s : State) :
    (s.addRevolution).time = s.time ∧
    (s.addRevolution).power = s.power ∧
    (s.addRevolution).consts = s.consts ∧
    (s.addRevolution).pulse = s.pulse ∧
    (s.addRevolution).sampler = s.sampler ∧
    (s.addRevolution).discretes = s.discretes ∧
    (s.addRevolution).channels = s.channels ∧
    (s.addRevolution).curves = s.curves ∧
    (s.addRevolution).drum = s.drum ∧
    (s.addRevolution).trip = s.trip ∧
    (s.addRevolution).gauge = s.gauge ∧
    (s.addRevolution).monitor = s.monitor ∧
    (s.addRevolution).eeprom = s.eeprom ∧
    (s.addRevolution).link = s.link ∧
    (s.addRevolution).freeCount = s.freeCount ∧
    (s.addRevolution).pending = s.pending := by
  simp only [State.addRevolution]
  repeat' split
  all_goals simp

@[simp] theorem State.addOnTime_frame (s : State) (c : Nat) :
    (s.addOnTime c).time = s.time ∧
    (s.addOnTime c).power = s.power ∧
    (s.addOnTime c).consts = s.consts ∧
    (s.addOnTime c).pulse = s.pulse ∧
    (s.addOnTime c).sampler = s.sampler ∧
    (s.addOnTime c).discretes = s.discretes ∧
    (s.addOnTime c).channels = s.channels ∧
    (s.addOnTime c).curves = s.curves ∧
    (s.addOnTime c).drum = s.drum ∧
    (s.addOnTime c).gauge = s.gauge ∧
    (s.addOnTime c).monitor = s.monitor ∧
    (s.addOnTime c).chime = s.chime ∧
    (s.addOnTime c).lamp = s.lamp ∧
    (s.addOnTime c).service = s.service ∧
    (s.addOnTime c).eeprom = s.eeprom ∧
    (s.addOnTime c).link = s.link ∧
    (s.addOnTime c).notices = s.notices ∧
    (s.addOnTime c).freeCount = s.freeCount ∧
    (s.addOnTime c).pending = s.pending := ⟨rfl, rfl, rfl, rfl, rfl, rfl, rfl, rfl, rfl, rfl, rfl, rfl, rfl, rfl, rfl, rfl, rfl, rfl, rfl⟩

@[simp] theorem State.putConstants_frame (s : State) (c : Constants) :
    (s.putConstants c).time = s.time ∧
    (s.putConstants c).power = s.power ∧
    (s.putConstants c).pulse = s.pulse ∧
    (s.putConstants c).sampler = s.sampler ∧
    (s.putConstants c).discretes = s.discretes ∧
    (s.putConstants c).channels = s.channels ∧
    (s.putConstants c).curves = s.curves ∧
    (s.putConstants c).drum = s.drum ∧
    (s.putConstants c).trip = s.trip ∧
    (s.putConstants c).gauge = s.gauge ∧
    (s.putConstants c).monitor = s.monitor ∧
    (s.putConstants c).chime = s.chime ∧
    (s.putConstants c).lamp = s.lamp ∧
    (s.putConstants c).service = s.service ∧
    (s.putConstants c).eeprom = s.eeprom ∧
    (s.putConstants c).link = s.link ∧
    (s.putConstants c).notices = s.notices ∧
    (s.putConstants c).freeCount = s.freeCount ∧
    (s.putConstants c).pending = s.pending := ⟨rfl, rfl, rfl, rfl, rfl, rfl, rfl, rfl, rfl, rfl, rfl, rfl, rfl, rfl, rfl, rfl, rfl, rfl, rfl⟩

end Sys2Proof.Machine
end

