-- ==== Sys2Proof/Laws/FrameInputs.lean ====
section
/-!
SUPPORT. The frames of the operations of the PIU, the Analog Sampler, the Gauge Unit and the Monitor Table.
-/
namespace Sys2Proof.Machine

@[simp] theorem State.setWindows_frame (s : State) (a b : Window) :
    (s.setWindows a b).time = s.time ∧
    (s.setWindows a b).power = s.power ∧
    (s.setWindows a b).consts = s.consts ∧
    (s.setWindows a b).sampler = s.sampler ∧
    (s.setWindows a b).discretes = s.discretes ∧
    (s.setWindows a b).channels = s.channels ∧
    (s.setWindows a b).curves = s.curves ∧
    (s.setWindows a b).accum = s.accum ∧
    (s.setWindows a b).drum = s.drum ∧
    (s.setWindows a b).trip = s.trip ∧
    (s.setWindows a b).gauge = s.gauge ∧
    (s.setWindows a b).monitor = s.monitor ∧
    (s.setWindows a b).chime = s.chime ∧
    (s.setWindows a b).lamp = s.lamp ∧
    (s.setWindows a b).service = s.service ∧
    (s.setWindows a b).eeprom = s.eeprom ∧
    (s.setWindows a b).link = s.link ∧
    (s.setWindows a b).notices = s.notices ∧
    (s.setWindows a b).freeCount = s.freeCount ∧
    (s.setWindows a b).pending = s.pending := ⟨rfl, rfl, rfl, rfl, rfl, rfl, rfl, rfl, rfl, rfl, rfl, rfl, rfl, rfl, rfl, rfl, rfl, rfl, rfl, rfl⟩

@[simp] theorem State.writeSpeed_frame (s : State) (t : Stamp) :
    (s.writeSpeed t).time = s.time ∧
    (s.writeSpeed t).power = s.power ∧
    (s.writeSpeed t).consts = s.consts ∧
    (s.writeSpeed t).pulse = s.pulse ∧
    (s.writeSpeed t).sampler = s.sampler ∧
    (s.writeSpeed t).discretes = s.discretes ∧
    (s.writeSpeed t).curves = s.curves ∧
    (s.writeSpeed t).accum = s.accum ∧
    (s.writeSpeed t).drum = s.drum ∧
    (s.writeSpeed t).trip = s.trip ∧
    (s.writeSpeed t).gauge = s.gauge ∧
    (s.writeSpeed t).monitor = s.monitor ∧
    (s.writeSpeed t).chime = s.chime ∧
    (s.writeSpeed t).lamp = s.lamp ∧
    (s.writeSpeed t).service = s.service ∧
    (s.writeSpeed t).eeprom = s.eeprom ∧
    (s.writeSpeed t).link = s.link ∧
    (s.writeSpeed t).freeCount = s.freeCount ∧
    (s.writeSpeed t).pending = s.pending := by
  simp [State.writeSpeed]

@[simp] theorem State.writeEngine_frame (s : State) (t : Stamp) :
    (s.writeEngine t).time = s.time ∧
    (s.writeEngine t).power = s.power ∧
    (s.writeEngine t).consts = s.consts ∧
    (s.writeEngine t).pulse = s.pulse ∧
    (s.writeEngine t).sampler = s.sampler ∧
    (s.writeEngine t).discretes = s.discretes ∧
    (s.writeEngine t).curves = s.curves ∧
    (s.writeEngine t).accum = s.accum ∧
    (s.writeEngine t).drum = s.drum ∧
    (s.writeEngine t).trip = s.trip ∧
    (s.writeEngine t).gauge = s.gauge ∧
    (s.writeEngine t).monitor = s.monitor ∧
    (s.writeEngine t).chime = s.chime ∧
    (s.writeEngine t).lamp = s.lamp ∧
    (s.writeEngine t).service = s.service ∧
    (s.writeEngine t).eeprom = s.eeprom ∧
    (s.writeEngine t).link = s.link ∧
    (s.writeEngine t).freeCount = s.freeCount ∧
    (s.writeEngine t).pending = s.pending := by
  simp [State.writeEngine]

@[simp] theorem State.closeWindows_frame (s : State) :
    (s.closeWindows).time = s.time ∧
    (s.closeWindows).power = s.power ∧
    (s.closeWindows).consts = s.consts ∧
    (s.closeWindows).sampler = s.sampler ∧
    (s.closeWindows).discretes = s.discretes ∧
    (s.closeWindows).curves = s.curves ∧
    (s.closeWindows).accum = s.accum ∧
    (s.closeWindows).drum = s.drum ∧
    (s.closeWindows).trip = s.trip ∧
    (s.closeWindows).gauge = s.gauge ∧
    (s.closeWindows).monitor = s.monitor ∧
    (s.closeWindows).chime = s.chime ∧
    (s.closeWindows).lamp = s.lamp ∧
    (s.closeWindows).service = s.service ∧
    (s.closeWindows).eeprom = s.eeprom ∧
    (s.closeWindows).link = s.link ∧
    (s.closeWindows).freeCount = s.freeCount ∧
    (s.closeWindows).pending = s.pending := by
  simp [State.closeWindows]

@[simp] theorem State.advancePulse_frame (s : State) (b : BitVec 8) :
    (s.advancePulse b).power = s.power ∧
    (s.advancePulse b).consts = s.consts ∧
    (s.advancePulse b).sampler = s.sampler ∧
    (s.advancePulse b).discretes = s.discretes ∧
    (s.advancePulse b).channels = s.channels ∧
    (s.advancePulse b).curves = s.curves ∧
    (s.advancePulse b).accum = s.accum ∧
    (s.advancePulse b).drum = s.drum ∧
    (s.advancePulse b).trip = s.trip ∧
    (s.advancePulse b).gauge.gauges = s.gauge.gauges ∧
    (s.advancePulse b).monitor = s.monitor ∧
    (s.advancePulse b).chime = s.chime ∧
    (s.advancePulse b).lamp = s.lamp ∧
    (s.advancePulse b).service = s.service ∧
    (s.advancePulse b).eeprom = s.eeprom ∧
    (s.advancePulse b).link = s.link ∧
    (s.advancePulse b).notices = s.notices ∧
    (s.advancePulse b).freeCount = s.freeCount ∧
    (s.advancePulse b).pending = s.pending := ⟨rfl, rfl, rfl, rfl, rfl, rfl, rfl, rfl, rfl, rfl, rfl, rfl, rfl, rfl, rfl, rfl, rfl, rfl, rfl⟩

@[simp] theorem State.spdEdge_frame (s : State) :
    (s.spdEdge).time = s.time ∧
    (s.spdEdge).power = s.power ∧
    (s.spdEdge).consts = s.consts ∧
    (s.spdEdge).sampler = s.sampler ∧
    (s.spdEdge).discretes = s.discretes ∧
    (s.spdEdge).channels = s.channels ∧
    (s.spdEdge).curves = s.curves ∧
    (s.spdEdge).accum = s.accum ∧
    (s.spdEdge).drum = s.drum ∧
    (s.spdEdge).trip = s.trip ∧
    (s.spdEdge).gauge = s.gauge ∧
    (s.spdEdge).monitor = s.monitor ∧
    (s.spdEdge).chime = s.chime ∧
    (s.spdEdge).lamp = s.lamp ∧
    (s.spdEdge).service = s.service ∧
    (s.spdEdge).eeprom = s.eeprom ∧
    (s.spdEdge).link = s.link ∧
    (s.spdEdge).notices = s.notices ∧
    (s.spdEdge).freeCount = s.freeCount ∧
    (s.spdEdge).pending = s.pending := ⟨rfl, rfl, rfl, rfl, rfl, rfl, rfl, rfl, rfl, rfl, rfl, rfl, rfl, rfl, rfl, rfl, rfl, rfl, rfl, rfl⟩

@[simp] theorem State.tacEdge_frame (s : State) :
    (s.tacEdge).time = s.time ∧
    (s.tacEdge).power = s.power ∧
    (s.tacEdge).consts = s.consts ∧
    (s.tacEdge).sampler = s.sampler ∧
    (s.tacEdge).discretes = s.discretes ∧
    (s.tacEdge).channels = s.channels ∧
    (s.tacEdge).curves = s.curves ∧
    (s.tacEdge).accum = s.accum ∧
    (s.tacEdge).drum = s.drum ∧
    (s.tacEdge).trip = s.trip ∧
    (s.tacEdge).gauge = s.gauge ∧
    (s.tacEdge).monitor = s.monitor ∧
    (s.tacEdge).chime = s.chime ∧
    (s.tacEdge).lamp = s.lamp ∧
    (s.tacEdge).service = s.service ∧
    (s.tacEdge).eeprom = s.eeprom ∧
    (s.tacEdge).link = s.link ∧
    (s.tacEdge).notices = s.notices ∧
    (s.tacEdge).freeCount = s.freeCount ∧
    (s.tacEdge).pending = s.pending := ⟨rfl, rfl, rfl, rfl, rfl, rfl, rfl, rfl, rfl, rfl, rfl, rfl, rfl, rfl, rfl, rfl, rfl, rfl, rfl, rfl⟩

@[simp] theorem State.injChange_frame (s : State) :
    (s.injChange).time = s.time ∧
    (s.injChange).power = s.power ∧
    (s.injChange).consts = s.consts ∧
    (s.injChange).sampler = s.sampler ∧
    (s.injChange).discretes = s.discretes ∧
    (s.injChange).channels = s.channels ∧
    (s.injChange).curves = s.curves ∧
    (s.injChange).accum = s.accum ∧
    (s.injChange).drum = s.drum ∧
    (s.injChange).trip = s.trip ∧
    (s.injChange).gauge = s.gauge ∧
    (s.injChange).monitor = s.monitor ∧
    (s.injChange).chime = s.chime ∧
    (s.injChange).lamp = s.lamp ∧
    (s.injChange).service = s.service ∧
    (s.injChange).eeprom = s.eeprom ∧
    (s.injChange).link = s.link ∧
    (s.injChange).notices = s.notices ∧
    (s.injChange).freeCount = s.freeCount ∧
    (s.injChange).pending = s.pending := ⟨rfl, rfl, rfl, rfl, rfl, rfl, rfl, rfl, rfl, rfl, rfl, rfl, rfl, rfl, rfl, rfl, rfl, rfl, rfl, rfl⟩

@[simp] theorem State.idxInput_frame (s : State) (t : Stamp) :
    (s.idxInput t).time = s.time ∧
    (s.idxInput t).power = s.power ∧
    (s.idxInput t).consts = s.consts ∧
    (s.idxInput t).sampler = s.sampler ∧
    (s.idxInput t).discretes = s.discretes ∧
    (s.idxInput t).channels = s.channels ∧
    (s.idxInput t).curves = s.curves ∧
    (s.idxInput t).accum = s.accum ∧
    (s.idxInput t).drum = s.drum ∧
    (s.idxInput t).trip = s.trip ∧
    (s.idxInput t).gauge = s.gauge ∧
    (s.idxInput t).monitor = s.monitor ∧
    (s.idxInput t).chime = s.chime ∧
    (s.idxInput t).lamp = s.lamp ∧
    (s.idxInput t).service = s.service ∧
    (s.idxInput t).eeprom = s.eeprom ∧
    (s.idxInput t).link = s.link ∧
    (s.idxInput t).notices = s.notices ∧
    (s.idxInput t).freeCount = s.freeCount ∧
    (s.idxInput t).pending = s.pending := ⟨rfl, rfl, rfl, rfl, rfl, rfl, rfl, rfl, rfl, rfl, rfl, rfl, rfl, rfl, rfl, rfl, rfl, rfl, rfl, rfl⟩

@[simp] theorem State.openWindow_frame (s : State) :
    (s.openWindow).time = s.time ∧
    (s.openWindow).power = s.power ∧
    (s.openWindow).consts = s.consts ∧
    (s.openWindow).sampler = s.sampler ∧
    (s.openWindow).discretes = s.discretes ∧
    (s.openWindow).channels = s.channels ∧
    (s.openWindow).curves = s.curves ∧
    (s.openWindow).accum = s.accum ∧
    (s.openWindow).drum = s.drum ∧
    (s.openWindow).trip = s.trip ∧
    (s.openWindow).gauge = s.gauge ∧
    (s.openWindow).monitor = s.monitor ∧
    (s.openWindow).chime = s.chime ∧
    (s.openWindow).lamp = s.lamp ∧
    (s.openWindow).service = s.service ∧
    (s.openWindow).eeprom = s.eeprom ∧
    (s.openWindow).link = s.link ∧
    (s.openWindow).notices = s.notices ∧
    (s.openWindow).freeCount = s.freeCount ∧
    (s.openWindow).pending = s.pending := ⟨rfl, rfl, rfl, rfl, rfl, rfl, rfl, rfl, rfl, rfl, rfl, rfl, rfl, rfl, rfl, rfl, rfl, rfl, rfl, rfl⟩

@[simp] theorem State.closeWindow_frame (s : State) (b : Bool) :
    (s.closeWindow b).time = s.time ∧
    (s.closeWindow b).power = s.power ∧
    (s.closeWindow b).consts = s.consts ∧
    (s.closeWindow b).sampler = s.sampler ∧
    (s.closeWindow b).discretes = s.discretes ∧
    (s.closeWindow b).curves = s.curves ∧
    (s.closeWindow b).drum = s.drum ∧
    (s.closeWindow b).gauge = s.gauge ∧
    (s.closeWindow b).monitor = s.monitor ∧
    (s.closeWindow b).chime = s.chime ∧
    (s.closeWindow b).lamp = s.lamp ∧
    (s.closeWindow b).service = s.service ∧
    (s.closeWindow b).eeprom = s.eeprom ∧
    (s.closeWindow b).link = s.link ∧
    (s.closeWindow b).freeCount = s.freeCount ∧
    (s.closeWindow b).pending = s.pending := by
  simp only [State.closeWindow]
  repeat' split
  all_goals simp

@[simp] theorem State.pulseExit_frame (s : State) :
    (s.pulseExit).time = s.time ∧
    (s.pulseExit).power = s.power ∧
    (s.pulseExit).consts = s.consts ∧
    (s.pulseExit).sampler = s.sampler ∧
    (s.pulseExit).discretes = s.discretes ∧
    (s.pulseExit).curves = s.curves ∧
    (s.pulseExit).accum = s.accum ∧
    (s.pulseExit).drum = s.drum ∧
    (s.pulseExit).trip = s.trip ∧
    (s.pulseExit).gauge = s.gauge ∧
    (s.pulseExit).monitor = s.monitor ∧
    (s.pulseExit).chime = s.chime ∧
    (s.pulseExit).lamp = s.lamp ∧
    (s.pulseExit).service = s.service ∧
    (s.pulseExit).eeprom = s.eeprom ∧
    (s.pulseExit).link = s.link ∧
    (s.pulseExit).freeCount = s.freeCount ∧
    (s.pulseExit).pending = s.pending := by
  simp [State.pulseExit]

@[simp] theorem State.setAnalog_frame (s : State) (i : Fin 6) (a : AnalogInput) :
    (s.setAnalog i a).time = s.time ∧
    (s.setAnalog i a).power = s.power ∧
    (s.setAnalog i a).consts = s.consts ∧
    (s.setAnalog i a).pulse = s.pulse ∧
    (s.setAnalog i a).discretes = s.discretes ∧
    (s.setAnalog i a).channels = s.channels ∧
    (s.setAnalog i a).curves = s.curves ∧
    (s.setAnalog i a).accum = s.accum ∧
    (s.setAnalog i a).drum = s.drum ∧
    (s.setAnalog i a).trip = s.trip ∧
    (s.setAnalog i a).gauge = s.gauge ∧
    (s.setAnalog i a).monitor = s.monitor ∧
    (s.setAnalog i a).chime = s.chime ∧
    (s.setAnalog i a).lamp = s.lamp ∧
    (s.setAnalog i a).service = s.service ∧
    (s.setAnalog i a).eeprom = s.eeprom ∧
    (s.setAnalog i a).link = s.link ∧
    (s.setAnalog i a).notices = s.notices ∧
    (s.setAnalog i a).freeCount = s.freeCount ∧
    (s.setAnalog i a).pending = s.pending := ⟨rfl, rfl, rfl, rfl, rfl, rfl, rfl, rfl, rfl, rfl, rfl, rfl, rfl, rfl, rfl, rfl, rfl, rfl, rfl, rfl⟩

@[simp] theorem State.filterUpdate_frame (s : State) (i : Fin 6) (m : Nat) :
    (s.filterUpdate i m).time = s.time ∧
    (s.filterUpdate i m).power = s.power ∧
    (s.filterUpdate i m).consts = s.consts ∧
    (s.filterUpdate i m).pulse = s.pulse ∧
    (s.filterUpdate i m).discretes = s.discretes ∧
    (s.filterUpdate i m).curves = s.curves ∧
    (s.filterUpdate i m).accum = s.accum ∧
    (s.filterUpdate i m).drum = s.drum ∧
    (s.filterUpdate i m).trip = s.trip ∧
    (s.filterUpdate i m).gauge = s.gauge ∧
    (s.filterUpdate i m).monitor = s.monitor ∧
    (s.filterUpdate i m).chime = s.chime ∧
    (s.filterUpdate i m).lamp = s.lamp ∧
    (s.filterUpdate i m).service = s.service ∧
    (s.filterUpdate i m).eeprom = s.eeprom ∧
    (s.filterUpdate i m).link = s.link ∧
    (s.filterUpdate i m).freeCount = s.freeCount ∧
    (s.filterUpdate i m).pending = s.pending := by
  simp only [State.filterUpdate]
  repeat' split
  all_goals simp

@[simp] theorem State.sampleFaulted_frame (s : State) (i : Fin 6) (r : Nat) :
    (s.sampleFaulted i r).time = s.time ∧
    (s.sampleFaulted i r).power = s.power ∧
    (s.sampleFaulted i r).consts = s.consts ∧
    (s.sampleFaulted i r).pulse = s.pulse ∧
    (s.sampleFaulted i r).discretes = s.discretes ∧
    (s.sampleFaulted i r).curves = s.curves ∧
    (s.sampleFaulted i r).accum = s.accum ∧
    (s.sampleFaulted i r).drum = s.drum ∧
    (s.sampleFaulted i r).trip = s.trip ∧
    (s.sampleFaulted i r).gauge = s.gauge ∧
    (s.sampleFaulted i r).monitor = s.monitor ∧
    (s.sampleFaulted i r).chime = s.chime ∧
    (s.sampleFaulted i r).lamp = s.lamp ∧
    (s.sampleFaulted i r).service = s.service ∧
    (s.sampleFaulted i r).eeprom = s.eeprom ∧
    (s.sampleFaulted i r).link = s.link ∧
    (s.sampleFaulted i r).freeCount = s.freeCount ∧
    (s.sampleFaulted i r).pending = s.pending := by
  simp only [State.sampleFaulted]
  repeat' split
  all_goals simp

@[simp] theorem State.sampleSound_frame (s : State) (i : Fin 6) (r : Nat) :
    (s.sampleSound i r).time = s.time ∧
    (s.sampleSound i r).power = s.power ∧
    (s.sampleSound i r).consts = s.consts ∧
    (s.sampleSound i r).pulse = s.pulse ∧
    (s.sampleSound i r).discretes = s.discretes ∧
    (s.sampleSound i r).curves = s.curves ∧
    (s.sampleSound i r).accum = s.accum ∧
    (s.sampleSound i r).drum = s.drum ∧
    (s.sampleSound i r).trip = s.trip ∧
    (s.sampleSound i r).gauge = s.gauge ∧
    (s.sampleSound i r).monitor = s.monitor ∧
    (s.sampleSound i r).chime = s.chime ∧
    (s.sampleSound i r).lamp = s.lamp ∧
    (s.sampleSound i r).service = s.service ∧
    (s.sampleSound i r).eeprom = s.eeprom ∧
    (s.sampleSound i r).link = s.link ∧
    (s.sampleSound i r).freeCount = s.freeCount ∧
    (s.sampleSound i r).pending = s.pending := by
  simp only [State.sampleSound]
  repeat' split
  all_goals simp

@[simp] theorem State.analogSample_frame (s : State) (i : Fin 6) (r : Nat) :
    (s.analogSample i r).time = s.time ∧
    (s.analogSample i r).power = s.power ∧
    (s.analogSample i r).consts = s.consts ∧
    (s.analogSample i r).pulse = s.pulse ∧
    (s.analogSample i r).discretes = s.discretes ∧
    (s.analogSample i r).curves = s.curves ∧
    (s.analogSample i r).accum = s.accum ∧
    (s.analogSample i r).drum = s.drum ∧
    (s.analogSample i r).trip = s.trip ∧
    (s.analogSample i r).gauge = s.gauge ∧
    (s.analogSample i r).monitor = s.monitor ∧
    (s.analogSample i r).chime = s.chime ∧
    (s.analogSample i r).lamp = s.lamp ∧
    (s.analogSample i r).service = s.service ∧
    (s.analogSample i r).eeprom = s.eeprom ∧
    (s.analogSample i r).link = s.link ∧
    (s.analogSample i r).freeCount = s.freeCount ∧
    (s.analogSample i r).pending = s.pending := by
  simp only [State.analogSample]
  repeat' split
  all_goals simp

@[simp] theorem State.setGauges_frame (s : State) (g : Vector Gauge 6) :
    (s.setGauges g).time = s.time ∧
    (s.setGauges g).power = s.power ∧
    (s.setGauges g).consts = s.consts ∧
    (s.setGauges g).pulse = s.pulse ∧
    (s.setGauges g).sampler = s.sampler ∧
    (s.setGauges g).discretes = s.discretes ∧
    (s.setGauges g).channels = s.channels ∧
    (s.setGauges g).curves = s.curves ∧
    (s.setGauges g).accum = s.accum ∧
    (s.setGauges g).drum = s.drum ∧
    (s.setGauges g).trip = s.trip ∧
    (s.setGauges g).monitor = s.monitor ∧
    (s.setGauges g).chime = s.chime ∧
    (s.setGauges g).lamp = s.lamp ∧
    (s.setGauges g).service = s.service ∧
    (s.setGauges g).eeprom = s.eeprom ∧
    (s.setGauges g).link = s.link ∧
    (s.setGauges g).notices = s.notices ∧
    (s.setGauges g).freeCount = s.freeCount ∧
    (s.setGauges g).pending = s.pending := ⟨rfl, rfl, rfl, rfl, rfl, rfl, rfl, rfl, rfl, rfl, rfl, rfl, rfl, rfl, rfl, rfl, rfl, rfl, rfl, rfl⟩

@[simp] theorem State.setSweep_frame (s : State) (w : Sweep) :
    (s.setSweep w).time = s.time ∧
    (s.setSweep w).power = s.power ∧
    (s.setSweep w).consts = s.consts ∧
    (s.setSweep w).pulse = s.pulse ∧
    (s.setSweep w).sampler = s.sampler ∧
    (s.setSweep w).discretes = s.discretes ∧
    (s.setSweep w).channels = s.channels ∧
    (s.setSweep w).curves = s.curves ∧
    (s.setSweep w).accum = s.accum ∧
    (s.setSweep w).drum = s.drum ∧
    (s.setSweep w).trip = s.trip ∧
    (s.setSweep w).monitor = s.monitor ∧
    (s.setSweep w).chime = s.chime ∧
    (s.setSweep w).lamp = s.lamp ∧
    (s.setSweep w).service = s.service ∧
    (s.setSweep w).eeprom = s.eeprom ∧
    (s.setSweep w).link = s.link ∧
    (s.setSweep w).notices = s.notices ∧
    (s.setSweep w).freeCount = s.freeCount ∧
    (s.setSweep w).pending = s.pending := ⟨rfl, rfl, rfl, rfl, rfl, rfl, rfl, rfl, rfl, rfl, rfl, rfl, rfl, rfl, rfl, rfl, rfl, rfl, rfl, rfl⟩

@[simp] theorem State.setSync_frame (s : State) (p : PulseInput) :
    (s.setSync p).time = s.time ∧
    (s.setSync p).power = s.power ∧
    (s.setSync p).consts = s.consts ∧
    (s.setSync p).pulse = s.pulse ∧
    (s.setSync p).sampler = s.sampler ∧
    (s.setSync p).discretes = s.discretes ∧
    (s.setSync p).channels = s.channels ∧
    (s.setSync p).curves = s.curves ∧
    (s.setSync p).accum = s.accum ∧
    (s.setSync p).drum = s.drum ∧
    (s.setSync p).trip = s.trip ∧
    (s.setSync p).monitor = s.monitor ∧
    (s.setSync p).chime = s.chime ∧
    (s.setSync p).lamp = s.lamp ∧
    (s.setSync p).service = s.service ∧
    (s.setSync p).eeprom = s.eeprom ∧
    (s.setSync p).link = s.link ∧
    (s.setSync p).notices = s.notices ∧
    (s.setSync p).freeCount = s.freeCount ∧
    (s.setSync p).pending = s.pending := ⟨rfl, rfl, rfl, rfl, rfl, rfl, rfl, rfl, rfl, rfl, rfl, rfl, rfl, rfl, rfl, rfl, rfl, rfl, rfl, rfl⟩

@[simp] theorem State.syncInput_frame (s : State) (t : Stamp) :
    (s.syncInput t).time = s.time ∧
    (s.syncInput t).power = s.power ∧
    (s.syncInput t).consts = s.consts ∧
    (s.syncInput t).pulse = s.pulse ∧
    (s.syncInput t).sampler = s.sampler ∧
    (s.syncInput t).discretes = s.discretes ∧
    (s.syncInput t).channels = s.channels ∧
    (s.syncInput t).curves = s.curves ∧
    (s.syncInput t).accum = s.accum ∧
    (s.syncInput t).drum = s.drum ∧
    (s.syncInput t).trip = s.trip ∧
    (s.syncInput t).monitor = s.monitor ∧
    (s.syncInput t).chime = s.chime ∧
    (s.syncInput t).lamp = s.lamp ∧
    (s.syncInput t).service = s.service ∧
    (s.syncInput t).eeprom = s.eeprom ∧
    (s.syncInput t).link = s.link ∧
    (s.syncInput t).notices = s.notices ∧
    (s.syncInput t).freeCount = s.freeCount ∧
    (s.syncInput t).pending = s.pending := ⟨rfl, rfl, rfl, rfl, rfl, rfl, rfl, rfl, rfl, rfl, rfl, rfl, rfl, rfl, rfl, rfl, rfl, rfl, rfl, rfl⟩

@[simp] theorem State.checkSweep_frame (s : State) :
    (s.checkSweep).time = s.time ∧
    (s.checkSweep).power = s.power ∧
    (s.checkSweep).consts = s.consts ∧
    (s.checkSweep).pulse = s.pulse ∧
    (s.checkSweep).sampler = s.sampler ∧
    (s.checkSweep).discretes = s.discretes ∧
    (s.checkSweep).channels = s.channels ∧
    (s.checkSweep).curves = s.curves ∧
    (s.checkSweep).accum = s.accum ∧
    (s.checkSweep).drum = s.drum ∧
    (s.checkSweep).trip = s.trip ∧
    (s.checkSweep).monitor = s.monitor ∧
    (s.checkSweep).chime = s.chime ∧
    (s.checkSweep).lamp = s.lamp ∧
    (s.checkSweep).service = s.service ∧
    (s.checkSweep).eeprom = s.eeprom ∧
    (s.checkSweep).link = s.link ∧
    (s.checkSweep).freeCount = s.freeCount ∧
    (s.checkSweep).pending = s.pending := by
  simp only [State.checkSweep]
  repeat' split
  all_goals simp

@[simp] theorem State.stepGauges_frame (s : State) :
    (s.stepGauges).time = s.time ∧
    (s.stepGauges).power = s.power ∧
    (s.stepGauges).consts = s.consts ∧
    (s.stepGauges).pulse = s.pulse ∧
    (s.stepGauges).sampler = s.sampler ∧
    (s.stepGauges).discretes = s.discretes ∧
    (s.stepGauges).channels = s.channels ∧
    (s.stepGauges).curves = s.curves ∧
    (s.stepGauges).accum = s.accum ∧
    (s.stepGauges).drum = s.drum ∧
    (s.stepGauges).trip = s.trip ∧
    (s.stepGauges).monitor = s.monitor ∧
    (s.stepGauges).chime = s.chime ∧
    (s.stepGauges).lamp = s.lamp ∧
    (s.stepGauges).service = s.service ∧
    (s.stepGauges).eeprom = s.eeprom ∧
    (s.stepGauges).link = s.link ∧
    (s.stepGauges).notices = s.notices ∧
    (s.stepGauges).freeCount = s.freeCount ∧
    (s.stepGauges).pending = s.pending := ⟨rfl, rfl, rfl, rfl, rfl, rfl, rfl, rfl, rfl, rfl, rfl, rfl, rfl, rfl, rfl, rfl, rfl, rfl, rfl, rfl⟩

@[simp] theorem State.motionStep_frame (s : State) :
    (s.motionStep).time = s.time ∧
    (s.motionStep).power = s.power ∧
    (s.motionStep).consts = s.consts ∧
    (s.motionStep).pulse = s.pulse ∧
    (s.motionStep).sampler = s.sampler ∧
    (s.motionStep).discretes = s.discretes ∧
    (s.motionStep).channels = s.channels ∧
    (s.motionStep).curves = s.curves ∧
    (s.motionStep).accum = s.accum ∧
    (s.motionStep).drum = s.drum ∧
    (s.motionStep).trip = s.trip ∧
    (s.motionStep).monitor = s.monitor ∧
    (s.motionStep).chime = s.chime ∧
    (s.motionStep).lamp = s.lamp ∧
    (s.motionStep).service = s.service ∧
    (s.motionStep).eeprom = s.eeprom ∧
    (s.motionStep).link = s.link ∧
    (s.motionStep).freeCount = s.freeCount ∧
    (s.motionStep).pending = s.pending := by
  simp only [State.motionStep]
  repeat' split
  all_goals simp

@[simp] theorem State.moveArmed_frame (s : State) (m : GaugeMode) :
    (s.moveArmed m).time = s.time ∧
    (s.moveArmed m).power = s.power ∧
    (s.moveArmed m).consts = s.consts ∧
    (s.moveArmed m).pulse = s.pulse ∧
    (s.moveArmed m).sampler = s.sampler ∧
    (s.moveArmed m).discretes = s.discretes ∧
    (s.moveArmed m).channels = s.channels ∧
    (s.moveArmed m).curves = s.curves ∧
    (s.moveArmed m).accum = s.accum ∧
    (s.moveArmed m).drum = s.drum ∧
    (s.moveArmed m).trip = s.trip ∧
    (s.moveArmed m).monitor = s.monitor ∧
    (s.moveArmed m).chime = s.chime ∧
    (s.moveArmed m).lamp = s.lamp ∧
    (s.moveArmed m).service = s.service ∧
    (s.moveArmed m).eeprom = s.eeprom ∧
    (s.moveArmed m).link = s.link ∧
    (s.moveArmed m).notices = s.notices ∧
    (s.moveArmed m).freeCount = s.freeCount ∧
    (s.moveArmed m).pending = s.pending := ⟨rfl, rfl, rfl, rfl, rfl, rfl, rfl, rfl, rfl, rfl, rfl, rfl, rfl, rfl, rfl, rfl, rfl, rfl, rfl, rfl⟩

@[simp] theorem State.startSweep_frame (s : State) (c : SweepCause) :
    (s.startSweep c).time = s.time ∧
    (s.startSweep c).power = s.power ∧
    (s.startSweep c).consts = s.consts ∧
    (s.startSweep c).pulse = s.pulse ∧
    (s.startSweep c).sampler = s.sampler ∧
    (s.startSweep c).discretes = s.discretes ∧
    (s.startSweep c).channels = s.channels ∧
    (s.startSweep c).curves = s.curves ∧
    (s.startSweep c).accum = s.accum ∧
    (s.startSweep c).drum = s.drum ∧
    (s.startSweep c).trip = s.trip ∧
    (s.startSweep c).monitor = s.monitor ∧
    (s.startSweep c).chime = s.chime ∧
    (s.startSweep c).lamp = s.lamp ∧
    (s.startSweep c).service = s.service ∧
    (s.startSweep c).eeprom = s.eeprom ∧
    (s.startSweep c).link = s.link ∧
    (s.startSweep c).notices = s.notices ∧
    (s.startSweep c).freeCount = s.freeCount ∧
    (s.startSweep c).pending = s.pending := by
  simp only [State.startSweep]
  repeat' split
  all_goals simp

@[simp] theorem State.sweepDelayExpiry_frame (s : State) :
    (s.sweepDelayExpiry).time = s.time ∧
    (s.sweepDelayExpiry).power = s.power ∧
    (s.sweepDelayExpiry).consts = s.consts ∧
    (s.sweepDelayExpiry).pulse = s.pulse ∧
    (s.sweepDelayExpiry).sampler = s.sampler ∧
    (s.sweepDelayExpiry).discretes = s.discretes ∧
    (s.sweepDelayExpiry).channels = s.channels ∧
    (s.sweepDelayExpiry).curves = s.curves ∧
    (s.sweepDelayExpiry).accum = s.accum ∧
    (s.sweepDelayExpiry).drum = s.drum ∧
    (s.sweepDelayExpiry).trip = s.trip ∧
    (s.sweepDelayExpiry).monitor = s.monitor ∧
    (s.sweepDelayExpiry).chime = s.chime ∧
    (s.sweepDelayExpiry).lamp = s.lamp ∧
    (s.sweepDelayExpiry).service = s.service ∧
    (s.sweepDelayExpiry).eeprom = s.eeprom ∧
    (s.sweepDelayExpiry).link = s.link ∧
    (s.sweepDelayExpiry).notices = s.notices ∧
    (s.sweepDelayExpiry).freeCount = s.freeCount ∧
    (s.sweepDelayExpiry).pending = s.pending := by
  simp only [State.sweepDelayExpiry]
  repeat' split
  all_goals simp

@[simp] theorem State.sweepTimeoutExpiry_frame (s : State) :
    (s.sweepTimeoutExpiry).time = s.time ∧
    (s.sweepTimeoutExpiry).power = s.power ∧
    (s.sweepTimeoutExpiry).consts = s.consts ∧
    (s.sweepTimeoutExpiry).pulse = s.pulse ∧
    (s.sweepTimeoutExpiry).sampler = s.sampler ∧
    (s.sweepTimeoutExpiry).discretes = s.discretes ∧
    (s.sweepTimeoutExpiry).channels = s.channels ∧
    (s.sweepTimeoutExpiry).curves = s.curves ∧
    (s.sweepTimeoutExpiry).accum = s.accum ∧
    (s.sweepTimeoutExpiry).drum = s.drum ∧
    (s.sweepTimeoutExpiry).trip = s.trip ∧
    (s.sweepTimeoutExpiry).monitor = s.monitor ∧
    (s.sweepTimeoutExpiry).chime = s.chime ∧
    (s.sweepTimeoutExpiry).lamp = s.lamp ∧
    (s.sweepTimeoutExpiry).service = s.service ∧
    (s.sweepTimeoutExpiry).eeprom = s.eeprom ∧
    (s.sweepTimeoutExpiry).link = s.link ∧
    (s.sweepTimeoutExpiry).freeCount = s.freeCount ∧
    (s.sweepTimeoutExpiry).pending = s.pending := by
  simp only [State.sweepTimeoutExpiry]
  repeat' split
  all_goals simp

@[simp] theorem State.syncEdge_frame (s : State) :
    (s.syncEdge).time = s.time ∧
    (s.syncEdge).power = s.power ∧
    (s.syncEdge).consts = s.consts ∧
    (s.syncEdge).pulse = s.pulse ∧
    (s.syncEdge).sampler = s.sampler ∧
    (s.syncEdge).discretes = s.discretes ∧
    (s.syncEdge).channels = s.channels ∧
    (s.syncEdge).curves = s.curves ∧
    (s.syncEdge).accum = s.accum ∧
    (s.syncEdge).drum = s.drum ∧
    (s.syncEdge).trip = s.trip ∧
    (s.syncEdge).monitor = s.monitor ∧
    (s.syncEdge).chime = s.chime ∧
    (s.syncEdge).lamp = s.lamp ∧
    (s.syncEdge).service = s.service ∧
    (s.syncEdge).eeprom = s.eeprom ∧
    (s.syncEdge).link = s.link ∧
    (s.syncEdge).notices = s.notices ∧
    (s.syncEdge).freeCount = s.freeCount ∧
    (s.syncEdge).pending = s.pending := by
  simp only [State.syncEdge]
  repeat' split
  all_goals simp

@[simp] theorem State.syncPulseEnd_frame (s : State) :
    (s.syncPulseEnd).time = s.time ∧
    (s.syncPulseEnd).power = s.power ∧
    (s.syncPulseEnd).consts = s.consts ∧
    (s.syncPulseEnd).pulse = s.pulse ∧
    (s.syncPulseEnd).sampler = s.sampler ∧
    (s.syncPulseEnd).discretes = s.discretes ∧
    (s.syncPulseEnd).channels = s.channels ∧
    (s.syncPulseEnd).curves = s.curves ∧
    (s.syncPulseEnd).accum = s.accum ∧
    (s.syncPulseEnd).drum = s.drum ∧
    (s.syncPulseEnd).trip = s.trip ∧
    (s.syncPulseEnd).monitor = s.monitor ∧
    (s.syncPulseEnd).chime = s.chime ∧
    (s.syncPulseEnd).lamp = s.lamp ∧
    (s.syncPulseEnd).service = s.service ∧
    (s.syncPulseEnd).eeprom = s.eeprom ∧
    (s.syncPulseEnd).link = s.link ∧
    (s.syncPulseEnd).notices = s.notices ∧
    (s.syncPulseEnd).freeCount = s.freeCount ∧
    (s.syncPulseEnd).pending = s.pending := by
  simp only [State.syncPulseEnd]
  repeat' split
  all_goals simp

@[simp] theorem State.gaugeEntry_frame (s : State) :
    (s.gaugeEntry).time = s.time ∧
    (s.gaugeEntry).power = s.power ∧
    (s.gaugeEntry).consts = s.consts ∧
    (s.gaugeEntry).pulse = s.pulse ∧
    (s.gaugeEntry).sampler = s.sampler ∧
    (s.gaugeEntry).discretes = s.discretes ∧
    (s.gaugeEntry).channels = s.channels ∧
    (s.gaugeEntry).curves = s.curves ∧
    (s.gaugeEntry).accum = s.accum ∧
    (s.gaugeEntry).drum = s.drum ∧
    (s.gaugeEntry).trip = s.trip ∧
    (s.gaugeEntry).monitor = s.monitor ∧
    (s.gaugeEntry).chime = s.chime ∧
    (s.gaugeEntry).lamp = s.lamp ∧
    (s.gaugeEntry).service = s.service ∧
    (s.gaugeEntry).eeprom = s.eeprom ∧
    (s.gaugeEntry).link = s.link ∧
    (s.gaugeEntry).notices = s.notices ∧
    (s.gaugeEntry).freeCount = s.freeCount ∧
    (s.gaugeEntry).pending = s.pending := ⟨rfl, rfl, rfl, rfl, rfl, rfl, rfl, rfl, rfl, rfl, rfl, rfl, rfl, rfl, rfl, rfl, rfl, rfl, rfl, rfl⟩

@[simp] theorem State.gaugeExit_frame (s : State) :
    (s.gaugeExit).time = s.time ∧
    (s.gaugeExit).power = s.power ∧
    (s.gaugeExit).consts = s.consts ∧
    (s.gaugeExit).pulse = s.pulse ∧
    (s.gaugeExit).sampler = s.sampler ∧
    (s.gaugeExit).discretes = s.discretes ∧
    (s.gaugeExit).channels = s.channels ∧
    (s.gaugeExit).curves = s.curves ∧
    (s.gaugeExit).accum = s.accum ∧
    (s.gaugeExit).drum = s.drum ∧
    (s.gaugeExit).trip = s.trip ∧
    (s.gaugeExit).monitor = s.monitor ∧
    (s.gaugeExit).chime = s.chime ∧
    (s.gaugeExit).lamp = s.lamp ∧
    (s.gaugeExit).service = s.service ∧
    (s.gaugeExit).eeprom = s.eeprom ∧
    (s.gaugeExit).link = s.link ∧
    (s.gaugeExit).freeCount = s.freeCount ∧
    (s.gaugeExit).pending = s.pending := by
  simp [State.gaugeExit]

@[simp] theorem State.restartGauges_frame (s : State) :
    (s.restartGauges).time = s.time ∧
    (s.restartGauges).power = s.power ∧
    (s.restartGauges).consts = s.consts ∧
    (s.restartGauges).pulse = s.pulse ∧
    (s.restartGauges).sampler = s.sampler ∧
    (s.restartGauges).discretes = s.discretes ∧
    (s.restartGauges).channels = s.channels ∧
    (s.restartGauges).curves = s.curves ∧
    (s.restartGauges).accum = s.accum ∧
    (s.restartGauges).drum = s.drum ∧
    (s.restartGauges).trip = s.trip ∧
    (s.restartGauges).monitor = s.monitor ∧
    (s.restartGauges).chime = s.chime ∧
    (s.restartGauges).lamp = s.lamp ∧
    (s.restartGauges).service = s.service ∧
    (s.restartGauges).eeprom = s.eeprom ∧
    (s.restartGauges).link = s.link ∧
    (s.restartGauges).freeCount = s.freeCount ∧
    (s.restartGauges).pending = s.pending := by
  simp [State.restartGauges]

@[simp] theorem State.setMonitor_frame (s : State) (i : Fin 16) (m : Monitor) :
    (s.setMonitor i m).time = s.time ∧
    (s.setMonitor i m).power = s.power ∧
    (s.setMonitor i m).consts = s.consts ∧
    (s.setMonitor i m).pulse = s.pulse ∧
    (s.setMonitor i m).sampler = s.sampler ∧
    (s.setMonitor i m).discretes = s.discretes ∧
    (s.setMonitor i m).channels = s.channels ∧
    (s.setMonitor i m).curves = s.curves ∧
    (s.setMonitor i m).accum = s.accum ∧
    (s.setMonitor i m).drum = s.drum ∧
    (s.setMonitor i m).trip = s.trip ∧
    (s.setMonitor i m).gauge = s.gauge ∧
    (s.setMonitor i m).chime = s.chime ∧
    (s.setMonitor i m).lamp = s.lamp ∧
    (s.setMonitor i m).service = s.service ∧
    (s.setMonitor i m).eeprom = s.eeprom ∧
    (s.setMonitor i m).link = s.link ∧
    (s.setMonitor i m).notices = s.notices ∧
    (s.setMonitor i m).freeCount = s.freeCount ∧
    (s.setMonitor i m).pending = s.pending := ⟨rfl, rfl, rfl, rfl, rfl, rfl, rfl, rfl, rfl, rfl, rfl, rfl, rfl, rfl, rfl, rfl, rfl, rfl, rfl, rfl⟩

@[simp] theorem State.setMonitorClaim_frame (s : State) (i : Fin 16) (c : Option LampMode) :
    (s.setMonitorClaim i c).time = s.time ∧
    (s.setMonitorClaim i c).power = s.power ∧
    (s.setMonitorClaim i c).consts = s.consts ∧
    (s.setMonitorClaim i c).pulse = s.pulse ∧
    (s.setMonitorClaim i c).sampler = s.sampler ∧
    (s.setMonitorClaim i c).discretes = s.discretes ∧
    (s.setMonitorClaim i c).channels = s.channels ∧
    (s.setMonitorClaim i c).curves = s.curves ∧
    (s.setMonitorClaim i c).accum = s.accum ∧
    (s.setMonitorClaim i c).drum = s.drum ∧
    (s.setMonitorClaim i c).trip = s.trip ∧
    (s.setMonitorClaim i c).gauge = s.gauge ∧
    (s.setMonitorClaim i c).monitor = s.monitor ∧
    (s.setMonitorClaim i c).chime = s.chime ∧
    (s.setMonitorClaim i c).service = s.service ∧
    (s.setMonitorClaim i c).eeprom = s.eeprom ∧
    (s.setMonitorClaim i c).link = s.link ∧
    (s.setMonitorClaim i c).notices = s.notices ∧
    (s.setMonitorClaim i c).freeCount = s.freeCount ∧
    (s.setMonitorClaim i c).pending = s.pending := by
  simp only [State.setMonitorClaim]
  repeat' split
  all_goals simp

@[simp] theorem State.postMonitorChime_frame (s : State) (i : Fin 16) :
    (s.postMonitorChime i).time = s.time ∧
    (s.postMonitorChime i).power = s.power ∧
    (s.postMonitorChime i).consts = s.consts ∧
    (s.postMonitorChime i).pulse = s.pulse ∧
    (s.postMonitorChime i).sampler = s.sampler ∧
    (s.postMonitorChime i).discretes = s.discretes ∧
    (s.postMonitorChime i).channels = s.channels ∧
    (s.postMonitorChime i).curves = s.curves ∧
    (s.postMonitorChime i).accum = s.accum ∧
    (s.postMonitorChime i).drum = s.drum ∧
    (s.postMonitorChime i).trip = s.trip ∧
    (s.postMonitorChime i).gauge = s.gauge ∧
    (s.postMonitorChime i).monitor = s.monitor ∧
    (s.postMonitorChime i).lamp = s.lamp ∧
    (s.postMonitorChime i).service = s.service ∧
    (s.postMonitorChime i).eeprom = s.eeprom ∧
    (s.postMonitorChime i).link = s.link ∧
    (s.postMonitorChime i).notices = s.notices ∧
    (s.postMonitorChime i).freeCount = s.freeCount ∧
    (s.postMonitorChime i).pending = s.pending := by
  simp only [State.postMonitorChime]
  repeat' split
  all_goals simp

@[simp] theorem State.notifyMonitor_frame (s : State) (i : Fin 16) :
    (s.notifyMonitor i).time = s.time ∧
    (s.notifyMonitor i).power = s.power ∧
    (s.notifyMonitor i).consts = s.consts ∧
    (s.notifyMonitor i).pulse = s.pulse ∧
    (s.notifyMonitor i).sampler = s.sampler ∧
    (s.notifyMonitor i).discretes = s.discretes ∧
    (s.notifyMonitor i).channels = s.channels ∧
    (s.notifyMonitor i).curves = s.curves ∧
    (s.notifyMonitor i).accum = s.accum ∧
    (s.notifyMonitor i).drum = s.drum ∧
    (s.notifyMonitor i).trip = s.trip ∧
    (s.notifyMonitor i).gauge = s.gauge ∧
    (s.notifyMonitor i).monitor = s.monitor ∧
    (s.notifyMonitor i).chime = s.chime ∧
    (s.notifyMonitor i).lamp = s.lamp ∧
    (s.notifyMonitor i).service = s.service ∧
    (s.notifyMonitor i).eeprom = s.eeprom ∧
    (s.notifyMonitor i).link = s.link ∧
    (s.notifyMonitor i).freeCount = s.freeCount ∧
    (s.notifyMonitor i).pending = s.pending := by
  simp only [State.notifyMonitor]
  repeat' split
  all_goals simp

@[simp] theorem State.enterActive_frame (s : State) (i : Fin 16) :
    (s.enterActive i).time = s.time ∧
    (s.enterActive i).power = s.power ∧
    (s.enterActive i).consts = s.consts ∧
    (s.enterActive i).pulse = s.pulse ∧
    (s.enterActive i).sampler = s.sampler ∧
    (s.enterActive i).discretes = s.discretes ∧
    (s.enterActive i).channels = s.channels ∧
    (s.enterActive i).curves = s.curves ∧
    (s.enterActive i).accum = s.accum ∧
    (s.enterActive i).drum = s.drum ∧
    (s.enterActive i).trip = s.trip ∧
    (s.enterActive i).gauge = s.gauge ∧
    (s.enterActive i).service = s.service ∧
    (s.enterActive i).eeprom = s.eeprom ∧
    (s.enterActive i).link = s.link ∧
    (s.enterActive i).freeCount = s.freeCount ∧
    (s.enterActive i).pending = s.pending := by
  simp [State.enterActive]

@[simp] theorem State.enterClear_frame (s : State) (i : Fin 16) :
    (s.enterClear i).time = s.time ∧
    (s.enterClear i).power = s.power ∧
    (s.enterClear i).consts = s.consts ∧
    (s.enterClear i).pulse = s.pulse ∧
    (s.enterClear i).sampler = s.sampler ∧
    (s.enterClear i).discretes = s.discretes ∧
    (s.enterClear i).channels = s.channels ∧
    (s.enterClear i).curves = s.curves ∧
    (s.enterClear i).accum = s.accum ∧
    (s.enterClear i).drum = s.drum ∧
    (s.enterClear i).trip = s.trip ∧
    (s.enterClear i).gauge = s.gauge ∧
    (s.enterClear i).service = s.service ∧
    (s.enterClear i).eeprom = s.eeprom ∧
    (s.enterClear i).link = s.link ∧
    (s.enterClear i).freeCount = s.freeCount ∧
    (s.enterClear i).pending = s.pending := by
  simp [State.enterClear]

@[simp] theorem State.startRelease_frame (s : State) (i : Fin 16) :
    (s.startRelease i).time = s.time ∧
    (s.startRelease i).power = s.power ∧
    (s.startRelease i).consts = s.consts ∧
    (s.startRelease i).pulse = s.pulse ∧
    (s.startRelease i).sampler = s.sampler ∧
    (s.startRelease i).discretes = s.discretes ∧
    (s.startRelease i).channels = s.channels ∧
    (s.startRelease i).curves = s.curves ∧
    (s.startRelease i).accum = s.accum ∧
    (s.startRelease i).drum = s.drum ∧
    (s.startRelease i).trip = s.trip ∧
    (s.startRelease i).gauge = s.gauge ∧
    (s.startRelease i).service = s.service ∧
    (s.startRelease i).eeprom = s.eeprom ∧
    (s.startRelease i).link = s.link ∧
    (s.startRelease i).freeCount = s.freeCount ∧
    (s.startRelease i).pending = s.pending := by
  simp only [State.startRelease]
  repeat' split
  all_goals simp

@[simp] theorem State.startAssert_frame (s : State) (i : Fin 16) :
    (s.startAssert i).time = s.time ∧
    (s.startAssert i).power = s.power ∧
    (s.startAssert i).consts = s.consts ∧
    (s.startAssert i).pulse = s.pulse ∧
    (s.startAssert i).sampler = s.sampler ∧
    (s.startAssert i).discretes = s.discretes ∧
    (s.startAssert i).channels = s.channels ∧
    (s.startAssert i).curves = s.curves ∧
    (s.startAssert i).accum = s.accum ∧
    (s.startAssert i).drum = s.drum ∧
    (s.startAssert i).trip = s.trip ∧
    (s.startAssert i).gauge = s.gauge ∧
    (s.startAssert i).service = s.service ∧
    (s.startAssert i).eeprom = s.eeprom ∧
    (s.startAssert i).link = s.link ∧
    (s.startAssert i).freeCount = s.freeCount ∧
    (s.startAssert i).pending = s.pending := by
  simp only [State.startAssert]
  repeat' split
  all_goals simp

@[simp] theorem State.stateRules_frame (s : State) (i : Fin 16) :
    (s.stateRules i).time = s.time ∧
    (s.stateRules i).power = s.power ∧
    (s.stateRules i).consts = s.consts ∧
    (s.stateRules i).pulse = s.pulse ∧
    (s.stateRules i).sampler = s.sampler ∧
    (s.stateRules i).discretes = s.discretes ∧
    (s.stateRules i).channels = s.channels ∧
    (s.stateRules i).curves = s.curves ∧
    (s.stateRules i).accum = s.accum ∧
    (s.stateRules i).drum = s.drum ∧
    (s.stateRules i).trip = s.trip ∧
    (s.stateRules i).gauge = s.gauge ∧
    (s.stateRules i).service = s.service ∧
    (s.stateRules i).eeprom = s.eeprom ∧
    (s.stateRules i).link = s.link ∧
    (s.stateRules i).freeCount = s.freeCount ∧
    (s.stateRules i).pending = s.pending := by
  simp only [State.stateRules]
  repeat' split
  all_goals simp

@[simp] theorem State.evaluate_frame (s : State) (i : Fin 16) :
    (s.evaluate i).time = s.time ∧
    (s.evaluate i).power = s.power ∧
    (s.evaluate i).consts = s.consts ∧
    (s.evaluate i).pulse = s.pulse ∧
    (s.evaluate i).sampler = s.sampler ∧
    (s.evaluate i).discretes = s.discretes ∧
    (s.evaluate i).channels = s.channels ∧
    (s.evaluate i).curves = s.curves ∧
    (s.evaluate i).accum = s.accum ∧
    (s.evaluate i).drum = s.drum ∧
    (s.evaluate i).trip = s.trip ∧
    (s.evaluate i).gauge = s.gauge ∧
    (s.evaluate i).service = s.service ∧
    (s.evaluate i).eeprom = s.eeprom ∧
    (s.evaluate i).link = s.link ∧
    (s.evaluate i).freeCount = s.freeCount ∧
    (s.evaluate i).pending = s.pending := by
  simp only [State.evaluate]
  repeat' split
  all_goals simp

@[simp] theorem State.monitorEvaluation_frame (s : State) (i : Fin 16) :
    (s.monitorEvaluation i).time = s.time ∧
    (s.monitorEvaluation i).power = s.power ∧
    (s.monitorEvaluation i).consts = s.consts ∧
    (s.monitorEvaluation i).pulse = s.pulse ∧
    (s.monitorEvaluation i).sampler = s.sampler ∧
    (s.monitorEvaluation i).discretes = s.discretes ∧
    (s.monitorEvaluation i).channels = s.channels ∧
    (s.monitorEvaluation i).curves = s.curves ∧
    (s.monitorEvaluation i).accum = s.accum ∧
    (s.monitorEvaluation i).drum = s.drum ∧
    (s.monitorEvaluation i).trip = s.trip ∧
    (s.monitorEvaluation i).gauge = s.gauge ∧
    (s.monitorEvaluation i).service = s.service ∧
    (s.monitorEvaluation i).eeprom = s.eeprom ∧
    (s.monitorEvaluation i).link = s.link ∧
    (s.monitorEvaluation i).freeCount = s.freeCount ∧
    (s.monitorEvaluation i).pending = s.pending := by
  simp only [State.monitorEvaluation]
  repeat' split
  all_goals simp

@[simp] theorem State.assertExpiry_frame (s : State) (i : Fin 16) :
    (s.assertExpiry i).time = s.time ∧
    (s.assertExpiry i).power = s.power ∧
    (s.assertExpiry i).consts = s.consts ∧
    (s.assertExpiry i).pulse = s.pulse ∧
    (s.assertExpiry i).sampler = s.sampler ∧
    (s.assertExpiry i).discretes = s.discretes ∧
    (s.assertExpiry i).channels = s.channels ∧
    (s.assertExpiry i).curves = s.curves ∧
    (s.assertExpiry i).accum = s.accum ∧
    (s.assertExpiry i).drum = s.drum ∧
    (s.assertExpiry i).trip = s.trip ∧
    (s.assertExpiry i).gauge = s.gauge ∧
    (s.assertExpiry i).service = s.service ∧
    (s.assertExpiry i).eeprom = s.eeprom ∧
    (s.assertExpiry i).link = s.link ∧
    (s.assertExpiry i).freeCount = s.freeCount ∧
    (s.assertExpiry i).pending = s.pending := by
  simp only [State.assertExpiry]
  repeat' split
  all_goals simp

@[simp] theorem State.releaseExpiry_frame (s : State) (i : Fin 16) :
    (s.releaseExpiry i).time = s.time ∧
    (s.releaseExpiry i).power = s.power ∧
    (s.releaseExpiry i).consts = s.consts ∧
    (s.releaseExpiry i).pulse = s.pulse ∧
    (s.releaseExpiry i).sampler = s.sampler ∧
    (s.releaseExpiry i).discretes = s.discretes ∧
    (s.releaseExpiry i).channels = s.channels ∧
    (s.releaseExpiry i).curves = s.curves ∧
    (s.releaseExpiry i).accum = s.accum ∧
    (s.releaseExpiry i).drum = s.drum ∧
    (s.releaseExpiry i).trip = s.trip ∧
    (s.releaseExpiry i).gauge = s.gauge ∧
    (s.releaseExpiry i).service = s.service ∧
    (s.releaseExpiry i).eeprom = s.eeprom ∧
    (s.releaseExpiry i).link = s.link ∧
    (s.releaseExpiry i).freeCount = s.freeCount ∧
    (s.releaseExpiry i).pending = s.pending := by
  simp only [State.releaseExpiry]
  repeat' split
  all_goals simp

@[simp] theorem State.reminderExpiry_frame (s : State) (i : Fin 16) :
    (s.reminderExpiry i).time = s.time ∧
    (s.reminderExpiry i).power = s.power ∧
    (s.reminderExpiry i).consts = s.consts ∧
    (s.reminderExpiry i).pulse = s.pulse ∧
    (s.reminderExpiry i).sampler = s.sampler ∧
    (s.reminderExpiry i).discretes = s.discretes ∧
    (s.reminderExpiry i).channels = s.channels ∧
    (s.reminderExpiry i).curves = s.curves ∧
    (s.reminderExpiry i).accum = s.accum ∧
    (s.reminderExpiry i).drum = s.drum ∧
    (s.reminderExpiry i).trip = s.trip ∧
    (s.reminderExpiry i).gauge = s.gauge ∧
    (s.reminderExpiry i).service = s.service ∧
    (s.reminderExpiry i).eeprom = s.eeprom ∧
    (s.reminderExpiry i).link = s.link ∧
    (s.reminderExpiry i).freeCount = s.freeCount ∧
    (s.reminderExpiry i).pending = s.pending := by
  simp only [State.reminderExpiry]
  repeat' split
  all_goals simp

@[simp] theorem State.monitorExit_frame (s : State) (i : Fin 16) :
    (s.monitorExit i).time = s.time ∧
    (s.monitorExit i).power = s.power ∧
    (s.monitorExit i).consts = s.consts ∧
    (s.monitorExit i).pulse = s.pulse ∧
    (s.monitorExit i).sampler = s.sampler ∧
    (s.monitorExit i).discretes = s.discretes ∧
    (s.monitorExit i).channels = s.channels ∧
    (s.monitorExit i).curves = s.curves ∧
    (s.monitorExit i).accum = s.accum ∧
    (s.monitorExit i).drum = s.drum ∧
    (s.monitorExit i).trip = s.trip ∧
    (s.monitorExit i).gauge = s.gauge ∧
    (s.monitorExit i).service = s.service ∧
    (s.monitorExit i).eeprom = s.eeprom ∧
    (s.monitorExit i).link = s.link ∧
    (s.monitorExit i).freeCount = s.freeCount ∧
    (s.monitorExit i).pending = s.pending := by
  simp only [State.monitorExit]
  repeat' split
  all_goals simp

@[simp] theorem State.monitorsExit_frame (s : State) :
    (s.monitorsExit).time = s.time ∧
    (s.monitorsExit).power = s.power ∧
    (s.monitorsExit).consts = s.consts ∧
    (s.monitorsExit).pulse = s.pulse ∧
    (s.monitorsExit).sampler = s.sampler ∧
    (s.monitorsExit).discretes = s.discretes ∧
    (s.monitorsExit).channels = s.channels ∧
    (s.monitorsExit).curves = s.curves ∧
    (s.monitorsExit).accum = s.accum ∧
    (s.monitorsExit).drum = s.drum ∧
    (s.monitorsExit).trip = s.trip ∧
    (s.monitorsExit).gauge = s.gauge ∧
    (s.monitorsExit).service = s.service ∧
    (s.monitorsExit).eeprom = s.eeprom ∧
    (s.monitorsExit).link = s.link ∧
    (s.monitorsExit).freeCount = s.freeCount ∧
    (s.monitorsExit).pending = s.pending := by
  unfold State.monitorsExit
  exact ⟨foldl_keeps State.time _ (fun _ _ => by simp) _ _,
    foldl_keeps State.power _ (fun _ _ => by simp) _ _,
    foldl_keeps State.consts _ (fun _ _ => by simp) _ _,
    foldl_keeps State.pulse _ (fun _ _ => by simp) _ _,
    foldl_keeps State.sampler _ (fun _ _ => by simp) _ _,
    foldl_keeps State.discretes _ (fun _ _ => by simp) _ _,
    foldl_keeps State.channels _ (fun _ _ => by simp) _ _,
    foldl_keeps State.curves _ (fun _ _ => by simp) _ _,
    foldl_keeps State.accum _ (fun _ _ => by simp) _ _,
    foldl_keeps State.drum _ (fun _ _ => by simp) _ _,
    foldl_keeps State.trip _ (fun _ _ => by simp) _ _,
    foldl_keeps State.gauge _ (fun _ _ => by simp) _ _,
    foldl_keeps State.service _ (fun _ _ => by simp) _ _,
    foldl_keeps State.eeprom _ (fun _ _ => by simp) _ _,
    foldl_keeps State.link _ (fun _ _ => by simp) _ _,
    foldl_keeps State.freeCount _ (fun _ _ => by simp) _ _,
    foldl_keeps State.pending _ (fun _ _ => by simp) _ _⟩

@[simp] theorem State.acknowledge_frame (s : State) (i : Fin 16) :
    (s.acknowledge i).time = s.time ∧
    (s.acknowledge i).power = s.power ∧
    (s.acknowledge i).consts = s.consts ∧
    (s.acknowledge i).pulse = s.pulse ∧
    (s.acknowledge i).sampler = s.sampler ∧
    (s.acknowledge i).discretes = s.discretes ∧
    (s.acknowledge i).channels = s.channels ∧
    (s.acknowledge i).curves = s.curves ∧
    (s.acknowledge i).accum = s.accum ∧
    (s.acknowledge i).drum = s.drum ∧
    (s.acknowledge i).trip = s.trip ∧
    (s.acknowledge i).gauge = s.gauge ∧
    (s.acknowledge i).service = s.service ∧
    (s.acknowledge i).eeprom = s.eeprom ∧
    (s.acknowledge i).link = s.link ∧
    (s.acknowledge i).freeCount = s.freeCount ∧
    (s.acknowledge i).pending = s.pending := by
  simp only [State.acknowledge]
  repeat' split
  all_goals simp

@[simp] theorem State.configureMonitor_frame (s : State) (i : Fin 16) (f : MonitorFields) :
    (s.configureMonitor i f).time = s.time ∧
    (s.configureMonitor i f).power = s.power ∧
    (s.configureMonitor i f).consts = s.consts ∧
    (s.configureMonitor i f).pulse = s.pulse ∧
    (s.configureMonitor i f).sampler = s.sampler ∧
    (s.configureMonitor i f).discretes = s.discretes ∧
    (s.configureMonitor i f).channels = s.channels ∧
    (s.configureMonitor i f).curves = s.curves ∧
    (s.configureMonitor i f).accum = s.accum ∧
    (s.configureMonitor i f).drum = s.drum ∧
    (s.configureMonitor i f).trip = s.trip ∧
    (s.configureMonitor i f).gauge = s.gauge ∧
    (s.configureMonitor i f).service = s.service ∧
    (s.configureMonitor i f).eeprom = s.eeprom ∧
    (s.configureMonitor i f).link = s.link ∧
    (s.configureMonitor i f).notices = s.notices ∧
    (s.configureMonitor i f).freeCount = s.freeCount ∧
    (s.configureMonitor i f).pending = s.pending := by
  simp only [State.configureMonitor]
  repeat' split
  all_goals simp

@[simp] theorem State.clearSnapshot_frame (s : State) (i : Fin 16) :
    (s.clearSnapshot i).time = s.time ∧
    (s.clearSnapshot i).power = s.power ∧
    (s.clearSnapshot i).consts = s.consts ∧
    (s.clearSnapshot i).pulse = s.pulse ∧
    (s.clearSnapshot i).sampler = s.sampler ∧
    (s.clearSnapshot i).discretes = s.discretes ∧
    (s.clearSnapshot i).channels = s.channels ∧
    (s.clearSnapshot i).curves = s.curves ∧
    (s.clearSnapshot i).accum = s.accum ∧
    (s.clearSnapshot i).drum = s.drum ∧
    (s.clearSnapshot i).trip = s.trip ∧
    (s.clearSnapshot i).gauge = s.gauge ∧
    (s.clearSnapshot i).chime = s.chime ∧
    (s.clearSnapshot i).lamp = s.lamp ∧
    (s.clearSnapshot i).service = s.service ∧
    (s.clearSnapshot i).eeprom = s.eeprom ∧
    (s.clearSnapshot i).link = s.link ∧
    (s.clearSnapshot i).notices = s.notices ∧
    (s.clearSnapshot i).freeCount = s.freeCount ∧
    (s.clearSnapshot i).pending = s.pending := ⟨rfl, rfl, rfl, rfl, rfl, rfl, rfl, rfl, rfl, rfl, rfl, rfl, rfl, rfl, rfl, rfl, rfl, rfl, rfl, rfl⟩

@[simp] theorem State.restartMonitor_frame (s : State) (i : Fin 16) :
    (s.restartMonitor i).time = s.time ∧
    (s.restartMonitor i).power = s.power ∧
    (s.restartMonitor i).consts = s.consts ∧
    (s.restartMonitor i).pulse = s.pulse ∧
    (s.restartMonitor i).sampler = s.sampler ∧
    (s.restartMonitor i).discretes = s.discretes ∧
    (s.restartMonitor i).channels = s.channels ∧
    (s.restartMonitor i).curves = s.curves ∧
    (s.restartMonitor i).accum = s.accum ∧
    (s.restartMonitor i).drum = s.drum ∧
    (s.restartMonitor i).trip = s.trip ∧
    (s.restartMonitor i).gauge = s.gauge ∧
    (s.restartMonitor i).service = s.service ∧
    (s.restartMonitor i).eeprom = s.eeprom ∧
    (s.restartMonitor i).link = s.link ∧
    (s.restartMonitor i).notices = s.notices ∧
    (s.restartMonitor i).freeCount = s.freeCount ∧
    (s.restartMonitor i).pending = s.pending := by
  simp [State.restartMonitor]

@[simp] theorem State.restartMonitors_frame (s : State) :
    (s.restartMonitors).time = s.time ∧
    (s.restartMonitors).power = s.power ∧
    (s.restartMonitors).consts = s.consts ∧
    (s.restartMonitors).pulse = s.pulse ∧
    (s.restartMonitors).sampler = s.sampler ∧
    (s.restartMonitors).discretes = s.discretes ∧
    (s.restartMonitors).channels = s.channels ∧
    (s.restartMonitors).curves = s.curves ∧
    (s.restartMonitors).accum = s.accum ∧
    (s.restartMonitors).drum = s.drum ∧
    (s.restartMonitors).trip = s.trip ∧
    (s.restartMonitors).gauge = s.gauge ∧
    (s.restartMonitors).service = s.service ∧
    (s.restartMonitors).eeprom = s.eeprom ∧
    (s.restartMonitors).link = s.link ∧
    (s.restartMonitors).notices = s.notices ∧
    (s.restartMonitors).freeCount = s.freeCount ∧
    (s.restartMonitors).pending = s.pending := by
  unfold State.restartMonitors
  exact ⟨foldl_keeps State.time _ (fun _ _ => by simp) _ _,
    foldl_keeps State.power _ (fun _ _ => by simp) _ _,
    foldl_keeps State.consts _ (fun _ _ => by simp) _ _,
    foldl_keeps State.pulse _ (fun _ _ => by simp) _ _,
    foldl_keeps State.sampler _ (fun _ _ => by simp) _ _,
    foldl_keeps State.discretes _ (fun _ _ => by simp) _ _,
    foldl_keeps State.channels _ (fun _ _ => by simp) _ _,
    foldl_keeps State.curves _ (fun _ _ => by simp) _ _,
    foldl_keeps State.accum _ (fun _ _ => by simp) _ _,
    foldl_keeps State.drum _ (fun _ _ => by simp) _ _,
    foldl_keeps State.trip _ (fun _ _ => by simp) _ _,
    foldl_keeps State.gauge _ (fun _ _ => by simp) _ _,
    foldl_keeps State.service _ (fun _ _ => by simp) _ _,
    foldl_keeps State.eeprom _ (fun _ _ => by simp) _ _,
    foldl_keeps State.link _ (fun _ _ => by simp) _ _,
    foldl_keeps State.notices _ (fun _ _ => by simp) _ _,
    foldl_keeps State.freeCount _ (fun _ _ => by simp) _ _,
    foldl_keeps State.pending _ (fun _ _ => by simp) _ _⟩

end Sys2Proof.Machine
end

