-- ==== Sys2Proof/Laws/FramePower.lean ====
section
/-!
SUPPORT. The frames of the operations of Power Control, the Discrete Inputs, the tick and the Link Controller.
-/
namespace Sys2Proof.Machine

@[simp] theorem State.setPower_frame (s : State) (p : PowerState) (l : Linger) :
    (s.setPower p l).time = s.time ∧
    (s.setPower p l).consts = s.consts ∧
    (s.setPower p l).pulse = s.pulse ∧
    (s.setPower p l).sampler = s.sampler ∧
    (s.setPower p l).discretes = s.discretes ∧
    (s.setPower p l).channels = s.channels ∧
    (s.setPower p l).curves = s.curves ∧
    (s.setPower p l).accum = s.accum ∧
    (s.setPower p l).drum = s.drum ∧
    (s.setPower p l).trip = s.trip ∧
    (s.setPower p l).gauge = s.gauge ∧
    (s.setPower p l).monitor = s.monitor ∧
    (s.setPower p l).chime = s.chime ∧
    (s.setPower p l).lamp = s.lamp ∧
    (s.setPower p l).service = s.service ∧
    (s.setPower p l).eeprom = s.eeprom ∧
    (s.setPower p l).link = s.link ∧
    (s.setPower p l).notices = s.notices ∧
    (s.setPower p l).freeCount = s.freeCount ∧
    (s.setPower p l).pending = s.pending := ⟨rfl, rfl, rfl, rfl, rfl, rfl, rfl, rfl, rfl, rfl, rfl, rfl, rfl, rfl, rfl, rfl, rfl, rfl, rfl, rfl⟩

@[simp] theorem State.restartLinger_frame (s : State) :
    (s.restartLinger).time = s.time ∧
    (s.restartLinger).consts = s.consts ∧
    (s.restartLinger).pulse = s.pulse ∧
    (s.restartLinger).sampler = s.sampler ∧
    (s.restartLinger).discretes = s.discretes ∧
    (s.restartLinger).channels = s.channels ∧
    (s.restartLinger).curves = s.curves ∧
    (s.restartLinger).accum = s.accum ∧
    (s.restartLinger).drum = s.drum ∧
    (s.restartLinger).trip = s.trip ∧
    (s.restartLinger).gauge = s.gauge ∧
    (s.restartLinger).monitor = s.monitor ∧
    (s.restartLinger).chime = s.chime ∧
    (s.restartLinger).lamp = s.lamp ∧
    (s.restartLinger).service = s.service ∧
    (s.restartLinger).eeprom = s.eeprom ∧
    (s.restartLinger).link = s.link ∧
    (s.restartLinger).notices = s.notices ∧
    (s.restartLinger).freeCount = s.freeCount ∧
    (s.restartLinger).pending = s.pending := by
  simp only [State.restartLinger]
  repeat' split
  all_goals simp

@[simp] theorem State.lingerExpiry_frame (s : State) :
    (s.lingerExpiry).time = s.time ∧
    (s.lingerExpiry).consts = s.consts ∧
    (s.lingerExpiry).pulse = s.pulse ∧
    (s.lingerExpiry).sampler = s.sampler ∧
    (s.lingerExpiry).discretes = s.discretes ∧
    (s.lingerExpiry).channels = s.channels ∧
    (s.lingerExpiry).curves = s.curves ∧
    (s.lingerExpiry).accum = s.accum ∧
    (s.lingerExpiry).drum = s.drum ∧
    (s.lingerExpiry).trip = s.trip ∧
    (s.lingerExpiry).gauge = s.gauge ∧
    (s.lingerExpiry).monitor = s.monitor ∧
    (s.lingerExpiry).chime = s.chime ∧
    (s.lingerExpiry).lamp = s.lamp ∧
    (s.lingerExpiry).service = s.service ∧
    (s.lingerExpiry).eeprom = s.eeprom ∧
    (s.lingerExpiry).link = s.link ∧
    (s.lingerExpiry).notices = s.notices ∧
    (s.lingerExpiry).freeCount = s.freeCount ∧
    (s.lingerExpiry).pending = s.pending := by
  simp only [State.lingerExpiry]
  repeat' split
  all_goals simp

@[simp] theorem State.startClocks_frame (s : State) :
    (s.startClocks).time = s.time ∧
    (s.startClocks).power = s.power ∧
    (s.startClocks).consts = s.consts ∧
    (s.startClocks).sampler = s.sampler ∧
    (s.startClocks).discretes = s.discretes ∧
    (s.startClocks).channels = s.channels ∧
    (s.startClocks).curves = s.curves ∧
    (s.startClocks).accum = s.accum ∧
    (s.startClocks).drum = s.drum ∧
    (s.startClocks).trip = s.trip ∧
    (s.startClocks).gauge = s.gauge ∧
    (s.startClocks).chime = s.chime ∧
    (s.startClocks).service = s.service ∧
    (s.startClocks).eeprom = s.eeprom ∧
    (s.startClocks).link = s.link ∧
    (s.startClocks).notices = s.notices ∧
    (s.startClocks).freeCount = s.freeCount ∧
    (s.startClocks).pending = s.pending := ⟨rfl, rfl, rfl, rfl, rfl, rfl, rfl, rfl, rfl, rfl, rfl, rfl, rfl, rfl, rfl, rfl, rfl, rfl⟩

@[simp] theorem State.notifyPower_frame (s : State) (c : Nat) :
    (s.notifyPower c).time = s.time ∧
    (s.notifyPower c).power = s.power ∧
    (s.notifyPower c).consts = s.consts ∧
    (s.notifyPower c).pulse = s.pulse ∧
    (s.notifyPower c).sampler = s.sampler ∧
    (s.notifyPower c).discretes = s.discretes ∧
    (s.notifyPower c).channels = s.channels ∧
    (s.notifyPower c).curves = s.curves ∧
    (s.notifyPower c).accum = s.accum ∧
    (s.notifyPower c).drum = s.drum ∧
    (s.notifyPower c).trip = s.trip ∧
    (s.notifyPower c).gauge = s.gauge ∧
    (s.notifyPower c).monitor = s.monitor ∧
    (s.notifyPower c).chime = s.chime ∧
    (s.notifyPower c).lamp = s.lamp ∧
    (s.notifyPower c).service = s.service ∧
    (s.notifyPower c).eeprom = s.eeprom ∧
    (s.notifyPower c).link = s.link ∧
    (s.notifyPower c).freeCount = s.freeCount ∧
    (s.notifyPower c).pending = s.pending := ⟨rfl, rfl, rfl, rfl, rfl, rfl, rfl, rfl, rfl, rfl, rfl, rfl, rfl, rfl, rfl, rfl, rfl, rfl, rfl, rfl⟩

@[simp] theorem State.wake_frame (s : State) (c : Nat) :
    (s.wake c).time = s.time ∧
    (s.wake c).consts = s.consts ∧
    (s.wake c).sampler = s.sampler ∧
    (s.wake c).discretes = s.discretes ∧
    (s.wake c).channels = s.channels ∧
    (s.wake c).curves = s.curves ∧
    (s.wake c).accum = s.accum ∧
    (s.wake c).drum = s.drum ∧
    (s.wake c).trip = s.trip ∧
    (s.wake c).gauge = s.gauge ∧
    (s.wake c).chime = s.chime ∧
    (s.wake c).service = s.service ∧
    (s.wake c).eeprom = s.eeprom ∧
    (s.wake c).link = s.link ∧
    (s.wake c).freeCount = s.freeCount ∧
    (s.wake c).pending = s.pending := by
  simp [State.wake]

@[simp] theorem State.fallAsleep_frame (s : State) :
    (s.fallAsleep).time = s.time ∧
    (s.fallAsleep).consts = s.consts ∧
    (s.fallAsleep).sampler = s.sampler ∧
    (s.fallAsleep).discretes = s.discretes ∧
    (s.fallAsleep).channels = s.channels ∧
    (s.fallAsleep).curves = s.curves ∧
    (s.fallAsleep).accum = s.accum ∧
    (s.fallAsleep).drum = s.drum ∧
    (s.fallAsleep).trip = s.trip ∧
    (s.fallAsleep).gauge = s.gauge ∧
    (s.fallAsleep).service = s.service ∧
    (s.fallAsleep).eeprom = s.eeprom ∧
    (s.fallAsleep).link = s.link ∧
    (s.fallAsleep).notices = s.notices ∧
    (s.fallAsleep).freeCount = s.freeCount ∧
    (s.fallAsleep).pending = s.pending := ⟨rfl, rfl, rfl, rfl, rfl, rfl, rfl, rfl, rfl, rfl, rfl, rfl, rfl, rfl, rfl, rfl⟩

@[simp] theorem State.asleepEntry_frame (s : State) :
    (s.asleepEntry).time = s.time ∧
    (s.asleepEntry).consts = s.consts ∧
    (s.asleepEntry).sampler = s.sampler ∧
    (s.asleepEntry).discretes = s.discretes ∧
    (s.asleepEntry).channels = s.channels ∧
    (s.asleepEntry).curves = s.curves ∧
    (s.asleepEntry).accum = s.accum ∧
    (s.asleepEntry).drum = s.drum ∧
    (s.asleepEntry).trip = s.trip ∧
    (s.asleepEntry).gauge = s.gauge ∧
    (s.asleepEntry).service = s.service ∧
    (s.asleepEntry).eeprom = s.eeprom ∧
    (s.asleepEntry).link = s.link ∧
    (s.asleepEntry).notices = s.notices ∧
    (s.asleepEntry).freeCount = s.freeCount ∧
    (s.asleepEntry).pending = s.pending := by
  simp only [State.asleepEntry]
  repeat' split
  all_goals simp

@[simp] theorem State.startTripClock_frame (s : State) :
    (s.startTripClock).time = s.time ∧
    (s.startTripClock).power = s.power ∧
    (s.startTripClock).consts = s.consts ∧
    (s.startTripClock).pulse = s.pulse ∧
    (s.startTripClock).sampler = s.sampler ∧
    (s.startTripClock).discretes = s.discretes ∧
    (s.startTripClock).channels = s.channels ∧
    (s.startTripClock).curves = s.curves ∧
    (s.startTripClock).accum = s.accum ∧
    (s.startTripClock).drum = s.drum ∧
    (s.startTripClock).gauge = s.gauge ∧
    (s.startTripClock).monitor = s.monitor ∧
    (s.startTripClock).chime = s.chime ∧
    (s.startTripClock).lamp = s.lamp ∧
    (s.startTripClock).service = s.service ∧
    (s.startTripClock).eeprom = s.eeprom ∧
    (s.startTripClock).link = s.link ∧
    (s.startTripClock).notices = s.notices ∧
    (s.startTripClock).freeCount = s.freeCount ∧
    (s.startTripClock).pending = s.pending := ⟨rfl, rfl, rfl, rfl, rfl, rfl, rfl, rfl, rfl, rfl, rfl, rfl, rfl, rfl, rfl, rfl, rfl, rfl, rfl, rfl⟩

@[simp] theorem State.setBulbCheck_frame (s : State) (t : Option Nat) :
    (s.setBulbCheck t).time = s.time ∧
    (s.setBulbCheck t).power = s.power ∧
    (s.setBulbCheck t).consts = s.consts ∧
    (s.setBulbCheck t).pulse = s.pulse ∧
    (s.setBulbCheck t).sampler = s.sampler ∧
    (s.setBulbCheck t).discretes = s.discretes ∧
    (s.setBulbCheck t).channels = s.channels ∧
    (s.setBulbCheck t).curves = s.curves ∧
    (s.setBulbCheck t).accum = s.accum ∧
    (s.setBulbCheck t).drum = s.drum ∧
    (s.setBulbCheck t).trip = s.trip ∧
    (s.setBulbCheck t).gauge = s.gauge ∧
    (s.setBulbCheck t).monitor = s.monitor ∧
    (s.setBulbCheck t).chime = s.chime ∧
    (s.setBulbCheck t).service = s.service ∧
    (s.setBulbCheck t).eeprom = s.eeprom ∧
    (s.setBulbCheck t).link = s.link ∧
    (s.setBulbCheck t).notices = s.notices ∧
    (s.setBulbCheck t).freeCount = s.freeCount ∧
    (s.setBulbCheck t).pending = s.pending := ⟨rfl, rfl, rfl, rfl, rfl, rfl, rfl, rfl, rfl, rfl, rfl, rfl, rfl, rfl, rfl, rfl, rfl, rfl, rfl, rfl⟩

@[simp] theorem State.enterRun_frame (s : State) :
    (s.enterRun).time = s.time ∧
    (s.enterRun).consts = s.consts ∧
    (s.enterRun).discretes = s.discretes ∧
    (s.enterRun).channels = s.channels ∧
    (s.enterRun).curves = s.curves ∧
    (s.enterRun).accum = s.accum ∧
    (s.enterRun).drum = s.drum ∧
    (s.enterRun).monitor = s.monitor ∧
    (s.enterRun).chime = s.chime ∧
    (s.enterRun).service = s.service ∧
    (s.enterRun).eeprom = s.eeprom ∧
    (s.enterRun).link = s.link ∧
    (s.enterRun).freeCount = s.freeCount ∧
    (s.enterRun).pending = s.pending := by
  simp [State.enterRun]

@[simp] theorem State.runEntry_frame (s : State) :
    (s.runEntry).time = s.time ∧
    (s.runEntry).consts = s.consts ∧
    (s.runEntry).discretes = s.discretes ∧
    (s.runEntry).channels = s.channels ∧
    (s.runEntry).curves = s.curves ∧
    (s.runEntry).accum = s.accum ∧
    (s.runEntry).drum = s.drum ∧
    (s.runEntry).chime = s.chime ∧
    (s.runEntry).service = s.service ∧
    (s.runEntry).eeprom = s.eeprom ∧
    (s.runEntry).link = s.link ∧
    (s.runEntry).freeCount = s.freeCount ∧
    (s.runEntry).pending = s.pending := by
  simp only [State.runEntry]
  repeat' split
  all_goals simp

@[simp] theorem State.tripExit_frame (s : State) :
    (s.tripExit).time = s.time ∧
    (s.tripExit).power = s.power ∧
    (s.tripExit).consts = s.consts ∧
    (s.tripExit).pulse = s.pulse ∧
    (s.tripExit).sampler = s.sampler ∧
    (s.tripExit).discretes = s.discretes ∧
    (s.tripExit).curves = s.curves ∧
    (s.tripExit).accum = s.accum ∧
    (s.tripExit).drum = s.drum ∧
    (s.tripExit).gauge = s.gauge ∧
    (s.tripExit).monitor = s.monitor ∧
    (s.tripExit).chime = s.chime ∧
    (s.tripExit).lamp = s.lamp ∧
    (s.tripExit).service = s.service ∧
    (s.tripExit).eeprom = s.eeprom ∧
    (s.tripExit).link = s.link ∧
    (s.tripExit).freeCount = s.freeCount ∧
    (s.tripExit).pending = s.pending := by
  simp [State.tripExit]

@[simp] theorem State.exitPosts_frame (s : State) (b : Bool) :
    (s.exitPosts b).time = s.time ∧
    (s.exitPosts b).power = s.power ∧
    (s.exitPosts b).consts = s.consts ∧
    (s.exitPosts b).pulse = s.pulse ∧
    (s.exitPosts b).sampler = s.sampler ∧
    (s.exitPosts b).discretes = s.discretes ∧
    (s.exitPosts b).channels = s.channels ∧
    (s.exitPosts b).curves = s.curves ∧
    (s.exitPosts b).accum = s.accum ∧
    (s.exitPosts b).drum = s.drum ∧
    (s.exitPosts b).trip = s.trip ∧
    (s.exitPosts b).gauge = s.gauge ∧
    (s.exitPosts b).monitor = s.monitor ∧
    (s.exitPosts b).chime = s.chime ∧
    (s.exitPosts b).lamp = s.lamp ∧
    (s.exitPosts b).service = s.service ∧
    (s.exitPosts b).link = s.link ∧
    (s.exitPosts b).notices = s.notices ∧
    (s.exitPosts b).freeCount = s.freeCount ∧
    (s.exitPosts b).pending = s.pending := by
  simp only [State.exitPosts]
  repeat' split
  all_goals simp

@[simp] theorem State.startOff_frame (s : State) :
    (s.startOff).time = s.time ∧
    (s.startOff).consts = s.consts ∧
    (s.startOff).pulse = s.pulse ∧
    (s.startOff).sampler = s.sampler ∧
    (s.startOff).discretes = s.discretes ∧
    (s.startOff).channels = s.channels ∧
    (s.startOff).curves = s.curves ∧
    (s.startOff).accum = s.accum ∧
    (s.startOff).drum = s.drum ∧
    (s.startOff).trip = s.trip ∧
    (s.startOff).gauge = s.gauge ∧
    (s.startOff).monitor = s.monitor ∧
    (s.startOff).chime = s.chime ∧
    (s.startOff).lamp = s.lamp ∧
    (s.startOff).service = s.service ∧
    (s.startOff).eeprom = s.eeprom ∧
    (s.startOff).link = s.link ∧
    (s.startOff).notices = s.notices ∧
    (s.startOff).freeCount = s.freeCount ∧
    (s.startOff).pending = s.pending := ⟨rfl, rfl, rfl, rfl, rfl, rfl, rfl, rfl, rfl, rfl, rfl, rfl, rfl, rfl, rfl, rfl, rfl, rfl, rfl, rfl⟩

@[simp] theorem State.exitRun_frame (s : State) (b : Bool) :
    (s.exitRun b).time = s.time ∧
    (s.exitRun b).consts = s.consts ∧
    (s.exitRun b).discretes = s.discretes ∧
    (s.exitRun b).curves = s.curves ∧
    (s.exitRun b).accum = s.accum ∧
    (s.exitRun b).drum = s.drum ∧
    (s.exitRun b).service = s.service ∧
    (s.exitRun b).link = s.link ∧
    (s.exitRun b).freeCount = s.freeCount ∧
    (s.exitRun b).pending = s.pending := by
  simp [State.exitRun]

@[simp] theorem State.runExit_frame (s : State) (b : Bool) :
    (s.runExit b).time = s.time ∧
    (s.runExit b).consts = s.consts ∧
    (s.runExit b).discretes = s.discretes ∧
    (s.runExit b).curves = s.curves ∧
    (s.runExit b).accum = s.accum ∧
    (s.runExit b).drum = s.drum ∧
    (s.runExit b).service = s.service ∧
    (s.runExit b).link = s.link ∧
    (s.runExit b).freeCount = s.freeCount ∧
    (s.runExit b).pending = s.pending := by
  simp only [State.runExit]
  repeat' split
  all_goals simp

@[simp] theorem State.secondEnd_frame (s : State) :
    (s.secondEnd).consts = s.consts ∧
    (s.secondEnd).pulse = s.pulse ∧
    (s.secondEnd).sampler = s.sampler ∧
    (s.secondEnd).discretes = s.discretes ∧
    (s.secondEnd).channels = s.channels ∧
    (s.secondEnd).curves = s.curves ∧
    (s.secondEnd).accum = s.accum ∧
    (s.secondEnd).drum = s.drum ∧
    (s.secondEnd).trip = s.trip ∧
    (s.secondEnd).gauge = s.gauge ∧
    (s.secondEnd).monitor = s.monitor ∧
    (s.secondEnd).chime = s.chime ∧
    (s.secondEnd).lamp = s.lamp ∧
    (s.secondEnd).service = s.service ∧
    (s.secondEnd).eeprom = s.eeprom ∧
    (s.secondEnd).link = s.link ∧
    (s.secondEnd).notices = s.notices ∧
    (s.secondEnd).freeCount = s.freeCount ∧
    (s.secondEnd).pending = s.pending := by
  simp only [State.secondEnd]
  repeat' split
  all_goals simp

@[simp] theorem State.dayEnd_frame (s : State) :
    (s.dayEnd).power = s.power ∧
    (s.dayEnd).consts = s.consts ∧
    (s.dayEnd).pulse = s.pulse ∧
    (s.dayEnd).sampler = s.sampler ∧
    (s.dayEnd).discretes = s.discretes ∧
    (s.dayEnd).channels = s.channels ∧
    (s.dayEnd).curves = s.curves ∧
    (s.dayEnd).accum = s.accum ∧
    (s.dayEnd).drum = s.drum ∧
    (s.dayEnd).trip = s.trip ∧
    (s.dayEnd).gauge = s.gauge ∧
    (s.dayEnd).monitor = s.monitor ∧
    (s.dayEnd).eeprom = s.eeprom ∧
    (s.dayEnd).link = s.link ∧
    (s.dayEnd).freeCount = s.freeCount ∧
    (s.dayEnd).pending = s.pending := by
  simp only [State.dayEnd]
  repeat' split
  all_goals simp

@[simp] theorem State.loadHeader_frame (s : State) :
    (s.loadHeader).time = s.time ∧
    (s.loadHeader).pulse = s.pulse ∧
    (s.loadHeader).sampler = s.sampler ∧
    (s.loadHeader).discretes = s.discretes ∧
    (s.loadHeader).channels = s.channels ∧
    (s.loadHeader).curves = s.curves ∧
    (s.loadHeader).accum = s.accum ∧
    (s.loadHeader).drum = s.drum ∧
    (s.loadHeader).gauge = s.gauge ∧
    (s.loadHeader).monitor = s.monitor ∧
    (s.loadHeader).chime = s.chime ∧
    (s.loadHeader).lamp = s.lamp ∧
    (s.loadHeader).service = s.service ∧
    (s.loadHeader).eeprom = s.eeprom ∧
    (s.loadHeader).link = s.link ∧
    (s.loadHeader).notices = s.notices ∧
    (s.loadHeader).freeCount = s.freeCount ∧
    (s.loadHeader).pending = s.pending := ⟨rfl, rfl, rfl, rfl, rfl, rfl, rfl, rfl, rfl, rfl, rfl, rfl, rfl, rfl, rfl, rfl, rfl, rfl⟩

@[simp] theorem State.loadRing_frame (s : State) :
    (s.loadRing).time = s.time ∧
    (s.loadRing).consts = s.consts ∧
    (s.loadRing).pulse = s.pulse ∧
    (s.loadRing).sampler = s.sampler ∧
    (s.loadRing).discretes = s.discretes ∧
    (s.loadRing).channels = s.channels ∧
    (s.loadRing).curves = s.curves ∧
    (s.loadRing).drum = s.drum ∧
    (s.loadRing).trip = s.trip ∧
    (s.loadRing).gauge = s.gauge ∧
    (s.loadRing).monitor = s.monitor ∧
    (s.loadRing).chime = s.chime ∧
    (s.loadRing).lamp = s.lamp ∧
    (s.loadRing).service = s.service ∧
    (s.loadRing).eeprom = s.eeprom ∧
    (s.loadRing).link = s.link ∧
    (s.loadRing).notices = s.notices ∧
    (s.loadRing).freeCount = s.freeCount ∧
    (s.loadRing).pending = s.pending := ⟨rfl, rfl, rfl, rfl, rfl, rfl, rfl, rfl, rfl, rfl, rfl, rfl, rfl, rfl, rfl, rfl, rfl, rfl, rfl⟩

@[simp] theorem State.loadService_frame (s : State) :
    (s.loadService).time = s.time ∧
    (s.loadService).consts = s.consts ∧
    (s.loadService).pulse = s.pulse ∧
    (s.loadService).sampler = s.sampler ∧
    (s.loadService).discretes = s.discretes ∧
    (s.loadService).channels = s.channels ∧
    (s.loadService).curves = s.curves ∧
    (s.loadService).accum = s.accum ∧
    (s.loadService).drum = s.drum ∧
    (s.loadService).trip = s.trip ∧
    (s.loadService).gauge = s.gauge ∧
    (s.loadService).monitor = s.monitor ∧
    (s.loadService).chime = s.chime ∧
    (s.loadService).lamp = s.lamp ∧
    (s.loadService).eeprom = s.eeprom ∧
    (s.loadService).link = s.link ∧
    (s.loadService).notices = s.notices ∧
    (s.loadService).freeCount = s.freeCount ∧
    (s.loadService).pending = s.pending := by
  simp [State.loadService]

@[simp] theorem State.release_frame (s : State) :
    (s.release).time = s.time ∧
    (s.release).pulse = s.pulse ∧
    (s.release).sampler = s.sampler ∧
    (s.release).discretes = s.discretes ∧
    (s.release).channels = s.channels ∧
    (s.release).curves = s.curves ∧
    (s.release).drum = s.drum ∧
    (s.release).gauge = s.gauge ∧
    (s.release).monitor = s.monitor ∧
    (s.release).chime = s.chime ∧
    (s.release).lamp = s.lamp ∧
    (s.release).eeprom = s.eeprom ∧
    (s.release).link = s.link ∧
    (s.release).notices = s.notices ∧
    (s.release).freeCount = s.freeCount ∧
    (s.release).pending = s.pending := by
  simp only [State.release]
  repeat' split
  all_goals simp

@[simp] theorem State.enterFirst_frame (s : State) :
    (s.enterFirst).time = s.time ∧
    (s.enterFirst).consts = s.consts ∧
    (s.enterFirst).discretes = s.discretes ∧
    (s.enterFirst).channels = s.channels ∧
    (s.enterFirst).curves = s.curves ∧
    (s.enterFirst).accum = s.accum ∧
    (s.enterFirst).drum = s.drum ∧
    (s.enterFirst).chime = s.chime ∧
    (s.enterFirst).service = s.service ∧
    (s.enterFirst).eeprom = s.eeprom ∧
    (s.enterFirst).link = s.link ∧
    (s.enterFirst).freeCount = s.freeCount ∧
    (s.enterFirst).pending = s.pending := by
  simp only [State.enterFirst]
  repeat' split
  all_goals simp

@[simp] theorem State.endInit_frame (s : State) :
    (s.endInit).time = s.time ∧
    (s.endInit).consts = s.consts ∧
    (s.endInit).discretes = s.discretes ∧
    (s.endInit).channels = s.channels ∧
    (s.endInit).curves = s.curves ∧
    (s.endInit).accum = s.accum ∧
    (s.endInit).drum = s.drum ∧
    (s.endInit).chime = s.chime ∧
    (s.endInit).service = s.service ∧
    (s.endInit).eeprom = s.eeprom ∧
    (s.endInit).link = s.link ∧
    (s.endInit).freeCount = s.freeCount ∧
    (s.endInit).pending = s.pending := by
  simp only [State.endInit]
  repeat' split
  all_goals simp

@[simp] theorem State.bulbCheckEnd_frame (s : State) :
    (s.bulbCheckEnd).time = s.time ∧
    (s.bulbCheckEnd).power = s.power ∧
    (s.bulbCheckEnd).consts = s.consts ∧
    (s.bulbCheckEnd).pulse = s.pulse ∧
    (s.bulbCheckEnd).sampler = s.sampler ∧
    (s.bulbCheckEnd).discretes = s.discretes ∧
    (s.bulbCheckEnd).channels = s.channels ∧
    (s.bulbCheckEnd).curves = s.curves ∧
    (s.bulbCheckEnd).accum = s.accum ∧
    (s.bulbCheckEnd).drum = s.drum ∧
    (s.bulbCheckEnd).trip = s.trip ∧
    (s.bulbCheckEnd).gauge = s.gauge ∧
    (s.bulbCheckEnd).monitor = s.monitor ∧
    (s.bulbCheckEnd).service = s.service ∧
    (s.bulbCheckEnd).eeprom = s.eeprom ∧
    (s.bulbCheckEnd).link = s.link ∧
    (s.bulbCheckEnd).notices = s.notices ∧
    (s.bulbCheckEnd).freeCount = s.freeCount ∧
    (s.bulbCheckEnd).pending = s.pending := by
  simp only [State.bulbCheckEnd]
  repeat' split
  all_goals simp

@[simp] theorem State.flashHalf_frame (s : State) :
    (s.flashHalf).time = s.time ∧
    (s.flashHalf).power = s.power ∧
    (s.flashHalf).consts = s.consts ∧
    (s.flashHalf).pulse = s.pulse ∧
    (s.flashHalf).sampler = s.sampler ∧
    (s.flashHalf).discretes = s.discretes ∧
    (s.flashHalf).channels = s.channels ∧
    (s.flashHalf).curves = s.curves ∧
    (s.flashHalf).accum = s.accum ∧
    (s.flashHalf).drum = s.drum ∧
    (s.flashHalf).trip = s.trip ∧
    (s.flashHalf).gauge = s.gauge ∧
    (s.flashHalf).monitor = s.monitor ∧
    (s.flashHalf).chime = s.chime ∧
    (s.flashHalf).service = s.service ∧
    (s.flashHalf).eeprom = s.eeprom ∧
    (s.flashHalf).link = s.link ∧
    (s.flashHalf).notices = s.notices ∧
    (s.flashHalf).freeCount = s.freeCount ∧
    (s.flashHalf).pending = s.pending := ⟨rfl, rfl, rfl, rfl, rfl, rfl, rfl, rfl, rfl, rfl, rfl, rfl, rfl, rfl, rfl, rfl, rfl, rfl, rfl, rfl⟩

@[simp] theorem State.dutySetting_frame (s : State) :
    (s.dutySetting).time = s.time ∧
    (s.dutySetting).power = s.power ∧
    (s.dutySetting).consts = s.consts ∧
    (s.dutySetting).pulse = s.pulse ∧
    (s.dutySetting).sampler = s.sampler ∧
    (s.dutySetting).discretes = s.discretes ∧
    (s.dutySetting).channels = s.channels ∧
    (s.dutySetting).curves = s.curves ∧
    (s.dutySetting).accum = s.accum ∧
    (s.dutySetting).drum = s.drum ∧
    (s.dutySetting).trip = s.trip ∧
    (s.dutySetting).gauge = s.gauge ∧
    (s.dutySetting).monitor = s.monitor ∧
    (s.dutySetting).chime = s.chime ∧
    (s.dutySetting).service = s.service ∧
    (s.dutySetting).eeprom = s.eeprom ∧
    (s.dutySetting).link = s.link ∧
    (s.dutySetting).notices = s.notices ∧
    (s.dutySetting).freeCount = s.freeCount ∧
    (s.dutySetting).pending = s.pending := by
  simp only [State.dutySetting]
  repeat' split
  all_goals simp

@[simp] theorem State.setDiscrete_frame (s : State) (k : Fin 12) (d : Discrete) :
    (s.setDiscrete k d).time = s.time ∧
    (s.setDiscrete k d).power = s.power ∧
    (s.setDiscrete k d).consts = s.consts ∧
    (s.setDiscrete k d).pulse = s.pulse ∧
    (s.setDiscrete k d).sampler = s.sampler ∧
    (s.setDiscrete k d).channels = s.channels ∧
    (s.setDiscrete k d).curves = s.curves ∧
    (s.setDiscrete k d).accum = s.accum ∧
    (s.setDiscrete k d).drum = s.drum ∧
    (s.setDiscrete k d).trip = s.trip ∧
    (s.setDiscrete k d).gauge = s.gauge ∧
    (s.setDiscrete k d).monitor = s.monitor ∧
    (s.setDiscrete k d).chime = s.chime ∧
    (s.setDiscrete k d).lamp = s.lamp ∧
    (s.setDiscrete k d).service = s.service ∧
    (s.setDiscrete k d).eeprom = s.eeprom ∧
    (s.setDiscrete k d).link = s.link ∧
    (s.setDiscrete k d).notices = s.notices ∧
    (s.setDiscrete k d).freeCount = s.freeCount ∧
    (s.setDiscrete k d).pending = s.pending := ⟨rfl, rfl, rfl, rfl, rfl, rfl, rfl, rfl, rfl, rfl, rfl, rfl, rfl, rfl, rfl, rfl, rfl, rfl, rfl, rfl⟩

@[simp] theorem State.reportDiscrete_frame (s : State) (d : Discrete) :
    (s.reportDiscrete d).time = s.time ∧
    (s.reportDiscrete d).consts = s.consts ∧
    (s.reportDiscrete d).sampler = s.sampler ∧
    (s.reportDiscrete d).discretes = s.discretes ∧
    (s.reportDiscrete d).channels = s.channels ∧
    (s.reportDiscrete d).curves = s.curves ∧
    (s.reportDiscrete d).accum = s.accum ∧
    (s.reportDiscrete d).drum = s.drum ∧
    (s.reportDiscrete d).trip = s.trip ∧
    (s.reportDiscrete d).gauge = s.gauge ∧
    (s.reportDiscrete d).chime = s.chime ∧
    (s.reportDiscrete d).service = s.service ∧
    (s.reportDiscrete d).eeprom = s.eeprom ∧
    (s.reportDiscrete d).link = s.link ∧
    (s.reportDiscrete d).freeCount = s.freeCount ∧
    (s.reportDiscrete d).pending = s.pending := by
  simp only [State.reportDiscrete]
  repeat' split
  all_goals simp

@[simp] theorem State.changeDiscrete_frame (s : State) (k : Fin 12) (d : Discrete) :
    (s.changeDiscrete k d).time = s.time ∧
    (s.changeDiscrete k d).consts = s.consts ∧
    (s.changeDiscrete k d).sampler = s.sampler ∧
    (s.changeDiscrete k d).channels = s.channels ∧
    (s.changeDiscrete k d).curves = s.curves ∧
    (s.changeDiscrete k d).accum = s.accum ∧
    (s.changeDiscrete k d).drum = s.drum ∧
    (s.changeDiscrete k d).trip = s.trip ∧
    (s.changeDiscrete k d).gauge = s.gauge ∧
    (s.changeDiscrete k d).chime = s.chime ∧
    (s.changeDiscrete k d).service = s.service ∧
    (s.changeDiscrete k d).eeprom = s.eeprom ∧
    (s.changeDiscrete k d).link = s.link ∧
    (s.changeDiscrete k d).freeCount = s.freeCount ∧
    (s.changeDiscrete k d).pending = s.pending := by
  simp only [State.changeDiscrete]
  repeat' split
  all_goals simp

@[simp] theorem State.discreteChange_frame (s : State) (k : Fin 12) :
    (s.discreteChange k).time = s.time ∧
    (s.discreteChange k).consts = s.consts ∧
    (s.discreteChange k).sampler = s.sampler ∧
    (s.discreteChange k).channels = s.channels ∧
    (s.discreteChange k).curves = s.curves ∧
    (s.discreteChange k).accum = s.accum ∧
    (s.discreteChange k).drum = s.drum ∧
    (s.discreteChange k).trip = s.trip ∧
    (s.discreteChange k).gauge = s.gauge ∧
    (s.discreteChange k).chime = s.chime ∧
    (s.discreteChange k).service = s.service ∧
    (s.discreteChange k).eeprom = s.eeprom ∧
    (s.discreteChange k).link = s.link ∧
    (s.discreteChange k).freeCount = s.freeCount ∧
    (s.discreteChange k).pending = s.pending := by
  simp only [State.discreteChange]
  repeat' split
  all_goals simp

@[simp] theorem State.tickTimers_frame (s : State) :
    (s.tickTimers).consts = s.consts ∧
    (s.tickTimers).discretes = s.discretes ∧
    (s.tickTimers).channels = s.channels ∧
    (s.tickTimers).curves = s.curves ∧
    (s.tickTimers).accum = s.accum ∧
    (s.tickTimers).service = s.service ∧
    (s.tickTimers).notices = s.notices ∧
    (s.tickTimers).freeCount = s.freeCount ∧
    (s.tickTimers).pending = s.pending := ⟨rfl, rfl, rfl, rfl, rfl, rfl, rfl, rfl, rfl⟩

/-- Sampling SYNC changes its filter alone. -/
theorem GaugeUnit.sample_eq (u : GaugeUnit) (r o : Bool) (t : Stamp) : ∃ p, u.sample r o t = { u with sync := p } := by
  unfold GaugeUnit.sample GaugeUnit.settle
  cases r <;> exact ⟨_, rfl⟩

@[simp] theorem GaugeUnit.sample_gauges (u : GaugeUnit) (r o : Bool) (t : Stamp) :
    (u.sample r o t).gauges = u.gauges := by
  obtain ⟨p, h⟩ := u.sample_eq r o t
  rw [h]

/-- Sampling SYNC changes its filter alone. -/
theorem GaugeUnit.sample_frame (u : GaugeUnit) (r o : Bool) (t : Stamp) :
    (u.sample r o t).gauges = u.gauges ∧ (u.sample r o t).sweep = u.sweep ∧ (u.sample r o t).clock = u.clock ∧
    (u.sample r o t).syncPulse = u.syncPulse := by
  obtain ⟨p, h⟩ := u.sample_eq r o t
  rw [h]
  exact ⟨rfl, rfl, rfl, rfl⟩

@[simp] theorem State.findPins_frame (s : State) (p : BitVec 5) (t : Stamp) :
    (s.findPins p t).time = s.time ∧
    (s.findPins p t).power = s.power ∧
    (s.findPins p t).consts = s.consts ∧
    (s.findPins p t).sampler = s.sampler ∧
    (s.findPins p t).discretes = s.discretes ∧
    (s.findPins p t).channels = s.channels ∧
    (s.findPins p t).curves = s.curves ∧
    (s.findPins p t).accum = s.accum ∧
    (s.findPins p t).drum = s.drum ∧
    (s.findPins p t).trip = s.trip ∧
    (s.findPins p t).monitor = s.monitor ∧
    (s.findPins p t).chime = s.chime ∧
    (s.findPins p t).lamp = s.lamp ∧
    (s.findPins p t).service = s.service ∧
    (s.findPins p t).eeprom = s.eeprom ∧
    (s.findPins p t).link = s.link ∧
    (s.findPins p t).notices = s.notices ∧
    (s.findPins p t).freeCount = s.freeCount ∧
    (s.findPins p t).pending = s.pending ∧
    (s.findPins p t).gauge.gauges = s.gauge.gauges ∧
    (s.findPins p t).gauge.sweep = s.gauge.sweep ∧
    (s.findPins p t).gauge.clock = s.gauge.clock ∧
    (s.findPins p t).gauge.syncPulse = s.gauge.syncPulse :=
  ⟨rfl, rfl, rfl, rfl, rfl, rfl, rfl, rfl, rfl, rfl, rfl, rfl, rfl, rfl, rfl, rfl, rfl, rfl, rfl, s.gauge.sample_frame _ _ _⟩

@[simp] theorem State.reach_frame (s : State) (m : Moment) :
    (s.reach m).power = s.power ∧
    (s.reach m).consts = s.consts ∧
    (s.reach m).sampler = s.sampler ∧
    (s.reach m).discretes = s.discretes ∧
    (s.reach m).channels = s.channels ∧
    (s.reach m).curves = s.curves ∧
    (s.reach m).accum = s.accum ∧
    (s.reach m).drum = s.drum ∧
    (s.reach m).trip = s.trip ∧
    (s.reach m).monitor = s.monitor ∧
    (s.reach m).chime = s.chime ∧
    (s.reach m).lamp = s.lamp ∧
    (s.reach m).service = s.service ∧
    (s.reach m).eeprom = s.eeprom ∧
    (s.reach m).link = s.link ∧
    (s.reach m).notices = s.notices ∧
    (s.reach m).freeCount = s.freeCount ∧
    (s.reach m).pending = s.pending ∧
    (s.reach m).gauge.gauges = s.gauge.gauges ∧
    (s.reach m).gauge.sweep = s.gauge.sweep ∧
    (s.reach m).gauge.clock = s.gauge.clock ∧
    (s.reach m).gauge.syncPulse = s.gauge.syncPulse :=
  ⟨rfl, rfl, rfl, rfl, rfl, rfl, rfl, rfl, rfl, rfl, rfl, rfl, rfl, rfl, rfl, rfl, rfl, rfl, (s.advance m.sub).gauge.sample_frame _ _ _⟩

@[simp] theorem State.reach_time (s : State) (m : Moment) : (s.reach m).time = (s.advance m.sub).time := rfl
@[simp] theorem State.reach_now (s : State) (m : Moment) : (s.reach m).now = (s.advance m.sub).now := rfl

@[simp] theorem State.samplePins_frame (s : State) (d : BitVec 12) (g : Bool) (p : BitVec 5) :
    (s.samplePins d g p).time = s.time ∧
    (s.samplePins d g p).power = s.power ∧
    (s.samplePins d g p).consts = s.consts ∧
    (s.samplePins d g p).sampler = s.sampler ∧
    (s.samplePins d g p).channels = s.channels ∧
    (s.samplePins d g p).curves = s.curves ∧
    (s.samplePins d g p).accum = s.accum ∧
    (s.samplePins d g p).drum = s.drum ∧
    (s.samplePins d g p).trip = s.trip ∧
    (s.samplePins d g p).gauge.gauges = s.gauge.gauges ∧
    (s.samplePins d g p).monitor = s.monitor ∧
    (s.samplePins d g p).chime = s.chime ∧
    (s.samplePins d g p).lamp = s.lamp ∧
    (s.samplePins d g p).service = s.service ∧
    (s.samplePins d g p).eeprom = s.eeprom ∧
    (s.samplePins d g p).link = s.link ∧
    (s.samplePins d g p).notices = s.notices ∧
    (s.samplePins d g p).freeCount = s.freeCount ∧
    (s.samplePins d g p).pending = s.pending := ⟨rfl, rfl, rfl, rfl, rfl, rfl, rfl, rfl, rfl, s.gauge.sample_gauges _ _ _, rfl, rfl, rfl, rfl, rfl, rfl, rfl, rfl, rfl⟩

@[simp] theorem State.tick_frame (s : State) (d : BitVec 12) (g : Bool) (p : BitVec 5) :
    (s.tick d g p).consts = s.consts ∧
    (s.tick d g p).curves = s.curves ∧
    (s.tick d g p).accum = s.accum ∧
    (s.tick d g p).service = s.service ∧
    (s.tick d g p).notices = s.notices ∧
    (s.tick d g p).freeCount = s.freeCount ∧
    (s.tick d g p).pending = s.pending := by
  simp only [State.tick]
  repeat' split
  all_goals simp

@[simp] theorem State.restartDiscretes_frame (s : State) :
    (s.restartDiscretes).time = s.time ∧
    (s.restartDiscretes).consts = s.consts ∧
    (s.restartDiscretes).sampler = s.sampler ∧
    (s.restartDiscretes).channels = s.channels ∧
    (s.restartDiscretes).curves = s.curves ∧
    (s.restartDiscretes).accum = s.accum ∧
    (s.restartDiscretes).drum = s.drum ∧
    (s.restartDiscretes).trip = s.trip ∧
    (s.restartDiscretes).gauge = s.gauge ∧
    (s.restartDiscretes).chime = s.chime ∧
    (s.restartDiscretes).service = s.service ∧
    (s.restartDiscretes).eeprom = s.eeprom ∧
    (s.restartDiscretes).link = s.link ∧
    (s.restartDiscretes).freeCount = s.freeCount ∧
    (s.restartDiscretes).pending = s.pending := by
  unfold State.restartDiscretes
  exact ⟨foldl_keeps State.time _ (fun _ _ => by simp) _ _,
    foldl_keeps State.consts _ (fun _ _ => by simp) _ _,
    foldl_keeps State.sampler _ (fun _ _ => by simp) _ _,
    foldl_keeps State.channels _ (fun _ _ => by simp) _ _,
    foldl_keeps State.curves _ (fun _ _ => by simp) _ _,
    foldl_keeps State.accum _ (fun _ _ => by simp) _ _,
    foldl_keeps State.drum _ (fun _ _ => by simp) _ _,
    foldl_keeps State.trip _ (fun _ _ => by simp) _ _,
    foldl_keeps State.gauge _ (fun _ _ => by simp) _ _,
    foldl_keeps State.chime _ (fun _ _ => by simp) _ _,
    foldl_keeps State.service _ (fun _ _ => by simp) _ _,
    foldl_keeps State.eeprom _ (fun _ _ => by simp) _ _,
    foldl_keeps State.link _ (fun _ _ => by simp) _ _,
    foldl_keeps State.freeCount _ (fun _ _ => by simp) _ _,
    foldl_keeps State.pending _ (fun _ _ => by simp) _ _⟩

@[simp] theorem State.restore_frame (s : State) :
    (s.restore).time = s.time ∧
    (s.restore).consts = s.consts ∧
    (s.restore).accum = s.accum ∧
    (s.restore).drum = s.drum ∧
    (s.restore).eeprom = s.eeprom ∧
    (s.restore).link = s.link ∧
    (s.restore).freeCount = s.freeCount ∧
    (s.restore).pending = s.pending := by
  simp [State.restore]

@[simp] theorem State.sendReply_frame (s : State) (k : Byte) (p : List Byte) :
    (s.sendReply k p).time = s.time ∧
    (s.sendReply k p).power = s.power ∧
    (s.sendReply k p).consts = s.consts ∧
    (s.sendReply k p).pulse = s.pulse ∧
    (s.sendReply k p).sampler = s.sampler ∧
    (s.sendReply k p).discretes = s.discretes ∧
    (s.sendReply k p).channels = s.channels ∧
    (s.sendReply k p).curves = s.curves ∧
    (s.sendReply k p).accum = s.accum ∧
    (s.sendReply k p).drum = s.drum ∧
    (s.sendReply k p).trip = s.trip ∧
    (s.sendReply k p).gauge = s.gauge ∧
    (s.sendReply k p).monitor = s.monitor ∧
    (s.sendReply k p).chime = s.chime ∧
    (s.sendReply k p).lamp = s.lamp ∧
    (s.sendReply k p).service = s.service ∧
    (s.sendReply k p).eeprom = s.eeprom ∧
    (s.sendReply k p).notices = s.notices ∧
    (s.sendReply k p).freeCount = s.freeCount ∧
    (s.sendReply k p).pending = s.pending := ⟨rfl, rfl, rfl, rfl, rfl, rfl, rfl, rfl, rfl, rfl, rfl, rfl, rfl, rfl, rfl, rfl, rfl, rfl, rfl, rfl⟩

@[simp] theorem State.enqueue_frame (s : State) (f : Frame) :
    (s.enqueue f).time = s.time ∧
    (s.enqueue f).power = s.power ∧
    (s.enqueue f).consts = s.consts ∧
    (s.enqueue f).pulse = s.pulse ∧
    (s.enqueue f).sampler = s.sampler ∧
    (s.enqueue f).discretes = s.discretes ∧
    (s.enqueue f).channels = s.channels ∧
    (s.enqueue f).curves = s.curves ∧
    (s.enqueue f).accum = s.accum ∧
    (s.enqueue f).drum = s.drum ∧
    (s.enqueue f).trip = s.trip ∧
    (s.enqueue f).gauge = s.gauge ∧
    (s.enqueue f).monitor = s.monitor ∧
    (s.enqueue f).chime = s.chime ∧
    (s.enqueue f).lamp = s.lamp ∧
    (s.enqueue f).service = s.service ∧
    (s.enqueue f).eeprom = s.eeprom ∧
    (s.enqueue f).notices = s.notices ∧
    (s.enqueue f).freeCount = s.freeCount ∧
    (s.enqueue f).pending = s.pending := by
  simp only [State.enqueue]
  repeat' split
  all_goals simp

@[simp] theorem State.frameActivity_frame (s : State) :
    (s.frameActivity).time = s.time ∧
    (s.frameActivity).consts = s.consts ∧
    (s.frameActivity).sampler = s.sampler ∧
    (s.frameActivity).discretes = s.discretes ∧
    (s.frameActivity).channels = s.channels ∧
    (s.frameActivity).curves = s.curves ∧
    (s.frameActivity).accum = s.accum ∧
    (s.frameActivity).drum = s.drum ∧
    (s.frameActivity).trip = s.trip ∧
    (s.frameActivity).gauge = s.gauge ∧
    (s.frameActivity).chime = s.chime ∧
    (s.frameActivity).service = s.service ∧
    (s.frameActivity).eeprom = s.eeprom ∧
    (s.frameActivity).link = s.link ∧
    (s.frameActivity).freeCount = s.freeCount ∧
    (s.frameActivity).pending = s.pending := by
  simp only [State.frameActivity]
  repeat' split
  all_goals simp

@[simp] theorem State.assemble_frame (s : State) (a : Assembler) :
    (s.assemble a).time = s.time ∧
    (s.assemble a).power = s.power ∧
    (s.assemble a).consts = s.consts ∧
    (s.assemble a).pulse = s.pulse ∧
    (s.assemble a).sampler = s.sampler ∧
    (s.assemble a).discretes = s.discretes ∧
    (s.assemble a).channels = s.channels ∧
    (s.assemble a).curves = s.curves ∧
    (s.assemble a).accum = s.accum ∧
    (s.assemble a).drum = s.drum ∧
    (s.assemble a).trip = s.trip ∧
    (s.assemble a).gauge = s.gauge ∧
    (s.assemble a).monitor = s.monitor ∧
    (s.assemble a).chime = s.chime ∧
    (s.assemble a).lamp = s.lamp ∧
    (s.assemble a).service = s.service ∧
    (s.assemble a).eeprom = s.eeprom ∧
    (s.assemble a).notices = s.notices ∧
    (s.assemble a).freeCount = s.freeCount ∧
    (s.assemble a).pending = s.pending := ⟨rfl, rfl, rfl, rfl, rfl, rfl, rfl, rfl, rfl, rfl, rfl, rfl, rfl, rfl, rfl, rfl, rfl, rfl, rfl, rfl⟩

@[simp] theorem State.leadTaken_frame (s : State) (m : Moment) :
    (s.leadTaken m).consts = s.consts ∧
    (s.leadTaken m).sampler = s.sampler ∧
    (s.leadTaken m).discretes = s.discretes ∧
    (s.leadTaken m).channels = s.channels ∧
    (s.leadTaken m).curves = s.curves ∧
    (s.leadTaken m).accum = s.accum ∧
    (s.leadTaken m).drum = s.drum ∧
    (s.leadTaken m).trip = s.trip ∧
    (s.leadTaken m).gauge.gauges = s.gauge.gauges ∧
    (s.leadTaken m).chime = s.chime ∧
    (s.leadTaken m).service = s.service ∧
    (s.leadTaken m).eeprom = s.eeprom ∧
    (s.leadTaken m).freeCount = s.freeCount ∧
    (s.leadTaken m).pending = s.pending := by
  simp only [State.leadTaken]
  repeat' split
  all_goals simp

@[simp] theorem State.takeSpd_frame (s : State) (b : BitVec 8) :
    (s.takeSpd b).power = s.power ∧
    (s.takeSpd b).consts = s.consts ∧
    (s.takeSpd b).sampler = s.sampler ∧
    (s.takeSpd b).discretes = s.discretes ∧
    (s.takeSpd b).channels = s.channels ∧
    (s.takeSpd b).curves = s.curves ∧
    (s.takeSpd b).gauge.gauges = s.gauge.gauges ∧
    (s.takeSpd b).monitor = s.monitor ∧
    (s.takeSpd b).link = s.link ∧
    (s.takeSpd b).freeCount = s.freeCount ∧
    (s.takeSpd b).pending = s.pending := by
  simp only [State.takeSpd]
  repeat' split
  all_goals simp

@[simp] theorem State.takeTac_frame (s : State) (b : BitVec 8) :
    (s.takeTac b).power = s.power ∧
    (s.takeTac b).consts = s.consts ∧
    (s.takeTac b).sampler = s.sampler ∧
    (s.takeTac b).discretes = s.discretes ∧
    (s.takeTac b).channels = s.channels ∧
    (s.takeTac b).curves = s.curves ∧
    (s.takeTac b).drum = s.drum ∧
    (s.takeTac b).trip = s.trip ∧
    (s.takeTac b).gauge.gauges = s.gauge.gauges ∧
    (s.takeTac b).monitor = s.monitor ∧
    (s.takeTac b).eeprom = s.eeprom ∧
    (s.takeTac b).link = s.link ∧
    (s.takeTac b).freeCount = s.freeCount ∧
    (s.takeTac b).pending = s.pending := by
  simp only [State.takeTac]
  repeat' split
  all_goals simp

@[simp] theorem State.takeInj_frame (s : State) (b : BitVec 8) :
    (s.takeInj b).power = s.power ∧
    (s.takeInj b).consts = s.consts ∧
    (s.takeInj b).sampler = s.sampler ∧
    (s.takeInj b).discretes = s.discretes ∧
    (s.takeInj b).channels = s.channels ∧
    (s.takeInj b).curves = s.curves ∧
    (s.takeInj b).accum = s.accum ∧
    (s.takeInj b).drum = s.drum ∧
    (s.takeInj b).trip = s.trip ∧
    (s.takeInj b).gauge.gauges = s.gauge.gauges ∧
    (s.takeInj b).monitor = s.monitor ∧
    (s.takeInj b).chime = s.chime ∧
    (s.takeInj b).lamp = s.lamp ∧
    (s.takeInj b).service = s.service ∧
    (s.takeInj b).eeprom = s.eeprom ∧
    (s.takeInj b).link = s.link ∧
    (s.takeInj b).notices = s.notices ∧
    (s.takeInj b).freeCount = s.freeCount ∧
    (s.takeInj b).pending = s.pending := by
  simp only [State.takeInj]
  repeat' split
  all_goals simp

@[simp] theorem State.takeIdx_frame (s : State) :
    (s.takeIdx).time = s.time ∧
    (s.takeIdx).power = s.power ∧
    (s.takeIdx).consts = s.consts ∧
    (s.takeIdx).sampler = s.sampler ∧
    (s.takeIdx).discretes = s.discretes ∧
    (s.takeIdx).channels = s.channels ∧
    (s.takeIdx).curves = s.curves ∧
    (s.takeIdx).accum = s.accum ∧
    (s.takeIdx).trip = s.trip ∧
    (s.takeIdx).gauge = s.gauge ∧
    (s.takeIdx).monitor = s.monitor ∧
    (s.takeIdx).chime = s.chime ∧
    (s.takeIdx).lamp = s.lamp ∧
    (s.takeIdx).service = s.service ∧
    (s.takeIdx).eeprom = s.eeprom ∧
    (s.takeIdx).link = s.link ∧
    (s.takeIdx).freeCount = s.freeCount ∧
    (s.takeIdx).pending = s.pending := by
  simp only [State.takeIdx]
  repeat' split
  all_goals simp

@[simp] theorem State.takeWindowClose_frame (s : State) (b : Bool) :
    (s.takeWindowClose b).time = s.time ∧
    (s.takeWindowClose b).power = s.power ∧
    (s.takeWindowClose b).consts = s.consts ∧
    (s.takeWindowClose b).sampler = s.sampler ∧
    (s.takeWindowClose b).discretes = s.discretes ∧
    (s.takeWindowClose b).curves = s.curves ∧
    (s.takeWindowClose b).drum = s.drum ∧
    (s.takeWindowClose b).gauge = s.gauge ∧
    (s.takeWindowClose b).monitor = s.monitor ∧
    (s.takeWindowClose b).chime = s.chime ∧
    (s.takeWindowClose b).lamp = s.lamp ∧
    (s.takeWindowClose b).service = s.service ∧
    (s.takeWindowClose b).eeprom = s.eeprom ∧
    (s.takeWindowClose b).link = s.link ∧
    (s.takeWindowClose b).freeCount = s.freeCount ∧
    (s.takeWindowClose b).pending = s.pending := by
  simp only [State.takeWindowClose]
  repeat' split
  all_goals simp

@[simp] theorem State.gapTimeout_frame (s : State) :
    (s.gapTimeout).time = s.time ∧
    (s.gapTimeout).power = s.power ∧
    (s.gapTimeout).consts = s.consts ∧
    (s.gapTimeout).pulse = s.pulse ∧
    (s.gapTimeout).sampler = s.sampler ∧
    (s.gapTimeout).discretes = s.discretes ∧
    (s.gapTimeout).channels = s.channels ∧
    (s.gapTimeout).curves = s.curves ∧
    (s.gapTimeout).accum = s.accum ∧
    (s.gapTimeout).drum = s.drum ∧
    (s.gapTimeout).trip = s.trip ∧
    (s.gapTimeout).gauge = s.gauge ∧
    (s.gapTimeout).monitor = s.monitor ∧
    (s.gapTimeout).chime = s.chime ∧
    (s.gapTimeout).lamp = s.lamp ∧
    (s.gapTimeout).service = s.service ∧
    (s.gapTimeout).eeprom = s.eeprom ∧
    (s.gapTimeout).notices = s.notices ∧
    (s.gapTimeout).freeCount = s.freeCount ∧
    (s.gapTimeout).pending = s.pending := by
  simp only [State.gapTimeout]
  repeat' split
  all_goals simp

end Sys2Proof.Machine
end

