-- ==== Sys2Proof/Laws/Notices.lean ====
section
/-!
SUPPORT. What each operation does to the Notice Queue: it posts, and no operation but Notice Fetch, Soft
Restart and a power-on reset takes a notice out.
-/
namespace Sys2Proof.Machine

/-- A queue that postings have made from another (R175). -/
inductive Posts : List Notice → List Notice → Prop
  | refl (q : List Notice) : Posts q q
  | post {q r : List Notice} (k : NoticeKey) (v : Word) : Posts q r → Posts q (postNotice k v r)

theorem Posts.trans {a b c : List Notice} (h : Posts a b) (g : Posts b c) : Posts a c := by
  induction g with
  | refl => exact h
  | post k v _ ih => exact .post k v ih

/-- A posting puts its key in the queue once (R175). -/
theorem postNotice_keys (k : NoticeKey) (v : Word) (q : List Notice) :
    (postNotice k v q).map Notice.key =
      if k ∈ q.map Notice.key then q.map Notice.key else q.map Notice.key ++ [k] := by
  unfold postNotice
  by_cases h : k ∈ q.map Notice.key
  · have h' : q.any (fun n => n.key = k) = true := by
      simp only [List.mem_map] at h
      obtain ⟨n, hn, rfl⟩ := h
      exact List.any_eq_true.mpr ⟨n, hn, by simp⟩
    rw [if_pos h', if_pos h, List.map_map]
    apply List.map_congr_left
    intro n _
    by_cases e : n.key = k <;> simp [e]
  · have h' : ¬ q.any (fun n => n.key = k) = true := by
      intro c
      obtain ⟨n, hn, e⟩ := List.any_eq_true.mp c
      exact h (List.mem_map.mpr ⟨n, hn, by simpa using e⟩)
    rw [if_neg h', if_neg h]
    simp

/-- Postings keep the keys of a queue distinct (R175). -/
theorem Posts.nodup {q r : List Notice} (h : Posts q r) (hq : (q.map Notice.key).Nodup) :
    (r.map Notice.key).Nodup := by
  induction h with
  | refl => exact hq
  | post k v _ ih =>
    rw [postNotice_keys]
    split
    · exact ih
    · rename_i hk
      rw [List.nodup_append]
      refine ⟨ih, by simp, ?_⟩
      intro a ha b hb
      simp only [List.mem_singleton] at hb
      subst hb
      intro e
      exact hk (e ▸ ha)

theorem State.notify_posts (s : State) (k : NoticeKey) (v : Word) : Posts s.notices (s.notify k v).notices :=
  .post k v (.refl _)

/-- A fold of changes that each only post only posts. -/
theorem foldl_posts {β : Type} (f : State → β → State) (h : ∀ s b, Posts s.notices (f s b).notices)
    (l : List β) (s : State) : Posts s.notices (l.foldl f s).notices := by
  induction l generalizing s with
  | nil => exact .refl _
  | cons b l ih => exact (h s b).trans (ih _)

theorem State.writeChannel_posts (s : State) (c : Fin 16) (v : Option Nat) (w : Option Validity) : Posts s.notices (s.writeChannel c v w).notices := by
  simp only [State.writeChannel]
  repeat' split
  all_goals
    repeat
      first
        | with_reducible exact Posts.refl _
        | with_reducible refine Posts.trans ?_ (State.notify_posts _ _ _)
        | simp

theorem State.expireFreshness_posts (s : State) (e : Fin 5) : Posts s.notices (s.expireFreshness e).notices := by
  simp only [State.expireFreshness]
  repeat' split
  all_goals
    repeat
      first
        | with_reducible exact Posts.refl _
        | with_reducible refine Posts.trans ?_ (State.writeChannel_posts _ _ _ _)
        | simp

theorem State.restartExt_posts (s : State) : Posts s.notices (s.restartExt).notices := by
  unfold State.restartExt
  refine foldl_posts _ (fun s k => ?_) _ _
  repeat
    first
      | with_reducible exact Posts.refl _
      | with_reducible refine Posts.trans ?_ (State.writeChannel_posts _ _ _ _)
      | simp

theorem State.failWord_posts (s : State) : Posts s.notices (s.failWord).notices := by
  simp only [State.failWord]
  repeat' split
  all_goals
    repeat
      first
        | with_reducible exact Posts.refl _
        | with_reducible refine Posts.trans ?_ (State.notify_posts _ _ _)
        | simp

theorem State.alignItem_posts (s : State) (k : Fin 6) : Posts s.notices (s.alignItem k).notices := by
  simp only [State.alignItem]
  repeat' split
  all_goals
    repeat
      first
        | with_reducible exact Posts.refl _
        | with_reducible refine Posts.trans ?_ (State.notify_posts _ _ _)
        | simp

theorem State.recount_posts (s : State) (k : Fin 6) (i : ServiceItem) : Posts s.notices (s.recount k i).notices := by
  simp only [State.recount]
  repeat' split
  all_goals
    repeat
      first
        | with_reducible exact Posts.refl _
        | with_reducible refine Posts.trans ?_ (State.alignItem_posts _ _)
        | simp

theorem State.serviceDu_posts (s : State) : Posts s.notices (s.serviceDu).notices := by
  unfold State.serviceDu
  refine foldl_posts _ (fun s k => ?_) _ _
  repeat
    first
      | with_reducible exact Posts.refl _
      | with_reducible refine Posts.trans ?_ (State.recount_posts _ _ _)
      | simp

theorem State.serviceKr_posts (s : State) : Posts s.notices (s.serviceKr).notices := by
  unfold State.serviceKr
  refine foldl_posts _ (fun s k => ?_) _ _
  repeat
    first
      | with_reducible exact Posts.refl _
      | with_reducible refine Posts.trans ?_ (State.recount_posts _ _ _)
      | simp

theorem State.serviceDay_posts (s : State) : Posts s.notices (s.serviceDay).notices := by
  unfold State.serviceDay
  refine foldl_posts _ (fun s k => ?_) _ _
  repeat
    first
      | with_reducible exact Posts.refl _
      | with_reducible refine Posts.trans ?_ (State.recount_posts _ _ _)
      | simp

theorem State.configureItem_posts (s : State) (k : Fin 6) (f : ServiceFields) : Posts s.notices (s.configureItem k f).notices := by
  simp only [State.configureItem]
  repeat' split
  all_goals
    repeat
      first
        | with_reducible exact Posts.refl _
        | with_reducible refine Posts.trans ?_ (State.notify_posts _ _ _)
        | simp

theorem State.resetItem_posts (s : State) (k : Fin 6) : Posts s.notices (s.resetItem k).notices := by
  simp only [State.resetItem]
  all_goals
    repeat
      first
        | with_reducible exact Posts.refl _
        | with_reducible refine Posts.trans ?_ (State.notify_posts _ _ _)
        | simp

theorem State.notifyDrum_posts (s : State) : Posts s.notices (s.notifyDrum).notices := by
  simp only [State.notifyDrum]
  all_goals
    repeat
      first
        | with_reducible exact Posts.refl _
        | with_reducible refine Posts.trans ?_ (State.notify_posts _ _ _)
        | simp

theorem State.drumDu_posts (s : State) : Posts s.notices (s.drumDu).notices := by
  simp only [State.drumDu]
  repeat' split
  all_goals
    repeat
      first
        | with_reducible exact Posts.refl _
        | with_reducible refine Posts.trans ?_ (State.notifyDrum_posts _)
        | simp

theorem State.countMiss_posts (s : State) : Posts s.notices (s.countMiss).notices := by
  simp only [State.countMiss]
  repeat' split
  all_goals
    repeat
      first
        | with_reducible exact Posts.refl _
        | with_reducible refine Posts.trans ?_ (State.notifyDrum_posts _)
        | simp

theorem State.indexEdge_posts (s : State) : Posts s.notices (s.indexEdge).notices := by
  simp only [State.indexEdge]
  repeat' split
  all_goals
    repeat
      first
        | with_reducible exact Posts.refl _
        | with_reducible refine Posts.trans ?_ (State.countMiss_posts _)
        | simp

theorem State.missIndex_posts (s : State) : Posts s.notices (s.missIndex).notices := by
  simp only [State.missIndex]
  repeat' split
  all_goals
    repeat
      first
        | with_reducible exact Posts.refl _
        | with_reducible refine Posts.trans ?_ (State.countMiss_posts _)
        | simp

theorem State.writeConsumption_posts (s : State) : Posts s.notices (s.writeConsumption).notices := by
  simp only [State.writeConsumption]
  repeat' split
  all_goals
    repeat
      first
        | with_reducible exact Posts.refl _
        | with_reducible refine Posts.trans ?_ (State.writeChannel_posts _ _ _ _)
        | simp

theorem State.tripWindow_posts (s : State) (c : Nat) : Posts s.notices (s.tripWindow c).notices := by
  simp only [State.tripWindow]
  all_goals
    repeat
      first
        | with_reducible exact Posts.refl _
        | with_reducible refine Posts.trans ?_ (State.writeChannel_posts _ _ _ _)
        | with_reducible refine Posts.trans ?_ (State.writeConsumption_posts _)
        | simp

theorem State.presentRange_posts (s : State) : Posts s.notices (s.presentRange).notices := by
  simp only [State.presentRange]
  repeat' split
  all_goals
    repeat
      first
        | with_reducible exact Posts.refl _
        | with_reducible refine Posts.trans ?_ (State.writeChannel_posts _ _ _ _)
        | simp

theorem State.tripSecond_posts (s : State) : Posts s.notices (s.tripSecond).notices := by
  simp only [State.tripSecond]
  repeat' split
  all_goals
    repeat
      first
        | with_reducible exact Posts.refl _
        | with_reducible refine Posts.trans ?_ (State.presentRange_posts _)
        | simp

theorem State.autoReset_posts (s : State) : Posts s.notices (s.autoReset).notices := by
  simp only [State.autoReset]
  repeat' split
  all_goals
    repeat
      first
        | with_reducible exact Posts.refl _
        | with_reducible refine Posts.trans ?_ (State.notify_posts _ _ _)
        | simp

theorem State.emitDu_posts (s : State) : Posts s.notices (s.emitDu).notices := by
  have h := s.countDu.serviceDu_posts.trans s.countDu.serviceDu.drumDu_posts
  simp only [State.countDu_frame] at h
  simpa only [State.emitDu, State.postTenThousand_frame, State.postHundred_frame] using h

theorem State.addDistance_posts (s : State) : Posts s.notices (s.addDistance).notices := by
  simp only [State.addDistance]
  repeat' split
  all_goals
    repeat
      first
        | with_reducible exact Posts.refl _
        | with_reducible refine Posts.trans ?_ (State.emitDu_posts _)
        | simp

theorem State.addRevolution_posts (s : State) : Posts s.notices (s.addRevolution).notices := by
  simp only [State.addRevolution]
  repeat' split
  all_goals
    repeat
      first
        | with_reducible exact Posts.refl _
        | with_reducible refine Posts.trans ?_ (State.serviceKr_posts _)
        | simp

theorem State.writeSpeed_posts (s : State) (t : Stamp) : Posts s.notices (s.writeSpeed t).notices := by
  simp only [State.writeSpeed]
  all_goals
    repeat
      first
        | with_reducible exact Posts.refl _
        | with_reducible refine Posts.trans ?_ (State.writeChannel_posts _ _ _ _)
        | simp

theorem State.writeEngine_posts (s : State) (t : Stamp) : Posts s.notices (s.writeEngine t).notices := by
  simp only [State.writeEngine]
  all_goals
    repeat
      first
        | with_reducible exact Posts.refl _
        | with_reducible refine Posts.trans ?_ (State.writeChannel_posts _ _ _ _)
        | simp

theorem State.closeWindows_posts (s : State) : Posts s.notices (s.closeWindows).notices := by
  simp only [State.closeWindows]
  all_goals
    repeat
      first
        | with_reducible exact Posts.refl _
        | with_reducible refine Posts.trans ?_ (State.writeSpeed_posts _ _)
        | with_reducible refine Posts.trans ?_ (State.writeEngine_posts _ _)
        | simp

theorem State.closeWindow_posts (s : State) (b : Bool) : Posts s.notices (s.closeWindow b).notices := by
  unfold State.closeWindow
  generalize s.pulse.onTimeAt s.now = c
  have h := ((s.addOnTime c).tripWindow_posts c).trans ((s.addOnTime c).tripWindow c).closeWindows_posts
  have g := (s.addOnTime c).closeWindows_posts.trans ((s.addOnTime c).closeWindows.tripWindow_posts c)
  simp only [State.addOnTime_frame] at h g
  cases b
  · simpa only [State.openWindow_frame, Bool.false_eq_true, if_false] using g
  · simpa only [State.openWindow_frame, if_true] using h

theorem State.pulseExit_posts (s : State) : Posts s.notices (s.pulseExit).notices := by
  simp only [State.pulseExit]
  all_goals
    repeat
      first
        | with_reducible exact Posts.refl _
        | with_reducible refine Posts.trans ?_ (State.writeChannel_posts _ _ _ _)
        | simp

theorem State.filterUpdate_posts (s : State) (i : Fin 6) (m : Nat) : Posts s.notices (s.filterUpdate i m).notices := by
  simp only [State.filterUpdate]
  repeat' split
  all_goals
    repeat
      first
        | with_reducible exact Posts.refl _
        | with_reducible refine Posts.trans ?_ (State.writeChannel_posts _ _ _ _)
        | simp

theorem State.sampleFaulted_posts (s : State) (i : Fin 6) (r : Nat) : Posts s.notices (s.sampleFaulted i r).notices := by
  simp only [State.sampleFaulted]
  repeat' split
  all_goals
    repeat
      first
        | with_reducible exact Posts.refl _
        | with_reducible refine Posts.trans ?_ (State.writeChannel_posts _ _ _ _)
        | simp

theorem State.sampleSound_posts (s : State) (i : Fin 6) (r : Nat) : Posts s.notices (s.sampleSound i r).notices := by
  simp only [State.sampleSound]
  repeat' split
  all_goals
    repeat
      first
        | with_reducible exact Posts.refl _
        | with_reducible refine Posts.trans ?_ (State.writeChannel_posts _ _ _ _)
        | with_reducible refine Posts.trans ?_ (State.filterUpdate_posts _ _ _)
        | simp

theorem State.analogSample_posts (s : State) (i : Fin 6) (r : Nat) : Posts s.notices (s.analogSample i r).notices := by
  simp only [State.analogSample]
  repeat' split
  all_goals
    repeat
      first
        | with_reducible exact Posts.refl _
        | with_reducible refine Posts.trans ?_ (State.sampleFaulted_posts _ _ _)
        | with_reducible refine Posts.trans ?_ (State.sampleSound_posts _ _ _)
        | simp

theorem State.checkSweep_posts (s : State) : Posts s.notices (s.checkSweep).notices := by
  simp only [State.checkSweep]
  repeat' split
  all_goals
    repeat
      first
        | with_reducible exact Posts.refl _
        | with_reducible refine Posts.trans ?_ (State.notify_posts _ _ _)
        | simp

theorem State.motionStep_posts (s : State) : Posts s.notices (s.motionStep).notices := by
  simp only [State.motionStep]
  repeat' split
  all_goals
    repeat
      first
        | with_reducible exact Posts.refl _
        | with_reducible refine Posts.trans ?_ (State.checkSweep_posts _)
        | simp

theorem State.sweepTimeoutExpiry_posts (s : State) : Posts s.notices (s.sweepTimeoutExpiry).notices := by
  simp only [State.sweepTimeoutExpiry]
  repeat' split
  all_goals
    repeat
      first
        | with_reducible exact Posts.refl _
        | with_reducible refine Posts.trans ?_ (State.checkSweep_posts _)
        | simp

theorem State.gaugeExit_posts (s : State) : Posts s.notices (s.gaugeExit).notices := by
  simp only [State.gaugeExit]
  all_goals
    repeat
      first
        | with_reducible exact Posts.refl _
        | with_reducible refine Posts.trans ?_ (State.checkSweep_posts _)
        | simp

theorem State.restartGauges_posts (s : State) : Posts s.notices (s.restartGauges).notices := by
  simp only [State.restartGauges]
  all_goals
    repeat
      first
        | with_reducible exact Posts.refl _
        | with_reducible refine Posts.trans ?_ (State.checkSweep_posts _)
        | simp

theorem State.notifyMonitor_posts (s : State) (i : Fin 16) : Posts s.notices (s.notifyMonitor i).notices := by
  simp only [State.notifyMonitor]
  repeat' split
  all_goals
    repeat
      first
        | with_reducible exact Posts.refl _
        | with_reducible refine Posts.trans ?_ (State.notify_posts _ _ _)
        | simp

theorem State.enterActive_posts (s : State) (i : Fin 16) : Posts s.notices (s.enterActive i).notices := by
  simp only [State.enterActive]
  all_goals
    repeat
      first
        | with_reducible exact Posts.refl _
        | with_reducible refine Posts.trans ?_ (State.notifyMonitor_posts _ _)
        | simp

theorem State.enterClear_posts (s : State) (i : Fin 16) : Posts s.notices (s.enterClear i).notices := by
  simp only [State.enterClear]
  all_goals
    repeat
      first
        | with_reducible exact Posts.refl _
        | with_reducible refine Posts.trans ?_ (State.notifyMonitor_posts _ _)
        | simp

theorem State.startRelease_posts (s : State) (i : Fin 16) : Posts s.notices (s.startRelease i).notices := by
  simp only [State.startRelease]
  repeat' split
  all_goals
    repeat
      first
        | with_reducible exact Posts.refl _
        | with_reducible refine Posts.trans ?_ (State.enterClear_posts _ _)
        | simp

theorem State.startAssert_posts (s : State) (i : Fin 16) : Posts s.notices (s.startAssert i).notices := by
  simp only [State.startAssert]
  split
  · exact s.enterActive_posts i
  · exact .refl _

theorem State.stateRules_posts (s : State) (i : Fin 16) : Posts s.notices (s.stateRules i).notices := by
  simp only [State.stateRules]
  repeat' split
  all_goals
    repeat
      first
        | with_reducible exact Posts.refl _
        | with_reducible refine Posts.trans ?_ (State.startRelease_posts _ _)
        | with_reducible refine Posts.trans ?_ (State.startAssert_posts _ _)
        | simp

theorem State.evaluate_posts (s : State) (i : Fin 16) : Posts s.notices (s.evaluate i).notices := by
  simp only [State.evaluate]
  repeat' split
  all_goals
    repeat
      first
        | with_reducible exact Posts.refl _
        | with_reducible refine Posts.trans ?_ (State.stateRules_posts _ _)
        | simp

theorem State.monitorEvaluation_posts (s : State) (i : Fin 16) : Posts s.notices (s.monitorEvaluation i).notices := by
  simp only [State.monitorEvaluation]
  repeat' split
  all_goals
    repeat
      first
        | with_reducible exact Posts.refl _
        | with_reducible refine Posts.trans ?_ (State.evaluate_posts _ _)
        | simp

theorem State.assertExpiry_posts (s : State) (i : Fin 16) : Posts s.notices (s.assertExpiry i).notices := by
  simp only [State.assertExpiry]
  repeat' split
  all_goals
    repeat
      first
        | with_reducible exact Posts.refl _
        | with_reducible refine Posts.trans ?_ (State.enterActive_posts _ _)
        | simp

theorem State.releaseExpiry_posts (s : State) (i : Fin 16) : Posts s.notices (s.releaseExpiry i).notices := by
  simp only [State.releaseExpiry]
  repeat' split
  all_goals
    repeat
      first
        | with_reducible exact Posts.refl _
        | with_reducible refine Posts.trans ?_ (State.enterClear_posts _ _)
        | simp

theorem State.reminderExpiry_posts (s : State) (i : Fin 16) : Posts s.notices (s.reminderExpiry i).notices := by
  simp only [State.reminderExpiry]
  repeat' split
  all_goals
    repeat
      first
        | with_reducible exact Posts.refl _
        | with_reducible refine Posts.trans ?_ (State.notifyMonitor_posts _ _)
        | simp

theorem State.monitorExit_posts (s : State) (i : Fin 16) : Posts s.notices (s.monitorExit i).notices := by
  simp only [State.monitorExit]
  repeat' split
  all_goals
    repeat
      first
        | with_reducible exact Posts.refl _
        | with_reducible refine Posts.trans ?_ (State.notifyMonitor_posts _ _)
        | simp

theorem State.monitorsExit_posts (s : State) : Posts s.notices (s.monitorsExit).notices := by
  unfold State.monitorsExit
  refine foldl_posts _ (fun s k => ?_) _ _
  repeat
    first
      | with_reducible exact Posts.refl _
      | with_reducible refine Posts.trans ?_ (State.monitorExit_posts _ _)
      | simp

theorem State.acknowledge_posts (s : State) (i : Fin 16) : Posts s.notices (s.acknowledge i).notices := by
  simp only [State.acknowledge]
  repeat' split
  all_goals
    repeat
      first
        | with_reducible exact Posts.refl _
        | with_reducible refine Posts.trans ?_ (State.startRelease_posts _ _)
        | simp

theorem State.notifyPower_posts (s : State) (c : Nat) : Posts s.notices (s.notifyPower c).notices := by
  simp only [State.notifyPower]
  all_goals
    repeat
      first
        | with_reducible exact Posts.refl _
        | with_reducible refine Posts.trans ?_ (State.notify_posts _ _ _)
        | simp

theorem State.wake_posts (s : State) (c : Nat) : Posts s.notices (s.wake c).notices := by
  simp only [State.wake]
  all_goals
    repeat
      first
        | with_reducible exact Posts.refl _
        | with_reducible refine Posts.trans ?_ (State.notifyPower_posts _ _)
        | simp

theorem State.enterRun_posts (s : State) : Posts s.notices (s.enterRun).notices := by
  have a := State.autoReset_posts { s.setPower .run .stopped with
    pulse := s.pulse.runEntry (s.setPower .run .stopped).now, sampler := s.sampler.runEntry }
  simpa [State.enterRun] using a

theorem State.runEntry_posts (s : State) : Posts s.notices (s.runEntry).notices := by
  simp only [State.runEntry]
  repeat' split
  all_goals
    repeat
      first
        | with_reducible exact Posts.refl _
        | with_reducible refine Posts.trans ?_ (State.notifyPower_posts _ _)
        | with_reducible refine Posts.trans ?_ (State.enterRun_posts _)
        | simp

theorem State.tripExit_posts (s : State) : Posts s.notices (s.tripExit).notices := by
  simp only [State.tripExit]
  all_goals
    repeat
      first
        | with_reducible exact Posts.refl _
        | with_reducible refine Posts.trans ?_ (State.writeChannel_posts _ _ _ _)
        | simp

theorem State.exitRun_posts (s : State) (b : Bool) : Posts s.notices (s.exitRun b).notices := by
  unfold State.exitRun
  generalize hu : (s.setPower .awakeOff .full) = u
  have a := u.pulseExit_posts
  generalize hv : State.clearHolds { u.pulseExit with sampler := u.pulseExit.sampler.runExit } = v
  have e : v.notices = u.pulseExit.notices := by subst hv; rfl
  have b1 := v.tripExit_posts
  have c1 := (v.tripExit.exitPosts b).gaugeExit_posts
  have d1 := ((v.tripExit.exitPosts b).gaugeExit).monitorsExit_posts
  have f : u.notices = s.notices := by subst hu; rfl
  simp only [State.exitPosts_frame] at c1
  rw [e] at b1
  rw [f] at a
  have g := a.trans (b1.trans (c1.trans d1))
  simpa only [hv, State.startOff_frame, State.setBulbCheck_frame] using g

theorem State.runExit_posts (s : State) (b : Bool) : Posts s.notices (s.runExit b).notices := by
  unfold State.runExit
  split
  · exact (s.exitRun_posts b).trans (State.notifyPower_posts _ _)
  · exact .refl _

theorem State.dayEnd_posts (s : State) : Posts s.notices (s.dayEnd).notices := by
  simp only [State.dayEnd]
  repeat' split
  all_goals
    repeat
      first
        | with_reducible exact Posts.refl _
        | with_reducible refine Posts.trans ?_ (State.serviceDay_posts _)
        | simp

theorem State.enterFirst_posts (s : State) : Posts s.notices (s.enterFirst).notices := by
  simp only [State.enterFirst]
  repeat' split
  all_goals
    repeat
      first
        | with_reducible exact Posts.refl _
        | with_reducible refine Posts.trans ?_ (State.enterRun_posts _)
        | simp

theorem State.endInit_posts (s : State) : Posts s.notices (s.endInit).notices := by
  simp only [State.endInit]
  repeat' split
  all_goals
    repeat
      first
        | with_reducible exact Posts.refl _
        | with_reducible refine Posts.trans ?_ (State.notify_posts _ _ _)
        | with_reducible refine Posts.trans ?_ (State.enterFirst_posts _)
        | simp

theorem State.reportDiscrete_posts (s : State) (d : Discrete) : Posts s.notices (s.reportDiscrete d).notices := by
  simp only [State.reportDiscrete]
  repeat' split
  all_goals
    repeat
      first
        | with_reducible exact Posts.refl _
        | with_reducible refine Posts.trans ?_ (State.wake_posts _ _)
        | simp

theorem State.changeDiscrete_posts (s : State) (k : Fin 12) (d : Discrete) : Posts s.notices (s.changeDiscrete k d).notices := by
  simp only [State.changeDiscrete]
  repeat' split
  all_goals
    repeat
      first
        | with_reducible exact Posts.refl _
        | with_reducible refine Posts.trans ?_ (State.reportDiscrete_posts _ _)
        | simp

theorem State.discreteChange_posts (s : State) (k : Fin 12) : Posts s.notices (s.discreteChange k).notices := by
  simp only [State.discreteChange]
  repeat' split
  all_goals
    repeat
      first
        | with_reducible exact Posts.refl _
        | with_reducible refine Posts.trans ?_ (State.changeDiscrete_posts _ _ _)
        | simp

theorem State.restartDiscretes_posts (s : State) : Posts s.notices (s.restartDiscretes).notices := by
  unfold State.restartDiscretes
  refine foldl_posts _ (fun s k => ?_) _ _
  repeat
    first
      | with_reducible exact Posts.refl _
      | with_reducible refine Posts.trans ?_ (State.changeDiscrete_posts _ _ _)
      | simp

theorem State.frameActivity_posts (s : State) : Posts s.notices (s.frameActivity).notices := by
  simp only [State.frameActivity]
  repeat' split
  all_goals
    repeat
      first
        | with_reducible exact Posts.refl _
        | with_reducible refine Posts.trans ?_ (State.wake_posts _ _)
        | simp

theorem State.leadTaken_posts (s : State) (m : Moment) : Posts s.notices (s.leadTaken m).notices := by
  simp only [State.leadTaken]
  repeat' split
  all_goals
    repeat
      first
        | with_reducible exact Posts.refl _
        | with_reducible refine Posts.trans ?_ (State.wake_posts _ _)
        | simp

theorem State.takeSpd_posts (s : State) (b : BitVec 8) : Posts s.notices (s.takeSpd b).notices := by
  simp only [State.takeSpd]
  repeat' split
  all_goals
    repeat
      first
        | with_reducible exact Posts.refl _
        | with_reducible refine Posts.trans ?_ (State.addDistance_posts _)
        | simp

theorem State.takeTac_posts (s : State) (b : BitVec 8) : Posts s.notices (s.takeTac b).notices := by
  simp only [State.takeTac]
  repeat' split
  all_goals
    repeat
      first
        | with_reducible exact Posts.refl _
        | with_reducible refine Posts.trans ?_ (State.addRevolution_posts _)
        | simp

theorem State.takeIdx_posts (s : State) : Posts s.notices (s.takeIdx).notices := by
  simp only [State.takeIdx]
  repeat' split
  all_goals
    repeat
      first
        | with_reducible exact Posts.refl _
        | with_reducible refine Posts.trans ?_ (State.indexEdge_posts _)
        | simp

theorem State.takeWindowClose_posts (s : State) (b : Bool) : Posts s.notices (s.takeWindowClose b).notices := by
  simp only [State.takeWindowClose]
  repeat' split
  all_goals
    repeat
      first
        | with_reducible exact Posts.refl _
        | with_reducible refine Posts.trans ?_ (State.closeWindow_posts _ _)
        | simp

end Sys2Proof.Machine
end

