-- ==== Sys2Proof/Laws/Serve.lean ====
section
/-!
SUPPORT. What serving a request leaves as it was: a read request leaves everything, and each other request
the pieces of the state listed here.
-/
namespace Sys2Proof.Machine

@[simp] theorem accepted_state (s : State) : (accepted s).state = s := rfl
@[simp] theorem reading_state (s : State) (d : List Byte) : (reading s d).state = s := rfl
@[simp] theorem refuse_state (s : State) (r : Result) : (refuse s r).state = s := rfl
@[simp] theorem accepted_result (s : State) : (accepted s).result = .ok := rfl
@[simp] theorem reading_result (s : State) (d : List Byte) : (reading s d).result = .ok := rfl
@[simp] theorem refuse_result (s : State) (r : Result) : (refuse s r).result = r := rfl
@[simp] theorem accepted_data (s : State) : (accepted s).data = [] := rfl
@[simp] theorem reading_data (s : State) (d : List Byte) : (reading s d).data = d := rfl
@[simp] theorem refuse_data (s : State) (r : Result) : (refuse s r).data = [] := rfl

/-! ## Read requests change nothing -/

@[simp] theorem serveLampRead_state (lamp : Byte) (s : State) : (serveLampRead lamp s).state = s := by
  simp only [serveLampRead]
  repeat' split
  all_goals rfl

@[simp] theorem serveGaugeRead_state (gauge : Byte) (s : State) : (serveGaugeRead gauge s).state = s := by
  simp only [serveGaugeRead]
  repeat' split
  all_goals rfl

@[simp] theorem serveDrumRead_state (s : State) : (serveDrumRead  s).state = s := rfl

@[simp] theorem serveEepromRead_state (first count : Byte) (s : State) : (serveEepromRead first count s).state = s := by
  simp only [serveEepromRead]
  repeat' split
  all_goals rfl

@[simp] theorem serveMonitorRead_state (monitor part : Byte) (s : State) : (serveMonitorRead monitor part s).state = s := by
  simp only [serveMonitorRead]
  repeat' split
  all_goals rfl

@[simp] theorem serveChimeRead_state (first : Byte) (s : State) : (serveChimeRead first s).state = s := by
  simp only [serveChimeRead]
  repeat' split
  all_goals rfl

@[simp] theorem serveDiscreteRead_state (s : State) : (serveDiscreteRead  s).state = s := rfl

@[simp] theorem serveTripRead_state (selector : Byte) (s : State) : (serveTripRead selector s).state = s := by
  simp only [serveTripRead]
  repeat' split
  all_goals rfl

@[simp] theorem serveServiceRead_state (item : Byte) (s : State) : (serveServiceRead item s).state = s := by
  simp only [serveServiceRead]
  repeat' split
  all_goals rfl

@[simp] theorem serveStatusRead_state (s : State) : (serveStatusRead  s).state = s := rfl

@[simp] theorem serveVehicleConstantsRead_state (s : State) : (serveVehicleConstantsRead  s).state = s := rfl

@[simp] theorem serveOdometerRead_state (s : State) : (serveOdometerRead  s).state = s := rfl

@[simp] theorem serveChannelRead_state (first count : Byte) (s : State) : (serveChannelRead first count s).state = s := by
  simp only [serveChannelRead]
  repeat' split
  all_goals rfl

@[simp] theorem serveCurveRead_state (curve : Byte) (s : State) : (serveCurveRead curve s).state = s := by
  simp only [serveCurveRead]
  repeat' split
  all_goals rfl

/-! ## The frames of the other requests -/

@[simp] theorem serveVehicleConstantsWrite_frame (kvss cinj : Word) (ppr : Byte) (consumption : Word) (reserve : Byte) (s : State) :
    (serveVehicleConstantsWrite kvss cinj ppr consumption reserve s).state.time = s.time ∧
    (serveVehicleConstantsWrite kvss cinj ppr consumption reserve s).state.power = s.power ∧
    (serveVehicleConstantsWrite kvss cinj ppr consumption reserve s).state.pulse = s.pulse ∧
    (serveVehicleConstantsWrite kvss cinj ppr consumption reserve s).state.sampler = s.sampler ∧
    (serveVehicleConstantsWrite kvss cinj ppr consumption reserve s).state.discretes = s.discretes ∧
    (serveVehicleConstantsWrite kvss cinj ppr consumption reserve s).state.channels = s.channels ∧
    (serveVehicleConstantsWrite kvss cinj ppr consumption reserve s).state.curves = s.curves ∧
    (serveVehicleConstantsWrite kvss cinj ppr consumption reserve s).state.drum = s.drum ∧
    (serveVehicleConstantsWrite kvss cinj ppr consumption reserve s).state.trip = s.trip ∧
    (serveVehicleConstantsWrite kvss cinj ppr consumption reserve s).state.gauge = s.gauge ∧
    (serveVehicleConstantsWrite kvss cinj ppr consumption reserve s).state.monitor = s.monitor ∧
    (serveVehicleConstantsWrite kvss cinj ppr consumption reserve s).state.chime = s.chime ∧
    (serveVehicleConstantsWrite kvss cinj ppr consumption reserve s).state.lamp = s.lamp ∧
    (serveVehicleConstantsWrite kvss cinj ppr consumption reserve s).state.service = s.service ∧
    (serveVehicleConstantsWrite kvss cinj ppr consumption reserve s).state.link = s.link ∧
    (serveVehicleConstantsWrite kvss cinj ppr consumption reserve s).state.notices = s.notices ∧
    (serveVehicleConstantsWrite kvss cinj ppr consumption reserve s).state.freeCount = s.freeCount ∧
    (serveVehicleConstantsWrite kvss cinj ppr consumption reserve s).state.pending = s.pending := by
  simp only [serveVehicleConstantsWrite]
  repeat' split
  all_goals simp

@[simp] theorem serveEepromWrite_frame (address : Byte) (value : Word) (s : State) :
    (serveEepromWrite address value s).state.time = s.time ∧
    (serveEepromWrite address value s).state.power = s.power ∧
    (serveEepromWrite address value s).state.consts = s.consts ∧
    (serveEepromWrite address value s).state.pulse = s.pulse ∧
    (serveEepromWrite address value s).state.sampler = s.sampler ∧
    (serveEepromWrite address value s).state.discretes = s.discretes ∧
    (serveEepromWrite address value s).state.channels = s.channels ∧
    (serveEepromWrite address value s).state.curves = s.curves ∧
    (serveEepromWrite address value s).state.accum = s.accum ∧
    (serveEepromWrite address value s).state.drum = s.drum ∧
    (serveEepromWrite address value s).state.trip = s.trip ∧
    (serveEepromWrite address value s).state.gauge = s.gauge ∧
    (serveEepromWrite address value s).state.monitor = s.monitor ∧
    (serveEepromWrite address value s).state.chime = s.chime ∧
    (serveEepromWrite address value s).state.lamp = s.lamp ∧
    (serveEepromWrite address value s).state.service = s.service ∧
    (serveEepromWrite address value s).state.link = s.link ∧
    (serveEepromWrite address value s).state.notices = s.notices ∧
    (serveEepromWrite address value s).state.freeCount = s.freeCount ∧
    (serveEepromWrite address value s).state.pending = s.pending := by
  simp only [serveEepromWrite]
  repeat' split
  all_goals simp

@[simp] theorem serveCurveLoad_frame (curve count : Byte) (points : List (Word × Word)) (s : State) :
    (serveCurveLoad curve count points s).state.time = s.time ∧
    (serveCurveLoad curve count points s).state.power = s.power ∧
    (serveCurveLoad curve count points s).state.consts = s.consts ∧
    (serveCurveLoad curve count points s).state.pulse = s.pulse ∧
    (serveCurveLoad curve count points s).state.sampler = s.sampler ∧
    (serveCurveLoad curve count points s).state.discretes = s.discretes ∧
    (serveCurveLoad curve count points s).state.channels = s.channels ∧
    (serveCurveLoad curve count points s).state.accum = s.accum ∧
    (serveCurveLoad curve count points s).state.drum = s.drum ∧
    (serveCurveLoad curve count points s).state.trip = s.trip ∧
    (serveCurveLoad curve count points s).state.gauge = s.gauge ∧
    (serveCurveLoad curve count points s).state.monitor = s.monitor ∧
    (serveCurveLoad curve count points s).state.chime = s.chime ∧
    (serveCurveLoad curve count points s).state.lamp = s.lamp ∧
    (serveCurveLoad curve count points s).state.service = s.service ∧
    (serveCurveLoad curve count points s).state.eeprom = s.eeprom ∧
    (serveCurveLoad curve count points s).state.link = s.link ∧
    (serveCurveLoad curve count points s).state.notices = s.notices ∧
    (serveCurveLoad curve count points s).state.freeCount = s.freeCount ∧
    (serveCurveLoad curve count points s).state.pending = s.pending := by
  simp only [serveCurveLoad]
  repeat' split
  all_goals simp

@[simp] theorem serveAnalogInputConfigure_frame (input curve : Byte) (low high : Word) (d shift : Byte) (threshold : Word) (s : State) :
    (serveAnalogInputConfigure input curve low high d shift threshold s).state.time = s.time ∧
    (serveAnalogInputConfigure input curve low high d shift threshold s).state.power = s.power ∧
    (serveAnalogInputConfigure input curve low high d shift threshold s).state.consts = s.consts ∧
    (serveAnalogInputConfigure input curve low high d shift threshold s).state.pulse = s.pulse ∧
    (serveAnalogInputConfigure input curve low high d shift threshold s).state.discretes = s.discretes ∧
    (serveAnalogInputConfigure input curve low high d shift threshold s).state.channels = s.channels ∧
    (serveAnalogInputConfigure input curve low high d shift threshold s).state.curves = s.curves ∧
    (serveAnalogInputConfigure input curve low high d shift threshold s).state.accum = s.accum ∧
    (serveAnalogInputConfigure input curve low high d shift threshold s).state.drum = s.drum ∧
    (serveAnalogInputConfigure input curve low high d shift threshold s).state.trip = s.trip ∧
    (serveAnalogInputConfigure input curve low high d shift threshold s).state.gauge = s.gauge ∧
    (serveAnalogInputConfigure input curve low high d shift threshold s).state.monitor = s.monitor ∧
    (serveAnalogInputConfigure input curve low high d shift threshold s).state.chime = s.chime ∧
    (serveAnalogInputConfigure input curve low high d shift threshold s).state.lamp = s.lamp ∧
    (serveAnalogInputConfigure input curve low high d shift threshold s).state.service = s.service ∧
    (serveAnalogInputConfigure input curve low high d shift threshold s).state.eeprom = s.eeprom ∧
    (serveAnalogInputConfigure input curve low high d shift threshold s).state.link = s.link ∧
    (serveAnalogInputConfigure input curve low high d shift threshold s).state.notices = s.notices ∧
    (serveAnalogInputConfigure input curve low high d shift threshold s).state.freeCount = s.freeCount ∧
    (serveAnalogInputConfigure input curve low high d shift threshold s).state.pending = s.pending := by
  simp only [serveAnalogInputConfigure]
  repeat' split
  all_goals simp

@[simp] theorem servePulseInputConfigure_frame (input filter selection loss : Byte) (s : State) :
    (servePulseInputConfigure input filter selection loss s).state.time = s.time ∧
    (servePulseInputConfigure input filter selection loss s).state.power = s.power ∧
    (servePulseInputConfigure input filter selection loss s).state.consts = s.consts ∧
    (servePulseInputConfigure input filter selection loss s).state.sampler = s.sampler ∧
    (servePulseInputConfigure input filter selection loss s).state.discretes = s.discretes ∧
    (servePulseInputConfigure input filter selection loss s).state.channels = s.channels ∧
    (servePulseInputConfigure input filter selection loss s).state.curves = s.curves ∧
    (servePulseInputConfigure input filter selection loss s).state.accum = s.accum ∧
    (servePulseInputConfigure input filter selection loss s).state.drum = s.drum ∧
    (servePulseInputConfigure input filter selection loss s).state.trip = s.trip ∧
    (servePulseInputConfigure input filter selection loss s).state.gauge = s.gauge ∧
    (servePulseInputConfigure input filter selection loss s).state.monitor = s.monitor ∧
    (servePulseInputConfigure input filter selection loss s).state.chime = s.chime ∧
    (servePulseInputConfigure input filter selection loss s).state.lamp = s.lamp ∧
    (servePulseInputConfigure input filter selection loss s).state.service = s.service ∧
    (servePulseInputConfigure input filter selection loss s).state.eeprom = s.eeprom ∧
    (servePulseInputConfigure input filter selection loss s).state.link = s.link ∧
    (servePulseInputConfigure input filter selection loss s).state.notices = s.notices ∧
    (servePulseInputConfigure input filter selection loss s).state.freeCount = s.freeCount ∧
    (servePulseInputConfigure input filter selection loss s).state.pending = s.pending := by
  simp only [servePulseInputConfigure]
  repeat' split
  all_goals simp

@[simp] theorem serveDiscreteInputConfigure_frame (input polarity debounce wake : Byte) (s : State) :
    (serveDiscreteInputConfigure input polarity debounce wake s).state.time = s.time ∧
    (serveDiscreteInputConfigure input polarity debounce wake s).state.consts = s.consts ∧
    (serveDiscreteInputConfigure input polarity debounce wake s).state.sampler = s.sampler ∧
    (serveDiscreteInputConfigure input polarity debounce wake s).state.channels = s.channels ∧
    (serveDiscreteInputConfigure input polarity debounce wake s).state.curves = s.curves ∧
    (serveDiscreteInputConfigure input polarity debounce wake s).state.accum = s.accum ∧
    (serveDiscreteInputConfigure input polarity debounce wake s).state.drum = s.drum ∧
    (serveDiscreteInputConfigure input polarity debounce wake s).state.trip = s.trip ∧
    (serveDiscreteInputConfigure input polarity debounce wake s).state.gauge = s.gauge ∧
    (serveDiscreteInputConfigure input polarity debounce wake s).state.chime = s.chime ∧
    (serveDiscreteInputConfigure input polarity debounce wake s).state.service = s.service ∧
    (serveDiscreteInputConfigure input polarity debounce wake s).state.eeprom = s.eeprom ∧
    (serveDiscreteInputConfigure input polarity debounce wake s).state.link = s.link ∧
    (serveDiscreteInputConfigure input polarity debounce wake s).state.freeCount = s.freeCount ∧
    (serveDiscreteInputConfigure input polarity debounce wake s).state.pending = s.pending := by
  simp only [serveDiscreteInputConfigure]
  repeat' split
  all_goals simp

@[simp] theorem serveChannelHold_frame (channel : Byte) (value : Word) (s : State) :
    (serveChannelHold channel value s).state.time = s.time ∧
    (serveChannelHold channel value s).state.power = s.power ∧
    (serveChannelHold channel value s).state.consts = s.consts ∧
    (serveChannelHold channel value s).state.pulse = s.pulse ∧
    (serveChannelHold channel value s).state.sampler = s.sampler ∧
    (serveChannelHold channel value s).state.discretes = s.discretes ∧
    (serveChannelHold channel value s).state.curves = s.curves ∧
    (serveChannelHold channel value s).state.accum = s.accum ∧
    (serveChannelHold channel value s).state.drum = s.drum ∧
    (serveChannelHold channel value s).state.trip = s.trip ∧
    (serveChannelHold channel value s).state.gauge = s.gauge ∧
    (serveChannelHold channel value s).state.monitor = s.monitor ∧
    (serveChannelHold channel value s).state.chime = s.chime ∧
    (serveChannelHold channel value s).state.lamp = s.lamp ∧
    (serveChannelHold channel value s).state.service = s.service ∧
    (serveChannelHold channel value s).state.eeprom = s.eeprom ∧
    (serveChannelHold channel value s).state.link = s.link ∧
    (serveChannelHold channel value s).state.notices = s.notices ∧
    (serveChannelHold channel value s).state.freeCount = s.freeCount ∧
    (serveChannelHold channel value s).state.pending = s.pending := by
  simp only [serveChannelHold]
  repeat' split
  all_goals simp

@[simp] theorem serveChannelRelease_frame (channel : Byte) (s : State) :
    (serveChannelRelease channel s).state.time = s.time ∧
    (serveChannelRelease channel s).state.power = s.power ∧
    (serveChannelRelease channel s).state.consts = s.consts ∧
    (serveChannelRelease channel s).state.pulse = s.pulse ∧
    (serveChannelRelease channel s).state.sampler = s.sampler ∧
    (serveChannelRelease channel s).state.discretes = s.discretes ∧
    (serveChannelRelease channel s).state.curves = s.curves ∧
    (serveChannelRelease channel s).state.accum = s.accum ∧
    (serveChannelRelease channel s).state.drum = s.drum ∧
    (serveChannelRelease channel s).state.trip = s.trip ∧
    (serveChannelRelease channel s).state.gauge = s.gauge ∧
    (serveChannelRelease channel s).state.monitor = s.monitor ∧
    (serveChannelRelease channel s).state.chime = s.chime ∧
    (serveChannelRelease channel s).state.lamp = s.lamp ∧
    (serveChannelRelease channel s).state.service = s.service ∧
    (serveChannelRelease channel s).state.eeprom = s.eeprom ∧
    (serveChannelRelease channel s).state.link = s.link ∧
    (serveChannelRelease channel s).state.notices = s.notices ∧
    (serveChannelRelease channel s).state.freeCount = s.freeCount ∧
    (serveChannelRelease channel s).state.pending = s.pending := by
  simp only [serveChannelRelease]
  repeat' split
  all_goals simp

@[simp] theorem serveChannelPut_frame (channel : Byte) (value : Word) (s : State) :
    (serveChannelPut channel value s).state.time = s.time ∧
    (serveChannelPut channel value s).state.power = s.power ∧
    (serveChannelPut channel value s).state.consts = s.consts ∧
    (serveChannelPut channel value s).state.pulse = s.pulse ∧
    (serveChannelPut channel value s).state.sampler = s.sampler ∧
    (serveChannelPut channel value s).state.discretes = s.discretes ∧
    (serveChannelPut channel value s).state.curves = s.curves ∧
    (serveChannelPut channel value s).state.accum = s.accum ∧
    (serveChannelPut channel value s).state.drum = s.drum ∧
    (serveChannelPut channel value s).state.trip = s.trip ∧
    (serveChannelPut channel value s).state.gauge = s.gauge ∧
    (serveChannelPut channel value s).state.monitor = s.monitor ∧
    (serveChannelPut channel value s).state.chime = s.chime ∧
    (serveChannelPut channel value s).state.lamp = s.lamp ∧
    (serveChannelPut channel value s).state.service = s.service ∧
    (serveChannelPut channel value s).state.eeprom = s.eeprom ∧
    (serveChannelPut channel value s).state.link = s.link ∧
    (serveChannelPut channel value s).state.freeCount = s.freeCount ∧
    (serveChannelPut channel value s).state.pending = s.pending := by
  simp only [serveChannelPut]
  repeat' split
  all_goals simp

@[simp] theorem serveExternalChannelConfigure_frame (channel freshness withdraw : Byte) (s : State) :
    (serveExternalChannelConfigure channel freshness withdraw s).state.time = s.time ∧
    (serveExternalChannelConfigure channel freshness withdraw s).state.power = s.power ∧
    (serveExternalChannelConfigure channel freshness withdraw s).state.consts = s.consts ∧
    (serveExternalChannelConfigure channel freshness withdraw s).state.pulse = s.pulse ∧
    (serveExternalChannelConfigure channel freshness withdraw s).state.sampler = s.sampler ∧
    (serveExternalChannelConfigure channel freshness withdraw s).state.discretes = s.discretes ∧
    (serveExternalChannelConfigure channel freshness withdraw s).state.curves = s.curves ∧
    (serveExternalChannelConfigure channel freshness withdraw s).state.accum = s.accum ∧
    (serveExternalChannelConfigure channel freshness withdraw s).state.drum = s.drum ∧
    (serveExternalChannelConfigure channel freshness withdraw s).state.trip = s.trip ∧
    (serveExternalChannelConfigure channel freshness withdraw s).state.gauge = s.gauge ∧
    (serveExternalChannelConfigure channel freshness withdraw s).state.monitor = s.monitor ∧
    (serveExternalChannelConfigure channel freshness withdraw s).state.chime = s.chime ∧
    (serveExternalChannelConfigure channel freshness withdraw s).state.lamp = s.lamp ∧
    (serveExternalChannelConfigure channel freshness withdraw s).state.service = s.service ∧
    (serveExternalChannelConfigure channel freshness withdraw s).state.eeprom = s.eeprom ∧
    (serveExternalChannelConfigure channel freshness withdraw s).state.link = s.link ∧
    (serveExternalChannelConfigure channel freshness withdraw s).state.freeCount = s.freeCount ∧
    (serveExternalChannelConfigure channel freshness withdraw s).state.pending = s.pending := by
  simp only [serveExternalChannelConfigure]
  repeat' split
  all_goals simp

@[simp] theorem serveGaugeConfigure_frame (gauge : Byte) (f : GaugeFields) (delay : Word) (s : State) :
    (serveGaugeConfigure gauge f delay s).state.time = s.time ∧
    (serveGaugeConfigure gauge f delay s).state.power = s.power ∧
    (serveGaugeConfigure gauge f delay s).state.consts = s.consts ∧
    (serveGaugeConfigure gauge f delay s).state.pulse = s.pulse ∧
    (serveGaugeConfigure gauge f delay s).state.sampler = s.sampler ∧
    (serveGaugeConfigure gauge f delay s).state.discretes = s.discretes ∧
    (serveGaugeConfigure gauge f delay s).state.channels = s.channels ∧
    (serveGaugeConfigure gauge f delay s).state.curves = s.curves ∧
    (serveGaugeConfigure gauge f delay s).state.accum = s.accum ∧
    (serveGaugeConfigure gauge f delay s).state.drum = s.drum ∧
    (serveGaugeConfigure gauge f delay s).state.trip = s.trip ∧
    (serveGaugeConfigure gauge f delay s).state.monitor = s.monitor ∧
    (serveGaugeConfigure gauge f delay s).state.chime = s.chime ∧
    (serveGaugeConfigure gauge f delay s).state.lamp = s.lamp ∧
    (serveGaugeConfigure gauge f delay s).state.service = s.service ∧
    (serveGaugeConfigure gauge f delay s).state.eeprom = s.eeprom ∧
    (serveGaugeConfigure gauge f delay s).state.link = s.link ∧
    (serveGaugeConfigure gauge f delay s).state.freeCount = s.freeCount ∧
    (serveGaugeConfigure gauge f delay s).state.pending = s.pending := by
  simp only [serveGaugeConfigure]
  repeat' split
  all_goals simp

@[simp] theorem serveSweepStart_frame (s : State) :
    (serveSweepStart s).state.time = s.time ∧
    (serveSweepStart s).state.power = s.power ∧
    (serveSweepStart s).state.consts = s.consts ∧
    (serveSweepStart s).state.pulse = s.pulse ∧
    (serveSweepStart s).state.sampler = s.sampler ∧
    (serveSweepStart s).state.discretes = s.discretes ∧
    (serveSweepStart s).state.channels = s.channels ∧
    (serveSweepStart s).state.curves = s.curves ∧
    (serveSweepStart s).state.accum = s.accum ∧
    (serveSweepStart s).state.drum = s.drum ∧
    (serveSweepStart s).state.trip = s.trip ∧
    (serveSweepStart s).state.monitor = s.monitor ∧
    (serveSweepStart s).state.chime = s.chime ∧
    (serveSweepStart s).state.lamp = s.lamp ∧
    (serveSweepStart s).state.service = s.service ∧
    (serveSweepStart s).state.eeprom = s.eeprom ∧
    (serveSweepStart s).state.link = s.link ∧
    (serveSweepStart s).state.notices = s.notices ∧
    (serveSweepStart s).state.freeCount = s.freeCount ∧
    (serveSweepStart s).state.pending = s.pending := by
  simp only [serveSweepStart]
  repeat' split
  all_goals simp

@[simp] theorem serveMonitorConfigure_frame (monitor : Byte) (f : MonitorFields) (s : State) :
    (serveMonitorConfigure monitor f s).state.time = s.time ∧
    (serveMonitorConfigure monitor f s).state.power = s.power ∧
    (serveMonitorConfigure monitor f s).state.consts = s.consts ∧
    (serveMonitorConfigure monitor f s).state.pulse = s.pulse ∧
    (serveMonitorConfigure monitor f s).state.sampler = s.sampler ∧
    (serveMonitorConfigure monitor f s).state.discretes = s.discretes ∧
    (serveMonitorConfigure monitor f s).state.channels = s.channels ∧
    (serveMonitorConfigure monitor f s).state.curves = s.curves ∧
    (serveMonitorConfigure monitor f s).state.accum = s.accum ∧
    (serveMonitorConfigure monitor f s).state.drum = s.drum ∧
    (serveMonitorConfigure monitor f s).state.trip = s.trip ∧
    (serveMonitorConfigure monitor f s).state.gauge = s.gauge ∧
    (serveMonitorConfigure monitor f s).state.service = s.service ∧
    (serveMonitorConfigure monitor f s).state.eeprom = s.eeprom ∧
    (serveMonitorConfigure monitor f s).state.link = s.link ∧
    (serveMonitorConfigure monitor f s).state.notices = s.notices ∧
    (serveMonitorConfigure monitor f s).state.freeCount = s.freeCount ∧
    (serveMonitorConfigure monitor f s).state.pending = s.pending := by
  simp only [serveMonitorConfigure]
  repeat' split
  all_goals simp

@[simp] theorem serveMonitorAcknowledge_frame (monitor : Byte) (s : State) :
    (serveMonitorAcknowledge monitor s).state.time = s.time ∧
    (serveMonitorAcknowledge monitor s).state.power = s.power ∧
    (serveMonitorAcknowledge monitor s).state.consts = s.consts ∧
    (serveMonitorAcknowledge monitor s).state.pulse = s.pulse ∧
    (serveMonitorAcknowledge monitor s).state.sampler = s.sampler ∧
    (serveMonitorAcknowledge monitor s).state.discretes = s.discretes ∧
    (serveMonitorAcknowledge monitor s).state.channels = s.channels ∧
    (serveMonitorAcknowledge monitor s).state.curves = s.curves ∧
    (serveMonitorAcknowledge monitor s).state.accum = s.accum ∧
    (serveMonitorAcknowledge monitor s).state.drum = s.drum ∧
    (serveMonitorAcknowledge monitor s).state.trip = s.trip ∧
    (serveMonitorAcknowledge monitor s).state.gauge = s.gauge ∧
    (serveMonitorAcknowledge monitor s).state.service = s.service ∧
    (serveMonitorAcknowledge monitor s).state.eeprom = s.eeprom ∧
    (serveMonitorAcknowledge monitor s).state.link = s.link ∧
    (serveMonitorAcknowledge monitor s).state.freeCount = s.freeCount ∧
    (serveMonitorAcknowledge monitor s).state.pending = s.pending := by
  simp only [serveMonitorAcknowledge]
  repeat' split
  all_goals first
    | (simp; done)
    | exact ⟨foldl_keeps State.time _ (fun _ _ => by simp) _ _, foldl_keeps State.power _ (fun _ _ => by simp) _ _, foldl_keeps State.consts _ (fun _ _ => by simp) _ _, foldl_keeps State.pulse _ (fun _ _ => by simp) _ _, foldl_keeps State.sampler _ (fun _ _ => by simp) _ _, foldl_keeps State.discretes _ (fun _ _ => by simp) _ _, foldl_keeps State.channels _ (fun _ _ => by simp) _ _, foldl_keeps State.curves _ (fun _ _ => by simp) _ _, foldl_keeps State.accum _ (fun _ _ => by simp) _ _, foldl_keeps State.drum _ (fun _ _ => by simp) _ _, foldl_keeps State.trip _ (fun _ _ => by simp) _ _, foldl_keeps State.gauge _ (fun _ _ => by simp) _ _, foldl_keeps State.service _ (fun _ _ => by simp) _ _, foldl_keeps State.eeprom _ (fun _ _ => by simp) _ _, foldl_keeps State.link _ (fun _ _ => by simp) _ _, foldl_keeps State.freeCount _ (fun _ _ => by simp) _ _, foldl_keeps State.pending _ (fun _ _ => by simp) _ _⟩

@[simp] theorem serveMonitorClearSnapshot_frame (monitor : Byte) (s : State) :
    (serveMonitorClearSnapshot monitor s).state.time = s.time ∧
    (serveMonitorClearSnapshot monitor s).state.power = s.power ∧
    (serveMonitorClearSnapshot monitor s).state.consts = s.consts ∧
    (serveMonitorClearSnapshot monitor s).state.pulse = s.pulse ∧
    (serveMonitorClearSnapshot monitor s).state.sampler = s.sampler ∧
    (serveMonitorClearSnapshot monitor s).state.discretes = s.discretes ∧
    (serveMonitorClearSnapshot monitor s).state.channels = s.channels ∧
    (serveMonitorClearSnapshot monitor s).state.curves = s.curves ∧
    (serveMonitorClearSnapshot monitor s).state.accum = s.accum ∧
    (serveMonitorClearSnapshot monitor s).state.drum = s.drum ∧
    (serveMonitorClearSnapshot monitor s).state.trip = s.trip ∧
    (serveMonitorClearSnapshot monitor s).state.gauge = s.gauge ∧
    (serveMonitorClearSnapshot monitor s).state.chime = s.chime ∧
    (serveMonitorClearSnapshot monitor s).state.lamp = s.lamp ∧
    (serveMonitorClearSnapshot monitor s).state.service = s.service ∧
    (serveMonitorClearSnapshot monitor s).state.eeprom = s.eeprom ∧
    (serveMonitorClearSnapshot monitor s).state.link = s.link ∧
    (serveMonitorClearSnapshot monitor s).state.notices = s.notices ∧
    (serveMonitorClearSnapshot monitor s).state.freeCount = s.freeCount ∧
    (serveMonitorClearSnapshot monitor s).state.pending = s.pending := by
  simp only [serveMonitorClearSnapshot]
  repeat' split
  all_goals first
    | (simp; done)
    | exact ⟨foldl_keeps State.time _ (fun _ _ => by simp) _ _, foldl_keeps State.power _ (fun _ _ => by simp) _ _, foldl_keeps State.consts _ (fun _ _ => by simp) _ _, foldl_keeps State.pulse _ (fun _ _ => by simp) _ _, foldl_keeps State.sampler _ (fun _ _ => by simp) _ _, foldl_keeps State.discretes _ (fun _ _ => by simp) _ _, foldl_keeps State.channels _ (fun _ _ => by simp) _ _, foldl_keeps State.curves _ (fun _ _ => by simp) _ _, foldl_keeps State.accum _ (fun _ _ => by simp) _ _, foldl_keeps State.drum _ (fun _ _ => by simp) _ _, foldl_keeps State.trip _ (fun _ _ => by simp) _ _, foldl_keeps State.gauge _ (fun _ _ => by simp) _ _, foldl_keeps State.chime _ (fun _ _ => by simp) _ _, foldl_keeps State.lamp _ (fun _ _ => by simp) _ _, foldl_keeps State.service _ (fun _ _ => by simp) _ _, foldl_keeps State.eeprom _ (fun _ _ => by simp) _ _, foldl_keeps State.link _ (fun _ _ => by simp) _ _, foldl_keeps State.notices _ (fun _ _ => by simp) _ _, foldl_keeps State.freeCount _ (fun _ _ => by simp) _ _, foldl_keeps State.pending _ (fun _ _ => by simp) _ _⟩

@[simp] theorem serveChimePost_frame (slot pattern priority passes : Byte) (s : State) :
    (serveChimePost slot pattern priority passes s).state.time = s.time ∧
    (serveChimePost slot pattern priority passes s).state.power = s.power ∧
    (serveChimePost slot pattern priority passes s).state.consts = s.consts ∧
    (serveChimePost slot pattern priority passes s).state.pulse = s.pulse ∧
    (serveChimePost slot pattern priority passes s).state.sampler = s.sampler ∧
    (serveChimePost slot pattern priority passes s).state.discretes = s.discretes ∧
    (serveChimePost slot pattern priority passes s).state.channels = s.channels ∧
    (serveChimePost slot pattern priority passes s).state.curves = s.curves ∧
    (serveChimePost slot pattern priority passes s).state.accum = s.accum ∧
    (serveChimePost slot pattern priority passes s).state.drum = s.drum ∧
    (serveChimePost slot pattern priority passes s).state.trip = s.trip ∧
    (serveChimePost slot pattern priority passes s).state.gauge = s.gauge ∧
    (serveChimePost slot pattern priority passes s).state.monitor = s.monitor ∧
    (serveChimePost slot pattern priority passes s).state.lamp = s.lamp ∧
    (serveChimePost slot pattern priority passes s).state.service = s.service ∧
    (serveChimePost slot pattern priority passes s).state.eeprom = s.eeprom ∧
    (serveChimePost slot pattern priority passes s).state.link = s.link ∧
    (serveChimePost slot pattern priority passes s).state.notices = s.notices ∧
    (serveChimePost slot pattern priority passes s).state.freeCount = s.freeCount ∧
    (serveChimePost slot pattern priority passes s).state.pending = s.pending := by
  simp only [serveChimePost]
  repeat' split
  all_goals simp

@[simp] theorem serveChimeWithdraw_frame (slot : Byte) (s : State) :
    (serveChimeWithdraw slot s).state.time = s.time ∧
    (serveChimeWithdraw slot s).state.power = s.power ∧
    (serveChimeWithdraw slot s).state.consts = s.consts ∧
    (serveChimeWithdraw slot s).state.pulse = s.pulse ∧
    (serveChimeWithdraw slot s).state.sampler = s.sampler ∧
    (serveChimeWithdraw slot s).state.discretes = s.discretes ∧
    (serveChimeWithdraw slot s).state.channels = s.channels ∧
    (serveChimeWithdraw slot s).state.curves = s.curves ∧
    (serveChimeWithdraw slot s).state.accum = s.accum ∧
    (serveChimeWithdraw slot s).state.drum = s.drum ∧
    (serveChimeWithdraw slot s).state.trip = s.trip ∧
    (serveChimeWithdraw slot s).state.gauge = s.gauge ∧
    (serveChimeWithdraw slot s).state.monitor = s.monitor ∧
    (serveChimeWithdraw slot s).state.lamp = s.lamp ∧
    (serveChimeWithdraw slot s).state.service = s.service ∧
    (serveChimeWithdraw slot s).state.eeprom = s.eeprom ∧
    (serveChimeWithdraw slot s).state.link = s.link ∧
    (serveChimeWithdraw slot s).state.notices = s.notices ∧
    (serveChimeWithdraw slot s).state.freeCount = s.freeCount ∧
    (serveChimeWithdraw slot s).state.pending = s.pending := by
  simp only [serveChimeWithdraw]
  repeat' split
  all_goals first
    | (simp; done)
    | exact ⟨foldl_keeps State.time _ (fun _ _ => by simp) _ _, foldl_keeps State.power _ (fun _ _ => by simp) _ _, foldl_keeps State.consts _ (fun _ _ => by simp) _ _, foldl_keeps State.pulse _ (fun _ _ => by simp) _ _, foldl_keeps State.sampler _ (fun _ _ => by simp) _ _, foldl_keeps State.discretes _ (fun _ _ => by simp) _ _, foldl_keeps State.channels _ (fun _ _ => by simp) _ _, foldl_keeps State.curves _ (fun _ _ => by simp) _ _, foldl_keeps State.accum _ (fun _ _ => by simp) _ _, foldl_keeps State.drum _ (fun _ _ => by simp) _ _, foldl_keeps State.trip _ (fun _ _ => by simp) _ _, foldl_keeps State.gauge _ (fun _ _ => by simp) _ _, foldl_keeps State.monitor _ (fun _ _ => by simp) _ _, foldl_keeps State.lamp _ (fun _ _ => by simp) _ _, foldl_keeps State.service _ (fun _ _ => by simp) _ _, foldl_keeps State.eeprom _ (fun _ _ => by simp) _ _, foldl_keeps State.link _ (fun _ _ => by simp) _ _, foldl_keeps State.notices _ (fun _ _ => by simp) _ _, foldl_keeps State.freeCount _ (fun _ _ => by simp) _ _, foldl_keeps State.pending _ (fun _ _ => by simp) _ _⟩

@[simp] theorem servePatternLoad_frame (pattern count : Byte) (steps : List (Byte × Byte)) (s : State) :
    (servePatternLoad pattern count steps s).state.time = s.time ∧
    (servePatternLoad pattern count steps s).state.power = s.power ∧
    (servePatternLoad pattern count steps s).state.consts = s.consts ∧
    (servePatternLoad pattern count steps s).state.pulse = s.pulse ∧
    (servePatternLoad pattern count steps s).state.sampler = s.sampler ∧
    (servePatternLoad pattern count steps s).state.discretes = s.discretes ∧
    (servePatternLoad pattern count steps s).state.channels = s.channels ∧
    (servePatternLoad pattern count steps s).state.curves = s.curves ∧
    (servePatternLoad pattern count steps s).state.accum = s.accum ∧
    (servePatternLoad pattern count steps s).state.drum = s.drum ∧
    (servePatternLoad pattern count steps s).state.trip = s.trip ∧
    (servePatternLoad pattern count steps s).state.gauge = s.gauge ∧
    (servePatternLoad pattern count steps s).state.monitor = s.monitor ∧
    (servePatternLoad pattern count steps s).state.lamp = s.lamp ∧
    (servePatternLoad pattern count steps s).state.service = s.service ∧
    (servePatternLoad pattern count steps s).state.eeprom = s.eeprom ∧
    (servePatternLoad pattern count steps s).state.link = s.link ∧
    (servePatternLoad pattern count steps s).state.notices = s.notices ∧
    (servePatternLoad pattern count steps s).state.freeCount = s.freeCount ∧
    (servePatternLoad pattern count steps s).state.pending = s.pending := by
  simp only [servePatternLoad]
  repeat' split
  all_goals simp

@[simp] theorem serveLampSet_frame (lamp mode : Byte) (s : State) :
    (serveLampSet lamp mode s).state.time = s.time ∧
    (serveLampSet lamp mode s).state.power = s.power ∧
    (serveLampSet lamp mode s).state.consts = s.consts ∧
    (serveLampSet lamp mode s).state.pulse = s.pulse ∧
    (serveLampSet lamp mode s).state.sampler = s.sampler ∧
    (serveLampSet lamp mode s).state.discretes = s.discretes ∧
    (serveLampSet lamp mode s).state.channels = s.channels ∧
    (serveLampSet lamp mode s).state.curves = s.curves ∧
    (serveLampSet lamp mode s).state.accum = s.accum ∧
    (serveLampSet lamp mode s).state.drum = s.drum ∧
    (serveLampSet lamp mode s).state.trip = s.trip ∧
    (serveLampSet lamp mode s).state.gauge = s.gauge ∧
    (serveLampSet lamp mode s).state.monitor = s.monitor ∧
    (serveLampSet lamp mode s).state.chime = s.chime ∧
    (serveLampSet lamp mode s).state.service = s.service ∧
    (serveLampSet lamp mode s).state.eeprom = s.eeprom ∧
    (serveLampSet lamp mode s).state.link = s.link ∧
    (serveLampSet lamp mode s).state.notices = s.notices ∧
    (serveLampSet lamp mode s).state.freeCount = s.freeCount ∧
    (serveLampSet lamp mode s).state.pending = s.pending := by
  simp only [serveLampSet]
  repeat' split
  all_goals first
    | (simp; done)
    | exact ⟨foldl_keeps State.time _ (fun _ _ => by simp) _ _, foldl_keeps State.power _ (fun _ _ => by simp) _ _, foldl_keeps State.consts _ (fun _ _ => by simp) _ _, foldl_keeps State.pulse _ (fun _ _ => by simp) _ _, foldl_keeps State.sampler _ (fun _ _ => by simp) _ _, foldl_keeps State.discretes _ (fun _ _ => by simp) _ _, foldl_keeps State.channels _ (fun _ _ => by simp) _ _, foldl_keeps State.curves _ (fun _ _ => by simp) _ _, foldl_keeps State.accum _ (fun _ _ => by simp) _ _, foldl_keeps State.drum _ (fun _ _ => by simp) _ _, foldl_keeps State.trip _ (fun _ _ => by simp) _ _, foldl_keeps State.gauge _ (fun _ _ => by simp) _ _, foldl_keeps State.monitor _ (fun _ _ => by simp) _ _, foldl_keeps State.chime _ (fun _ _ => by simp) _ _, foldl_keeps State.service _ (fun _ _ => by simp) _ _, foldl_keeps State.eeprom _ (fun _ _ => by simp) _ _, foldl_keeps State.link _ (fun _ _ => by simp) _ _, foldl_keeps State.notices _ (fun _ _ => by simp) _ _, foldl_keeps State.freeCount _ (fun _ _ => by simp) _ _, foldl_keeps State.pending _ (fun _ _ => by simp) _ _⟩

@[simp] theorem serveLampConfigure_frame (discrete : Byte) (s : State) :
    (serveLampConfigure discrete s).state.time = s.time ∧
    (serveLampConfigure discrete s).state.power = s.power ∧
    (serveLampConfigure discrete s).state.consts = s.consts ∧
    (serveLampConfigure discrete s).state.pulse = s.pulse ∧
    (serveLampConfigure discrete s).state.sampler = s.sampler ∧
    (serveLampConfigure discrete s).state.discretes = s.discretes ∧
    (serveLampConfigure discrete s).state.channels = s.channels ∧
    (serveLampConfigure discrete s).state.curves = s.curves ∧
    (serveLampConfigure discrete s).state.accum = s.accum ∧
    (serveLampConfigure discrete s).state.drum = s.drum ∧
    (serveLampConfigure discrete s).state.trip = s.trip ∧
    (serveLampConfigure discrete s).state.gauge = s.gauge ∧
    (serveLampConfigure discrete s).state.monitor = s.monitor ∧
    (serveLampConfigure discrete s).state.chime = s.chime ∧
    (serveLampConfigure discrete s).state.service = s.service ∧
    (serveLampConfigure discrete s).state.eeprom = s.eeprom ∧
    (serveLampConfigure discrete s).state.link = s.link ∧
    (serveLampConfigure discrete s).state.notices = s.notices ∧
    (serveLampConfigure discrete s).state.freeCount = s.freeCount ∧
    (serveLampConfigure discrete s).state.pending = s.pending := by
  simp only [serveLampConfigure]
  repeat' split
  all_goals simp

@[simp] theorem serveTripReset_frame (selector : Byte) (s : State) :
    (serveTripReset selector s).state.time = s.time ∧
    (serveTripReset selector s).state.power = s.power ∧
    (serveTripReset selector s).state.consts = s.consts ∧
    (serveTripReset selector s).state.pulse = s.pulse ∧
    (serveTripReset selector s).state.sampler = s.sampler ∧
    (serveTripReset selector s).state.discretes = s.discretes ∧
    (serveTripReset selector s).state.channels = s.channels ∧
    (serveTripReset selector s).state.curves = s.curves ∧
    (serveTripReset selector s).state.accum = s.accum ∧
    (serveTripReset selector s).state.drum = s.drum ∧
    (serveTripReset selector s).state.gauge = s.gauge ∧
    (serveTripReset selector s).state.monitor = s.monitor ∧
    (serveTripReset selector s).state.chime = s.chime ∧
    (serveTripReset selector s).state.lamp = s.lamp ∧
    (serveTripReset selector s).state.service = s.service ∧
    (serveTripReset selector s).state.eeprom = s.eeprom ∧
    (serveTripReset selector s).state.link = s.link ∧
    (serveTripReset selector s).state.notices = s.notices ∧
    (serveTripReset selector s).state.freeCount = s.freeCount ∧
    (serveTripReset selector s).state.pending = s.pending := by
  simp only [serveTripReset]
  repeat' split
  all_goals simp

@[simp] theorem serveTripControl_frame (actionA actionB hours : Byte) (s : State) :
    (serveTripControl actionA actionB hours s).state.time = s.time ∧
    (serveTripControl actionA actionB hours s).state.power = s.power ∧
    (serveTripControl actionA actionB hours s).state.consts = s.consts ∧
    (serveTripControl actionA actionB hours s).state.pulse = s.pulse ∧
    (serveTripControl actionA actionB hours s).state.sampler = s.sampler ∧
    (serveTripControl actionA actionB hours s).state.discretes = s.discretes ∧
    (serveTripControl actionA actionB hours s).state.channels = s.channels ∧
    (serveTripControl actionA actionB hours s).state.curves = s.curves ∧
    (serveTripControl actionA actionB hours s).state.accum = s.accum ∧
    (serveTripControl actionA actionB hours s).state.drum = s.drum ∧
    (serveTripControl actionA actionB hours s).state.gauge = s.gauge ∧
    (serveTripControl actionA actionB hours s).state.monitor = s.monitor ∧
    (serveTripControl actionA actionB hours s).state.chime = s.chime ∧
    (serveTripControl actionA actionB hours s).state.lamp = s.lamp ∧
    (serveTripControl actionA actionB hours s).state.service = s.service ∧
    (serveTripControl actionA actionB hours s).state.eeprom = s.eeprom ∧
    (serveTripControl actionA actionB hours s).state.link = s.link ∧
    (serveTripControl actionA actionB hours s).state.notices = s.notices ∧
    (serveTripControl actionA actionB hours s).state.freeCount = s.freeCount ∧
    (serveTripControl actionA actionB hours s).state.pending = s.pending := by
  simp only [serveTripControl]
  repeat' split
  all_goals simp

@[simp] theorem serveDrumRestart_frame (s : State) :
    (serveDrumRestart s).state.time = s.time ∧
    (serveDrumRestart s).state.power = s.power ∧
    (serveDrumRestart s).state.consts = s.consts ∧
    (serveDrumRestart s).state.pulse = s.pulse ∧
    (serveDrumRestart s).state.sampler = s.sampler ∧
    (serveDrumRestart s).state.discretes = s.discretes ∧
    (serveDrumRestart s).state.channels = s.channels ∧
    (serveDrumRestart s).state.curves = s.curves ∧
    (serveDrumRestart s).state.accum = s.accum ∧
    (serveDrumRestart s).state.trip = s.trip ∧
    (serveDrumRestart s).state.gauge = s.gauge ∧
    (serveDrumRestart s).state.monitor = s.monitor ∧
    (serveDrumRestart s).state.chime = s.chime ∧
    (serveDrumRestart s).state.lamp = s.lamp ∧
    (serveDrumRestart s).state.service = s.service ∧
    (serveDrumRestart s).state.eeprom = s.eeprom ∧
    (serveDrumRestart s).state.link = s.link ∧
    (serveDrumRestart s).state.freeCount = s.freeCount ∧
    (serveDrumRestart s).state.pending = s.pending := by
  simp only [serveDrumRestart]
  repeat' split
  all_goals simp

@[simp] theorem serveServiceConfigure_frame (item : Byte) (f : ServiceFields) (s : State) :
    (serveServiceConfigure item f s).state.time = s.time ∧
    (serveServiceConfigure item f s).state.power = s.power ∧
    (serveServiceConfigure item f s).state.consts = s.consts ∧
    (serveServiceConfigure item f s).state.pulse = s.pulse ∧
    (serveServiceConfigure item f s).state.sampler = s.sampler ∧
    (serveServiceConfigure item f s).state.discretes = s.discretes ∧
    (serveServiceConfigure item f s).state.channels = s.channels ∧
    (serveServiceConfigure item f s).state.curves = s.curves ∧
    (serveServiceConfigure item f s).state.accum = s.accum ∧
    (serveServiceConfigure item f s).state.drum = s.drum ∧
    (serveServiceConfigure item f s).state.trip = s.trip ∧
    (serveServiceConfigure item f s).state.gauge = s.gauge ∧
    (serveServiceConfigure item f s).state.monitor = s.monitor ∧
    (serveServiceConfigure item f s).state.eeprom = s.eeprom ∧
    (serveServiceConfigure item f s).state.link = s.link ∧
    (serveServiceConfigure item f s).state.freeCount = s.freeCount ∧
    (serveServiceConfigure item f s).state.pending = s.pending := by
  simp only [serveServiceConfigure]
  repeat' split
  all_goals simp

@[simp] theorem serveServiceReset_frame (item : Byte) (s : State) :
    (serveServiceReset item s).state.time = s.time ∧
    (serveServiceReset item s).state.power = s.power ∧
    (serveServiceReset item s).state.consts = s.consts ∧
    (serveServiceReset item s).state.pulse = s.pulse ∧
    (serveServiceReset item s).state.sampler = s.sampler ∧
    (serveServiceReset item s).state.discretes = s.discretes ∧
    (serveServiceReset item s).state.channels = s.channels ∧
    (serveServiceReset item s).state.curves = s.curves ∧
    (serveServiceReset item s).state.accum = s.accum ∧
    (serveServiceReset item s).state.drum = s.drum ∧
    (serveServiceReset item s).state.trip = s.trip ∧
    (serveServiceReset item s).state.gauge = s.gauge ∧
    (serveServiceReset item s).state.monitor = s.monitor ∧
    (serveServiceReset item s).state.link = s.link ∧
    (serveServiceReset item s).state.freeCount = s.freeCount ∧
    (serveServiceReset item s).state.pending = s.pending := by
  simp only [serveServiceReset]
  repeat' split
  all_goals first
    | (simp; done)
    | (simp only [accepted_state, State.postService_frame]
       exact ⟨foldl_keeps State.time _ (fun _ _ => by simp) _ _, foldl_keeps State.power _ (fun _ _ => by simp) _ _, foldl_keeps State.consts _ (fun _ _ => by simp) _ _, foldl_keeps State.pulse _ (fun _ _ => by simp) _ _, foldl_keeps State.sampler _ (fun _ _ => by simp) _ _, foldl_keeps State.discretes _ (fun _ _ => by simp) _ _, foldl_keeps State.channels _ (fun _ _ => by simp) _ _, foldl_keeps State.curves _ (fun _ _ => by simp) _ _, foldl_keeps State.accum _ (fun _ _ => by simp) _ _, foldl_keeps State.drum _ (fun _ _ => by simp) _ _, foldl_keeps State.trip _ (fun _ _ => by simp) _ _, foldl_keeps State.gauge _ (fun _ _ => by simp) _ _, foldl_keeps State.monitor _ (fun _ _ => by simp) _ _, foldl_keeps State.link _ (fun _ _ => by simp) _ _, foldl_keeps State.freeCount _ (fun _ _ => by simp) _ _, foldl_keeps State.pending _ (fun _ _ => by simp) _ _⟩)

@[simp] theorem serveNoticeFetch_frame (s : State) :
    (serveNoticeFetch s).state.time = s.time ∧
    (serveNoticeFetch s).state.power = s.power ∧
    (serveNoticeFetch s).state.consts = s.consts ∧
    (serveNoticeFetch s).state.pulse = s.pulse ∧
    (serveNoticeFetch s).state.sampler = s.sampler ∧
    (serveNoticeFetch s).state.discretes = s.discretes ∧
    (serveNoticeFetch s).state.channels = s.channels ∧
    (serveNoticeFetch s).state.curves = s.curves ∧
    (serveNoticeFetch s).state.accum = s.accum ∧
    (serveNoticeFetch s).state.drum = s.drum ∧
    (serveNoticeFetch s).state.trip = s.trip ∧
    (serveNoticeFetch s).state.gauge = s.gauge ∧
    (serveNoticeFetch s).state.monitor = s.monitor ∧
    (serveNoticeFetch s).state.chime = s.chime ∧
    (serveNoticeFetch s).state.lamp = s.lamp ∧
    (serveNoticeFetch s).state.service = s.service ∧
    (serveNoticeFetch s).state.eeprom = s.eeprom ∧
    (serveNoticeFetch s).state.link = s.link ∧
    (serveNoticeFetch s).state.freeCount = s.freeCount ∧
    (serveNoticeFetch s).state.pending = s.pending := ⟨rfl, rfl, rfl, rfl, rfl, rfl, rfl, rfl, rfl, rfl, rfl, rfl, rfl, rfl, rfl, rfl, rfl, rfl, rfl, rfl⟩

@[simp] theorem serveSoftRestart_frame (s : State) :
    (serveSoftRestart s).state.time = s.time ∧
    (serveSoftRestart s).state.consts = s.consts ∧
    (serveSoftRestart s).state.accum = s.accum ∧
    (serveSoftRestart s).state.drum = s.drum ∧
    (serveSoftRestart s).state.eeprom = s.eeprom ∧
    (serveSoftRestart s).state.link = s.link ∧
    (serveSoftRestart s).state.freeCount = s.freeCount ∧
    (serveSoftRestart s).state.pending = s.pending := by
  simp [serveSoftRestart]

end Sys2Proof.Machine
end

