-- ==== Sys2Proof/Laws/Link.lean ====
section
/-!
SUPPORT. The Link Controller: a request row is the arrival of its frame, a frame served is one of the
requests, and what every service keeps the link keeps.
-/
namespace Sys2Proof.Machine

/-- A request row is the arrival of its frame, served by its service. -/
theorem exec_request {c : Instr} {k : Byte} {p : List Byte} {f : Service} (s : State)
    (hf : frame? c = some (k, p)) (hs : service? c = some f) (hh : s.power.state ≠ .held) :
    exec c s = .next (State.request k p f (atCommand s c)) := by
  cases c <;> simp only [frame?, service?, Option.some.injEq, Prod.mk.injEq, reduceCtorEq] at hf hs <;>
    obtain ⟨rfl, rfl⟩ := hf <;> subst hs <;>
    first
      | rfl
      | simp only [exec, execSoftRestart, execPulseInputConfigure, event, hh, if_false, State.reach_eq]
        rfl

/-- A request row in a part held in reset changes nothing (R155). -/
theorem exec_request_held {c : Instr} {s : State} (hf : (frame? c).isSome = true) (hh : s.power.state = .held) :
    exec c s = .next s := by
  cases c <;> first | exact congrArg Host.Outcome.next (if_pos hh) | exact absurd hf (by simp [frame?])

/-- A row is a request row when it has a frame, and then it has a service. -/
theorem frame?_isSome (c : Instr) : (frame? c).isSome = (service? c).isSome := by cases c <;> rfl

/-- A word is the pair of its bytes (R180). -/
theorem wordOf_bytes (w : Word) : wordOf (w.extractLsb' 8 8) (w.extractLsb' 0 8) = w := by
  unfold wordOf
  rw [BitVec.extractLsb'_append_extractLsb'_eq_extractLsb' (by omega)]
  simp

/-- A payload is served by the service of some request row, or refused for its length. -/
def Serves (f : Service) : Prop := f = lengthRefused ∨ ∃ c, service? c = some f

theorem payload0_serves {g : Service} {c : Instr} (h : service? c = some g) (p : List Byte) :
    Serves (payload0 g p) := by
  unfold payload0
  split
  · exact .inr ⟨c, h⟩
  · exact .inl rfl

theorem payload1_serves {g : Byte → Service} {c : Byte → Instr} (h : ∀ a, service? (c a) = some (g a))
    (p : List Byte) : Serves (payload1 g p) := by
  unfold payload1
  split
  · exact .inr ⟨_, h _⟩
  · exact .inl rfl

theorem payload2_serves {g : Byte → Byte → Service} {c : Byte → Byte → Instr}
    (h : ∀ a b, service? (c a b) = some (g a b)) (p : List Byte) : Serves (payload2 g p) := by
  unfold payload2
  split
  · exact .inr ⟨_, h _ _⟩
  · exact .inl rfl

theorem payload3_serves {g : Byte → Byte → Byte → Service} {c : Byte → Byte → Byte → Instr}
    (h : ∀ x y z, service? (c x y z) = some (g x y z)) (p : List Byte) : Serves (payload3 g p) := by
  unfold payload3
  split
  · exact .inr ⟨_, h _ _ _⟩
  · exact .inl rfl

theorem payload4_serves {g : Byte → Byte → Byte → Byte → Service} {c : Byte → Byte → Byte → Byte → Instr}
    (h : ∀ x y z w, service? (c x y z w) = some (g x y z w)) (p : List Byte) : Serves (payload4 g p) := by
  unfold payload4
  split
  · exact .inr ⟨_, h _ _ _ _⟩
  · exact .inl rfl

theorem constantsPayload_serves (p : List Byte) : Serves (constantsPayload p) := by
  unfold constantsPayload
  split
  · exact .inr ⟨.vehicleConstantsWrite _ _ _ _ _, rfl⟩
  · exact .inl rfl

theorem curvePayload_serves (p : List Byte) : Serves (curvePayload p) := by
  unfold curvePayload
  split
  · split
    · exact .inr ⟨.curveLoad _ _ _, rfl⟩
    · exact .inl rfl
  · exact .inl rfl

theorem analogPayload_serves (p : List Byte) : Serves (analogPayload p) := by
  unfold analogPayload
  split
  · exact .inr ⟨.analogInputConfigure _ _ _ _ _ _ _, rfl⟩
  · exact .inl rfl

theorem gaugePayload_serves (p : List Byte) : Serves (gaugePayload p) := by
  unfold gaugePayload
  split
  · exact .inr ⟨.gaugeConfigure _ _ _, rfl⟩
  · exact .inl rfl

theorem monitorPayload_serves (p : List Byte) : Serves (monitorPayload p) := by
  unfold monitorPayload
  split
  · exact .inr ⟨.monitorConfigure _ _, rfl⟩
  · exact .inl rfl

theorem patternPayload_serves (p : List Byte) : Serves (patternPayload p) := by
  unfold patternPayload
  split
  · split
    · exact .inr ⟨.patternLoad _ _ _, rfl⟩
    · exact .inl rfl
  · exact .inl rfl

theorem servicePayload_serves (p : List Byte) : Serves (servicePayload p) := by
  unfold servicePayload
  split
  · exact .inr ⟨.serviceConfigure _ _, rfl⟩
  · exact .inl rfl

/-- Every request kind serves its payload by the service of some request row (10.6). -/
theorem requestKinds_serve : ∀ r ∈ requestKinds, ∀ p, Serves (r.2 p) := by
  simp only [requestKinds, List.forall_mem_cons, List.forall_mem_append, List.not_mem_nil, false_implies,
    implies_true, and_true]
  refine ⟨⟨⟨?_, ?_, ?_, ?_, ?_, ?_, ?_, ?_, ?_, ?_, ?_, ?_, ?_, ?_⟩,
    ?_, ?_, ?_, ?_, ?_, ?_, ?_, ?_, ?_, ?_, ?_, ?_, ?_, ?_, ?_⟩,
    ?_, ?_, ?_, ?_, ?_, ?_, ?_, ?_, ?_, ?_, ?_, ?_⟩
  · exact payload0_serves (c := .statusRead) rfl
  · exact payload0_serves (c := .noticeFetch) rfl
  · exact payload0_serves (c := .softRestart {}) rfl
  · exact constantsPayload_serves
  · exact payload0_serves (c := .vehicleConstantsRead) rfl
  · exact payload2_serves (c := .eepromRead) fun _ _ => rfl
  · exact payload3_serves (c := fun x y z => .eepromWrite x (wordOf y z)) fun _ _ _ => rfl
  · exact curvePayload_serves
  · exact payload1_serves (c := .curveRead) fun _ => rfl
  · exact analogPayload_serves
  · exact payload4_serves (c := fun x y z w => .pulseInputConfigure x y z w) fun _ _ _ _ => rfl
  · exact payload4_serves (c := .discreteInputConfigure) fun _ _ _ _ => rfl
  · exact payload2_serves (c := .channelRead) fun _ _ => rfl
  · exact payload3_serves (c := fun x y z => .channelHold x (wordOf y z)) fun _ _ _ => rfl
  · exact payload1_serves (c := .channelRelease) fun _ => rfl
  · exact payload3_serves (c := fun x y z => .channelPut x (wordOf y z)) fun _ _ _ => rfl
  · exact payload3_serves (c := .externalChannelConfigure) fun _ _ _ => rfl
  · exact payload0_serves (c := .discreteRead) rfl
  · exact gaugePayload_serves
  · exact payload1_serves (c := .gaugeRead) fun _ => rfl
  · exact payload0_serves (c := .sweepStart) rfl
  · exact monitorPayload_serves
  · exact payload2_serves (c := .monitorRead) fun _ _ => rfl
  · exact payload1_serves (c := .monitorAcknowledge) fun _ => rfl
  · exact payload1_serves (c := .monitorClearSnapshot) fun _ => rfl
  · exact payload4_serves (c := .chimePost) fun _ _ _ _ => rfl
  · exact payload1_serves (c := .chimeWithdraw) fun _ => rfl
  · exact patternPayload_serves
  · exact payload1_serves (c := .chimeRead) fun _ => rfl
  · exact payload2_serves (c := .lampSet) fun _ _ => rfl
  · exact payload1_serves (c := .lampConfigure) fun _ => rfl
  · exact payload1_serves (c := .lampRead) fun _ => rfl
  · exact payload1_serves (c := .tripRead) fun _ => rfl
  · exact payload1_serves (c := .tripReset) fun _ => rfl
  · exact payload3_serves (c := .tripControl) fun _ _ _ => rfl
  · exact payload0_serves (c := .odometerRead) rfl
  · exact payload0_serves (c := .drumRead) rfl
  · exact payload0_serves (c := .drumRestart) rfl
  · exact servicePayload_serves
  · exact payload1_serves (c := .serviceRead) fun _ => rfl
  · exact payload1_serves (c := .serviceReset) fun _ => rfl

/-- The service of a queued frame is that of some request row, or the refusal of its length (R174). -/
theorem serveKind_service {k : Nat} {p : List Byte} {f : Service} (h : serveKind k p = some f) :
    f = lengthRefused ∨ ∃ c, service? c = some f := by
  simp only [serveKind, Option.map_eq_some_iff] at h
  obtain ⟨r, hr, rfl⟩ := h
  exact requestKinds_serve r (List.mem_of_find?_eq_some hr) p

/-- A property of the state that no change of the link, no look at the pins, no waking and no service takes away. -/
structure LinkKeeps (P : State → Prop) : Prop where
  link : ∀ s l, P s → P { s with link := l }
  reach : ∀ s m, P s → P (s.reach m)
  wake : ∀ s, P s → P s.frameActivity
  serve : ∀ c f s, service? c = some f → P s → P (f s).state

namespace LinkKeeps

variable {P : State → Prop} (h : LinkKeeps P)
include h

theorem answer {k : Byte} {a : Answer} (ha : P a.state) : P (State.sendAnswer k a) := h.link _ _ ha

theorem frame {s : State} (hs : P s) (f : Frame) : P (s.serveFrame f) := by
  unfold State.serveFrame
  split
  · exact h.link _ _ hs
  split
  · exact h.answer hs
  split
  · exact h.link _ _ hs
  · rename_i g e
    rcases serveKind_service e with rfl | ⟨c, hc⟩
    · exact h.answer hs
    · exact h.answer (h.serve c g s hc hs)

theorem takeNext {s : State} (hs : P s) : P s.takeNext := by
  unfold State.takeNext
  split
  · exact h.frame (h.link _ _ hs) _
  · exact hs

theorem enqueue {s : State} (hs : P s) (f : Frame) : P (s.enqueue f) := by
  unfold State.enqueue
  split
  · exact h.link _ _ hs
  · exact hs

theorem completeFrame {s : State} (hs : P s) (f : Frame) : P (s.completeFrame f) :=
  h.takeNext (h.enqueue (h.wake s hs) f)

theorem replyEnd {s : State} (hs : P s) (m : Moment) : P (s.replyEnd m) := by
  unfold State.replyEnd
  split
  · exact h.takeNext (h.link _ _ (h.reach s m hs))
  · exact hs

/-- The part as a request row finds it keeps it. -/
theorem atCommand {s : State} (hs : P s) (c : Instr) : P (atCommand s c) := by
  unfold Machine.atCommand
  cases moment? c with
  | none => exact hs
  | some m =>
    rw [Option.map_some, Option.getD_some, ← s.reach_eq]
    exact h.reach s m hs

theorem request {s : State} (hs : P s) {c : Instr} {g : Service} (hc : service? c = some g) (k : Byte)
    (p : List Byte) : P (State.request k p g s) := by
  simp only [State.request]
  split
  · exact hs
  split
  · apply h.answer
    split
    · exact h.wake s hs
    · exact h.serve c g _ hc (h.wake s hs)
  · exact h.takeNext (h.enqueue (h.wake s hs) _)

theorem leadTaken {s : State} (hs : P s) (m : Moment) : P (s.leadTaken m) := by
  unfold State.leadTaken
  split
  · rename_i e
    have := h.wake _ (h.reach s m hs)
    simp only [State.frameActivity, State.reach_frame, e, if_true] at this
    exact h.link _ _ this
  · exact h.link _ _ hs

theorem receive {s : State} (hs : P s) (c : Byte) (b : Bool) (m : Moment) : P (s.receive c b m) := by
  unfold State.receive
  split
  · exact hs
  split
  · unfold State.character
    split
    · split
      · exact h.leadTaken hs m
      · exact hs
    · split
      · exact h.link _ _ hs
      split
      · exact h.leadTaken hs m
      · exact h.link _ _ hs
    · split
      · exact h.link _ _ hs
      · exact h.completeFrame (h.link _ _ (h.reach s m hs)) _
  · split
    · exact hs
    · exact h.link _ _ hs

theorem gapTimeout {s : State} (hs : P s) : P s.gapTimeout := by
  unfold State.gapTimeout
  split
  · exact hs
  split
  · exact h.link _ _ hs
  · exact hs

end LinkKeeps

end Sys2Proof.Machine
end

