-- ==== Sys2Proof/Laws/State.lean ====
section
/-!
SUPPORT. What each update of the state leaves in the field it changes, and the update of the command queue field
by field. The fields an update leaves alone are in the frame lemmas.
-/
namespace Sys2Proof.Machine

/-! ## The command queue -/

@[simp] theorem State.setPending_time (s : State) (q : List Instr) : (s.setPending q).time = s.time := rfl
@[simp] theorem State.setPending_power (s : State) (q : List Instr) : (s.setPending q).power = s.power := rfl
@[simp] theorem State.setPending_consts (s : State) (q : List Instr) : (s.setPending q).consts = s.consts := rfl
@[simp] theorem State.setPending_pulse (s : State) (q : List Instr) : (s.setPending q).pulse = s.pulse := rfl
@[simp] theorem State.setPending_sampler (s : State) (q : List Instr) : (s.setPending q).sampler = s.sampler := rfl
@[simp] theorem State.setPending_discretes (s : State) (q : List Instr) : (s.setPending q).discretes = s.discretes := rfl
@[simp] theorem State.setPending_channels (s : State) (q : List Instr) : (s.setPending q).channels = s.channels := rfl
@[simp] theorem State.setPending_curves (s : State) (q : List Instr) : (s.setPending q).curves = s.curves := rfl
@[simp] theorem State.setPending_accum (s : State) (q : List Instr) : (s.setPending q).accum = s.accum := rfl
@[simp] theorem State.setPending_drum (s : State) (q : List Instr) : (s.setPending q).drum = s.drum := rfl
@[simp] theorem State.setPending_trip (s : State) (q : List Instr) : (s.setPending q).trip = s.trip := rfl
@[simp] theorem State.setPending_gauge (s : State) (q : List Instr) : (s.setPending q).gauge = s.gauge := rfl
@[simp] theorem State.setPending_monitor (s : State) (q : List Instr) : (s.setPending q).monitor = s.monitor := rfl
@[simp] theorem State.setPending_chime (s : State) (q : List Instr) : (s.setPending q).chime = s.chime := rfl
@[simp] theorem State.setPending_lamp (s : State) (q : List Instr) : (s.setPending q).lamp = s.lamp := rfl
@[simp] theorem State.setPending_service (s : State) (q : List Instr) : (s.setPending q).service = s.service := rfl
@[simp] theorem State.setPending_eeprom (s : State) (q : List Instr) : (s.setPending q).eeprom = s.eeprom := rfl
@[simp] theorem State.setPending_link (s : State) (q : List Instr) : (s.setPending q).link = s.link := rfl
@[simp] theorem State.setPending_notices (s : State) (q : List Instr) : (s.setPending q).notices = s.notices := rfl
@[simp] theorem State.setPending_freeCount (s : State) (q : List Instr) : (s.setPending q).freeCount = s.freeCount := rfl
@[simp] theorem State.setPending_pending (s : State) (q : List Instr) : (s.setPending q).pending = q := rfl

/-! ## The other updates -/

@[simp] theorem State.notify_notices (s : State) (k : NoticeKey) (v : Word) :
    (s.notify k v).notices = postNotice k v s.notices := rfl
@[simp] theorem State.advance_time (s : State) (b : BitVec 8) :
    (s.advance b).time = { s.time with sub := if s.time.sub ≤ b then b else s.time.sub } := rfl
@[simp] theorem State.setHold_channels (s : State) (c : Fin 16) (h : Option Nat) :
    (s.setHold c h).channels = { s.channels with records := vmod s.channels.records c fun r => { r with hold := h } } := rfl
@[simp] theorem State.setFreshness_channels (s : State) (e : Fin 5) (f : Freshness) :
    (s.setFreshness e f).channels = { s.channels with freshness := s.channels.freshness.set e f } := rfl
@[simp] theorem State.setClaim_lamp (s : State) (l : Fin 12) (k : Fin 23) (c : Option LampMode) :
    (s.setClaim l k c).lamp = { s.lamp with claims := vmod s.lamp.claims l fun set => set.set k c } := rfl
@[simp] theorem State.postChime_chime (s : State) (k : Fin 26) (p : Fin 12) (a b : Nat) :
    (s.postChime k p a b).chime = s.chime.post k p a b := rfl
@[simp] theorem State.withdrawChime_chime (s : State) (k : Fin 26) :
    (s.withdrawChime k).chime = s.chime.withdraw k := rfl
@[simp] theorem State.setItem_service (s : State) (k : Fin 6) (i : ServiceItem) :
    (s.setItem k i).service = s.service.set k i := rfl
@[simp] theorem State.setAnalog_sampler (s : State) (i : Fin 6) (a : AnalogInput) :
    (s.setAnalog i a).sampler = { s.sampler with inputs := s.sampler.inputs.set i a } := rfl
@[simp] theorem State.setMonitor_monitor (s : State) (i : Fin 16) (m : Monitor) :
    (s.setMonitor i m).monitor = { s.monitor with monitors := s.monitor.monitors.set i m } := rfl
@[simp] theorem State.setGauges_gauge (s : State) (g : Vector Gauge 6) :
    (s.setGauges g).gauge = { s.gauge with gauges := g } := rfl
@[simp] theorem State.setSweep_gauge (s : State) (w : Sweep) :
    (s.setSweep w).gauge = { s.gauge with sweep := w } := rfl
@[simp] theorem State.setSync_gauge (s : State) (p : PulseInput) :
    (s.setSync p).gauge = { s.gauge with sync := p } := rfl
@[simp] theorem State.setPower_power (s : State) (p : PowerState) (l : Linger) :
    (s.setPower p l).power = { s.power with state := p, linger := l } := rfl
@[simp] theorem State.setBulbCheck_lamp (s : State) (t : Option Nat) :
    (s.setBulbCheck t).lamp = { s.lamp with bulbCheck := t } := rfl
@[simp] theorem State.startTripClock_trip (s : State) :
    s.startTripClock.trip = { s.trip with clock := some 0 } := rfl
@[simp] theorem State.startOff_power (s : State) :
    s.startOff.power = { s.power with offDuration := some 0 } := rfl
@[simp] theorem State.setDiscrete_discretes (s : State) (k : Fin 12) (d : Discrete) :
    (s.setDiscrete k d).discretes = { s.discretes with inputs := s.discretes.inputs.set k d } := rfl
@[simp] theorem State.setWindows_pulse (s : State) (a b : Window) :
    (s.setWindows a b).pulse = { s.pulse with spdWindow := a, tacWindow := b } := rfl
@[simp] theorem State.assemble_link (s : State) (a : Assembler) :
    (s.assemble a).link = { s.link with assembler := a, gap := 0 } := rfl
@[simp] theorem State.sendReply_link (s : State) (k : Byte) (p : List Byte) :
    (s.sendReply k p).link = { s.link with reply := some (frameBytes k p) } := rfl
@[simp] theorem State.postService_eeprom (s : State) :
    s.postService.eeprom = { s.eeprom with queue := postOnce .service s.eeprom.queue } := rfl
@[simp] theorem State.postHeader_eeprom (s : State) :
    s.postHeader.eeprom = { s.eeprom with queue := postOnce .header s.eeprom.queue } := rfl
@[simp] theorem State.leaveWord_freeCount (s : State) (a : Nat) :
    (s.leaveWord a).freeCount = s.freeCount + 1 := rfl
@[simp] theorem State.replied_link (s : State) (k c : Byte) (d : List Byte) :
    (s.replied k c d).link = { s.link with reply := some (frameBytes (k + 0x80) (c :: d)) } := rfl

/-- Two states that agree in every field are one state. -/
theorem State.ext_fields {a b : State} (time : a.time = b.time) (power : a.power = b.power) (consts : a.consts =
    b.consts) (pulse : a.pulse = b.pulse) (sampler : a.sampler = b.sampler) (discretes : a.discretes =
    b.discretes) (channels : a.channels = b.channels) (curves : a.curves = b.curves) (accum : a.accum = b.accum)
    (drum : a.drum = b.drum) (trip : a.trip = b.trip) (gauge : a.gauge = b.gauge) (monitor : a.monitor =
    b.monitor) (chime : a.chime = b.chime) (lamp : a.lamp = b.lamp) (service : a.service = b.service) (eeprom :
    a.eeprom = b.eeprom) (link : a.link = b.link) (notices : a.notices = b.notices) (freeCount : a.freeCount =
    b.freeCount) (pending : a.pending = b.pending) :
    a = b := by
  cases a; cases b; simp only at *; subst_vars; rfl

end Sys2Proof.Machine
end

