-- ==== Sys2Proof/Laws/Eeprom.lean ====
section
/-!
SUPPORT. The EEPROM's words: reading after writing, and the canonical form that every operation of the memory keeps.
-/
namespace Sys2Proof.Machine

/-- Below the lowest address a canonical memory may list, every word is blank. -/
theorem readWord_below : ∀ {m : Memory} {lo a : Nat}, wfFrom lo m = true → a < lo → readWord m a = Config.blankWord
  | [], _, _, _, _ => rfl
  | (b, x) :: m, lo, a, h, ha => by
    simp only [wfFrom, Bool.and_eq_true, decide_eq_true_eq] at h
    obtain ⟨⟨hb, _⟩, hm⟩ := h
    rw [readWord, if_neg (by omega)]
    exact readWord_below hm (by omega)

/-- A canonical memory stays canonical from a lower address. -/
theorem wfFrom_mono : ∀ {m : Memory} {lo lo' : Nat}, wfFrom lo m = true → lo' ≤ lo → wfFrom lo' m = true
  | [], _, _, _, _ => rfl
  | (b, x) :: m, lo, lo', h, hl => by
    simp only [wfFrom, Bool.and_eq_true, decide_eq_true_eq] at h ⊢
    exact ⟨⟨by omega, h.1.2⟩, h.2⟩

/-- A write keeps the canonical form. -/
theorem wfFrom_writeWord : ∀ {m : Memory} {lo a : Nat} (w : Word), wfFrom lo m = true → lo ≤ a →
    wfFrom lo (writeWord m a w) = true
  | [], lo, a, w, _, ha => by
    unfold writeWord
    split
    · rfl
    · rename_i h
      simp [wfFrom, ha, h]
  | (b, x) :: m, lo, a, w, h, ha => by
    have h' := h
    simp only [wfFrom, Bool.and_eq_true, decide_eq_true_eq] at h
    obtain ⟨⟨hb, hx⟩, hm⟩ := h
    unfold writeWord
    split
    · split
      · exact h'
      · rename_i hw
        simp only [wfFrom, Bool.and_eq_true, decide_eq_true_eq]
        exact ⟨⟨ha, hw⟩, ⟨by omega, hx⟩, hm⟩
    split
    · split
      · exact wfFrom_mono hm (by omega)
      · rename_i hw
        simp only [wfFrom, Bool.and_eq_true, decide_eq_true_eq]
        subst a
        exact ⟨⟨ha, hw⟩, hm⟩
    · simp only [wfFrom, Bool.and_eq_true, decide_eq_true_eq]
      exact ⟨⟨hb, hx⟩, wfFrom_writeWord w hm (by omega)⟩

/-- Every word written leaves the memory canonical. -/
theorem memoryWf_writeWord {m : Memory} (a : Nat) (w : Word) (h : memoryWf m = true) :
    memoryWf (writeWord m a w) = true := wfFrom_writeWord w h (Nat.zero_le a)

/-- Reading after a write, in a memory canonical from `lo`. -/
theorem readWord_writeWord_from : ∀ {m : Memory} {lo : Nat} (a b : Nat) (w : Word), wfFrom lo m = true →
    readWord (writeWord m a w) b = if b = a then w else readWord m b
  | [], lo, a, b, w, _ => by
    unfold writeWord
    split
    · rename_i h
      subst h
      simp [readWord]
    · simp [readWord]
  | (c, x) :: m, lo, a, b, w, h => by
    simp only [wfFrom, Bool.and_eq_true, decide_eq_true_eq] at h
    obtain ⟨⟨hb, hx⟩, hm⟩ := h
    unfold writeWord
    split
    · rename_i hac
      split
      · rename_i hw
        split
        · subst b
          rw [readWord, if_neg (by omega), readWord_below hm (by omega), hw]
        · rfl
      · rw [readWord]
    · split
      · subst a
        split
        · rename_i hw
          split
          · subst b
            rw [readWord_below hm (by omega), hw]
          · rename_i hbc
            rw [readWord, if_neg hbc]
        · rw [readWord]
          split
          · rfl
          · rename_i hbc
            rw [readWord, if_neg hbc]
      · rename_i hac
        rw [readWord, readWord, readWord_writeWord_from a b w hm]
        by_cases e : b = c
        · subst b
          rw [if_pos rfl, if_pos rfl, if_neg (fun q => hac q.symm)]
        · rw [if_neg e, if_neg e]

/-- A word written reads back, and every other word reads as before. -/
theorem readWord_writeWord {m : Memory} (a b : Nat) (w : Word) (h : memoryWf m = true) :
    readWord (writeWord m a w) b = if b = a then w else readWord m b := readWord_writeWord_from a b w h

/-- The addresses a write lists are the written one and those listed before. -/
theorem mem_writeWord : ∀ {m : Memory} {a : Nat} {w : Word} {p : Nat × Word}, p ∈ writeWord m a w →
    p.1 = a ∨ p ∈ m
  | [], a, w, p, h => by
    unfold writeWord at h
    split at h
    · exact absurd h (by simp)
    · simp only [List.mem_singleton] at h
      exact .inl (by rw [h])
  | (b, x) :: m, a, w, p, h => by
    unfold writeWord at h
    split at h
    · split at h
      · exact .inr h
      · rcases List.mem_cons.mp h with rfl | h
        · exact .inl rfl
        · exact .inr h
    split at h
    · split at h
      · exact .inr (List.mem_cons_of_mem _ h)
      · rcases List.mem_cons.mp h with rfl | h
        · exact .inl rfl
        · exact .inr (List.mem_cons_of_mem _ h)
    · rcases List.mem_cons.mp h with rfl | h
      · exact .inr (by simp)
      · rcases mem_writeWord h with e | e
        · exact .inl e
        · exact .inr (List.mem_cons_of_mem _ e)

/-- The memory after power-on reset is canonical. -/
theorem reset_memoryWf : memoryWf State.reset.eeprom.memory = true := rfl

/-- A torn word stores one word, which is the one it is given or the next. -/
theorem tearWord_eq (m : Memory) (a : Nat) (x : Word) :
    tearWord m a x = writeWord m a x ∨ tearWord m a x = writeWord m a (x + 1) := by
  unfold tearWord
  split
  · exact .inr rfl
  · exact .inl rfl

/-- A torn word keeps the canonical form. -/
theorem memoryWf_tearWord {m : Memory} (a : Nat) (x : Word) (h : memoryWf m = true) :
    memoryWf (tearWord m a x) = true := by
  rcases tearWord_eq m a x with e | e <;> rw [e] <;> exact memoryWf_writeWord a _ h

/-- Every word but the written one reads as before, in any memory. -/
theorem readWord_writeWord_ne : ∀ (m : Memory) {a b : Nat} (w : Word), b ≠ a →
    readWord (writeWord m a w) b = readWord m b
  | [], a, b, w, hb => by
    unfold writeWord
    split
    · rfl
    · simp [readWord, hb]
  | (c, x) :: m, a, b, w, hb => by
    unfold writeWord
    split
    · split
      · rfl
      · rw [readWord, if_neg hb]
    split
    · subst a
      split <;> simp [readWord, hb]
    · rw [readWord, readWord, readWord_writeWord_ne m w hb]

/-- Every word but the torn one reads as before, in any memory. -/
theorem readWord_tearWord (m : Memory) {a b : Nat} (x : Word) (hb : b ≠ a) :
    readWord (tearWord m a x) b = readWord m b := by
  rcases tearWord_eq m a x with e | e <;> rw [e, readWord_writeWord_ne m _ hb]

/-- In the host area, which holds no record, the torn word is the one given. -/
theorem tearWord_host (m : Memory) {a : Nat} (x : Word) (h : 50 ≤ a) : tearWord m a x = writeWord m a x := by
  have : recordAt a = none := by
    unfold recordAt
    rw [if_neg (by omega), if_neg (by omega), if_neg (by omega)]
  simp [tearWord, recordChecks, this]

/-- A word left by the device keeps the memory canonical. -/
theorem State.leaveWord_memoryWf (s : State) (a : Nat) (h : memoryWf s.eeprom.memory = true) :
    memoryWf (s.leaveWord a).eeprom.memory = true := memoryWf_tearWord a _ h

/-- A word completing keeps the memory canonical. -/
theorem State.completeWord_memoryWf (s : State) (h : memoryWf s.eeprom.memory = true) :
    memoryWf s.completeWord.eeprom.memory = true := by
  simp only [State.completeWord]
  repeat' split
  all_goals first
    | exact memoryWf_writeWord _ _ h
    | exact h

/-- A word failing keeps the memory canonical. -/
theorem State.failWord_memoryWf (s : State) (h : memoryWf s.eeprom.memory = true) :
    memoryWf s.failWord.eeprom.memory = true := by
  simp only [State.failWord]
  repeat' split
  all_goals first
    | exact memoryWf_tearWord _ _ h
    | exact h

/-- A word cut off keeps the memory canonical. -/
theorem State.cutEeprom_memoryWf (s : State) (h : memoryWf s.eeprom.memory = true) :
    memoryWf s.cutEeprom.eeprom.memory = true := by
  simp only [State.cutEeprom]
  repeat' split
  all_goals first
    | exact memoryWf_tearWord _ _ h
    | exact h

/-! ## A torn record fails its check -/

/-- One word of a run set apart from its sum. -/
theorem sum_set_apart (g : Nat → Nat) (i v : Nat) : ∀ n : Nat,
    ((List.range n).map fun k => if k = i then v else g k).sum =
      (if i < n then v else 0) + ((List.range n).map fun k => if k = i then 0 else g k).sum
  | 0 => by simp
  | n + 1 => by
    rw [List.range_succ, List.map_append, List.map_append, List.sum_append, List.sum_append, sum_set_apart g i v n]
    rcases Nat.lt_trichotomy n i with h | h | h
    · simp [show n ≠ i by omega, show ¬ i < n by omega, show ¬ i < n + 1 by omega]
    · subst h; simp; omega
    · simp [show n ≠ i by omega, h, show i < n + 1 by omega]; omega

/-- A run holding the word written, which stands apart from the rest of its sum. -/
theorem readRun_writeWord_sum {m : Memory} {a first count : Nat} (w : Word) (h : memoryWf m = true)
    (h1 : first ≤ a) (h2 : a < first + count) :
    (readRun (writeWord m a w) first count).sum = w.toNat +
      ((List.range count).map fun k => if k = a - first then 0 else (readWord m (first + k)).toNat).sum := by
  have e : readRun (writeWord m a w) first count =
      (List.range count).map fun k => if k = a - first then w.toNat else (readWord m (first + k)).toNat := by
    apply List.map_congr_left
    intro k _
    rw [readWord_writeWord a _ w h]
    by_cases hk : k = a - first
    · rw [if_pos (by omega), if_pos hk]
    · rw [if_neg (by omega), if_neg hk]
  rw [e, sum_set_apart, if_pos (by omega)]

/-- The record of an address holds it. -/
theorem recordAt_holds {a : Nat} {r : Nat × Nat} (h : recordAt a = some r) : r.1 ≤ a ∧ a < r.1 + r.2 := by
  unfold recordAt at h
  split at h
  · cases h; simp; omega
  split at h
  · cases h; simp; omega
  split at h
  · cases h; simp; omega
  · cases h

/-- A torn record fails its check (R53, R153, R155, R166). -/
theorem recordChecks_tearWord {m : Memory} (a : Nat) (x : Word) (h : memoryWf m = true) :
    recordChecks (tearWord m a x) a = false := by
  unfold tearWord
  split
  · rename_i hx
    unfold recordChecks at hx ⊢
    cases hr : recordAt a with
    | none => rfl
    | some r =>
      obtain ⟨h1, h2⟩ := recordAt_holds hr
      simp only [hr, checks, sum16, beq_iff_eq, beq_eq_false_iff_ne, readRun_writeWord_sum _ h h1 h2,
        Config.checkSum, BitVec.toNat_add] at hx ⊢
      simp
      omega
  · rename_i hx
    simpa using hx
end Sys2Proof.Machine
end

