-- ==== Sys2Proof/Laws/Step.lean ====
section
/-!
SUPPORT. The one case split over the commands: a property that each operation of a command keeps is kept by every
command, and so by every step.
-/
namespace Sys2Proof.Machine

/-- A property that every operation of a command keeps: the services, the waking and the link by `LinkKeeps`, and
the operation of each event in a part that is not held in reset. -/
structure StepKeeps (P : State → Prop) : Prop extends LinkKeeps P where
  pending : ∀ s q, P s → P (s.setPending q)
  powerOnReset : ∀ (s : State) di ign pulse lrate drumfit, P s → P (s.powerOnReset di ign pulse lrate drumfit)
  resetnRelease : ∀ s : State, P s → P s.release
  initEnd : ∀ (s : State), s.power.state ≠ .held → P s → P (State.endInit s)
  tick : ∀ (s : State) di ign pulse, s.power.state ≠ .held → P s → P (s.tick di ign pulse)
  discreteChange : ∀ (s : State) k, s.power.state ≠ .held → P s → P (s.discreteChange k)
  runEntry : ∀ (s : State), s.power.state ≠ .held → P s → P (s.runEntry)
  runExit : ∀ (s : State) b, s.power.state ≠ .held → P s → P (s.runExit b)
  secondEnd : ∀ (s : State), s.power.state ≠ .held → P s → P (s.secondEnd)
  dayEnd : ∀ (s : State), s.power.state ≠ .held → P s → P (s.dayEnd)
  freshnessExpiry : ∀ (s : State) e, s.power.state ≠ .held → P s → P (s.expireFreshness e)
  lingerExpiry : ∀ (s : State), s.power.state ≠ .held → P s → P (s.lingerExpiry)
  asleepEntry : ∀ (s : State), s.power.state ≠ .held → P s → P (s.asleepEntry)
  spdEdge : ∀ (s : State) b, s.power.state ≠ .held → P s → P (s.takeSpd b)
  tacEdge : ∀ (s : State) b, s.power.state ≠ .held → P s → P (s.takeTac b)
  injLevelChange : ∀ (s : State) b, s.power.state ≠ .held → P s → P (s.takeInj b)
  idxEdge : ∀ (s : State), s.power.state ≠ .held → P s → P (s.takeIdx)
  windowClose : ∀ (s : State) b, s.power.state ≠ .held → P s → P (s.takeWindowClose b)
  analogSample : ∀ (s : State) i raw, s.power.state ≠ .held → P s → P (s.analogSample i raw)
  tripSecond : ∀ (s : State), s.power.state ≠ .held → P s → P (s.tripSecond)
  gaugeMotionStep : ∀ (s : State), s.power.state ≠ .held → P s → P (s.motionStep)
  sweepDelayExpiry : ∀ (s : State), s.power.state ≠ .held → P s → P (s.sweepDelayExpiry)
  sweepTimeoutExpiry : ∀ (s : State), s.power.state ≠ .held → P s → P (s.sweepTimeoutExpiry)
  syncFallingEdge : ∀ (s : State), s.power.state ≠ .held → P s → P (s.syncEdge)
  syncPulseEnd : ∀ (s : State), s.power.state ≠ .held → P s → P (s.syncPulseEnd)
  monitorEvaluation : ∀ (s : State) i, s.power.state ≠ .held → P s → P (s.monitorEvaluation i)
  assertTimerExpiry : ∀ (s : State) i, s.power.state ≠ .held → P s → P (s.assertExpiry i)
  releaseTimerExpiry : ∀ (s : State) i, s.power.state ≠ .held → P s → P (s.releaseExpiry i)
  reminderExpiry : ∀ (s : State) i, s.power.state ≠ .held → P s → P (s.reminderExpiry i)
  chimeStepEnd : ∀ (s : State), s.power.state ≠ .held → P s → P { s with chime := s.chime.stepEnd }
  gapEnd : ∀ (s : State), s.power.state ≠ .held → P s → P { s with chime := s.chime.gapEnd }
  bulbCheckEnd : ∀ (s : State), s.power.state ≠ .held → P s → P (s.bulbCheckEnd)
  flashHalfChange : ∀ (s : State), s.power.state ≠ .held → P s → P (s.flashHalf)
  dutySetting : ∀ (s : State), s.power.state ≠ .held → P s → P (s.dutySetting)
  drumStep : ∀ (s : State), s.power.state ≠ .held → P s → P (s.stepDrum)
  drumIndexMiss : ∀ (s : State), s.power.state ≠ .held → P s → P (s.missIndex)
  drumCoilOff : ∀ (s : State), s.power.state ≠ .held → P s → P (s.releaseCoils)
  eepromWriteBegin : ∀ (s : State), s.power.state ≠ .held → P s → P (s.beginWrite)
  eepromWordComplete : ∀ (s : State), s.power.state ≠ .held → P s → P (s.completeWord)
  eepromWordFail : ∀ (s : State), s.power.state ≠ .held → P s → P (s.failWord)

/-- What holds of both outcomes of a choice holds of the choice. -/
theorem keeps_ite {P : State → Prop} {p : Prop} [Decidable p] {a b : State} (ha : P a) (hb : ¬ p → P b) :
    P (if p then a else b) := by
  split
  · exact ha
  · exact hb ‹_›

/-- A choice that leaves the state as it is otherwise. -/
theorem keeps_ite' {P : State → Prop} {p : Prop} [Decidable p] {a b : State} (ha : p → P a) (hb : P b) :
    P (if p then a else b) := by
  split
  · exact ha ‹_›
  · exact hb

namespace StepKeeps

variable {P : State → Prop} (h : StepKeeps P)
include h

/-- Every command keeps it. -/
theorem exec {c : Instr} {s t : State} (hs : P s) (he : exec c s = .next t) : P t := by
  rcases hc : service? c with _ | f
  · cases c <;> simp only [service?, reduceCtorEq] at hc
    · cases he; exact h.powerOnReset _ _ _ _ _ _ hs
    · cases he; exact h.resetnRelease _ hs
    · cases he; exact keeps_ite hs fun g => keeps_ite' (fun _ => h.initEnd _ (by simpa using g) (h.reach _ _ hs)) hs
    · cases he; exact keeps_ite hs fun g => h.tick _ _ _ _ g hs
    · cases he; exact keeps_ite hs fun g => h.discreteChange _ _ g hs
    · cases he
      exact keeps_ite hs fun g => keeps_ite' (fun _ => keeps_ite' (fun _ => h.runEntry _ (by simpa using g) (h.reach _ _ hs)) hs) hs
    · cases he; exact keeps_ite hs fun g => h.runExit _ _ g hs
    · cases he; exact keeps_ite hs fun g => h.secondEnd _ g hs
    · cases he; exact keeps_ite hs fun g => h.dayEnd _ g hs
    · cases he; exact keeps_ite hs fun g => h.freshnessExpiry _ _ g hs
    · cases he; exact keeps_ite hs fun g => h.lingerExpiry _ g hs
    · cases he; exact keeps_ite hs fun g => h.asleepEntry _ g hs
    · cases he; exact keeps_ite hs fun g => h.spdEdge _ _ g hs
    · cases he; exact keeps_ite hs fun g => h.tacEdge _ _ g hs
    · cases he; exact keeps_ite hs fun g => h.injLevelChange _ _ g hs
    · cases he; exact keeps_ite hs fun g => h.idxEdge _ g hs
    · cases he; exact keeps_ite hs fun g => h.windowClose _ _ g hs
    · cases he; exact keeps_ite hs fun g => h.analogSample _ _ _ g hs
    · cases he; exact keeps_ite hs fun g => h.tripSecond _ g hs
    · cases he; exact keeps_ite hs fun g => h.gaugeMotionStep _ g hs
    · cases he; exact keeps_ite hs fun g => h.sweepDelayExpiry _ g hs
    · cases he; exact keeps_ite hs fun g => h.sweepTimeoutExpiry _ g hs
    · cases he; exact keeps_ite hs fun g => h.syncFallingEdge _ g hs
    · cases he; exact keeps_ite hs fun g => h.syncPulseEnd _ g hs
    · cases he; exact keeps_ite hs fun g => h.monitorEvaluation _ _ g hs
    · cases he; exact keeps_ite hs fun g => h.assertTimerExpiry _ _ g hs
    · cases he; exact keeps_ite hs fun g => h.releaseTimerExpiry _ _ g hs
    · cases he; exact keeps_ite hs fun g => h.reminderExpiry _ _ g hs
    · cases he; exact keeps_ite hs fun g => h.chimeStepEnd _ g hs
    · cases he; exact keeps_ite hs fun g => h.gapEnd _ g hs
    · cases he; exact keeps_ite hs fun g => h.bulbCheckEnd _ g hs
    · cases he; exact keeps_ite hs fun g => h.flashHalfChange _ g hs
    · cases he; exact keeps_ite hs fun g => h.dutySetting _ g hs
    · cases he; exact keeps_ite hs fun g => h.drumStep _ g hs
    · cases he; exact keeps_ite hs fun g => h.drumIndexMiss _ g hs
    · cases he; exact keeps_ite hs fun g => h.drumCoilOff _ g hs
    · cases he; exact keeps_ite hs fun g => h.eepromWriteBegin _ g hs
    · cases he; exact keeps_ite hs fun g => h.eepromWordComplete _ g hs
    · cases he; exact keeps_ite hs fun g => h.eepromWordFail _ g hs
    · cases he; exact keeps_ite hs fun _ => h.toLinkKeeps.receive hs _ _ _
    · cases he; exact keeps_ite hs fun _ => h.toLinkKeeps.gapTimeout hs
    · cases he; exact keeps_ite hs fun _ => h.toLinkKeeps.replyEnd hs _
  · rcases hq : frame? c with _ | ⟨k, p⟩
    · exact absurd (frame?_isSome c) (by simp [hq, hc])
    · by_cases g : s.power.state = .held
      · rw [exec_request_held (by simp [hq]) g] at he
        cases he
        exact hs
      · rw [exec_request s hq hc g] at he
        cases he
        exact h.toLinkKeeps.request (h.toLinkKeeps.atCommand hs c) hc k p

/-- Every step keeps it. -/
theorem step {s t : State} (hs : P s) (he : step s = .next t) : P t := by
  unfold Machine.step at he
  split at he
  · cases he; exact hs
  · exact h.exec (h.pending _ _ hs) he

end StepKeeps

end Sys2Proof.Machine
end

