-- ==== Sys2Proof/Laws/Power.lean ====
section
/-!
SUPPORT. Power Control: no operation but a power-on reset brings the part to be held in reset, and what a change of
power state leaves of the state it finds.
-/
namespace Sys2Proof.Machine

/-- The state that a change leaves is one held in reset only when it was so before (R155). -/
def HeldBefore (s t : State) : Prop := t.power.state = .held → s.power.state = .held

theorem HeldBefore.of_eq {s t : State} (h : t.power = s.power) : HeldBefore s t := fun e => h ▸ e

theorem HeldBefore.trans {s t u : State} (h : HeldBefore s t) (g : HeldBefore t u) : HeldBefore s u := fun e => h (g e)

theorem State.wake_held (s : State) (c : Nat) : (s.wake c).power.state ≠ .held := by
  simp [State.wake, State.notifyPower]

theorem State.restartLinger_held (s : State) : HeldBefore s s.restartLinger := by
  unfold State.restartLinger HeldBefore
  split <;> simp

theorem State.frameActivity_held (s : State) : HeldBefore s s.frameActivity := by
  unfold State.frameActivity
  split
  · exact fun e => absurd e (s.wake_held 3)
  · exact s.restartLinger_held

theorem State.reportDiscrete_held (s : State) (d : Discrete) : HeldBefore s (s.reportDiscrete d) := by
  unfold State.reportDiscrete
  split
  · exact s.restartLinger_held
  · split
    · exact fun e => absurd e (s.wake_held 2)
    · exact id
  · exact id

theorem State.changeDiscrete_held (s : State) (k : Fin 12) (d : Discrete) : HeldBefore s (s.changeDiscrete k d) := by
  unfold State.changeDiscrete
  split
  · exact .of_eq (by simp)
  · exact .trans (.of_eq (by simp)) (State.reportDiscrete_held _ _)

theorem State.discreteChange_held (s : State) (k : Fin 12) : HeldBefore s (s.discreteChange k) := by
  simp only [State.discreteChange]
  split
  · exact s.changeDiscrete_held _ _
  · exact id

theorem foldl_held {β : Type} (f : State → β → State) (h : ∀ s b, HeldBefore s (f s b)) (l : List β) (s : State) :
    HeldBefore s (l.foldl f s) := by
  induction l generalizing s with
  | nil => exact id
  | cons b l ih => exact (h s b).trans (ih _)

theorem State.restartDiscretes_held (s : State) : HeldBefore s s.restartDiscretes :=
  foldl_held _ (fun _ _ => State.changeDiscrete_held _ _ _) _ _

theorem State.restore_held (s : State) : HeldBefore s s.restore := by
  intro e
  simp only [State.restore, State.restartLamps_frame, State.restartService_frame, State.restartMonitors_frame,
    State.restartGauges_frame, State.clearHolds_frame, State.restartExt_frame] at e
  have h := State.restartDiscretes_held _ e
  exact h

theorem State.enterRun_state (s : State) : s.enterRun.power.state = .run := by
  simp [State.enterRun]

theorem State.endInit_held (s : State) : HeldBefore s s.endInit := by
  unfold State.endInit State.enterFirst HeldBefore
  split
  · simp only [State.notify_frame]
    split <;> simp [State.enterRun_state]
  · exact id

theorem State.tick_held (s : State) (di : BitVec 12) (ign : Bool) (pulse : BitVec 5) :
    HeldBefore s (s.tick di ign pulse) := by
  unfold State.tick HeldBefore
  split
  · exact id
  · simp only [State.tickTimers, PowerControl.tick]
    split <;> simp

theorem State.runEntry_held (s : State) : HeldBefore s s.runEntry := by
  unfold State.runEntry HeldBefore
  split
  · split <;> simp [State.notifyPower, State.enterRun_state]
  · exact id

theorem State.runExit_held (s : State) (b : Bool) : HeldBefore s (s.runExit b) := by
  unfold State.runExit HeldBefore
  split
  · simp [State.notifyPower, State.exitRun, State.startOff]
  · exact id

theorem State.secondEnd_held (s : State) : HeldBefore s s.secondEnd := by
  unfold State.secondEnd HeldBefore PowerControl.second
  split
  · simp only
    split <;> exact id
  · exact id

theorem State.lingerExpiry_held (s : State) : HeldBefore s s.lingerExpiry := by
  unfold State.lingerExpiry HeldBefore
  split
  · simp
  · exact id

theorem State.asleepEntry_held (s : State) : HeldBefore s s.asleepEntry := by
  unfold State.asleepEntry HeldBefore
  split
  · simp [State.fallAsleep]
  · exact id

end Sys2Proof.Machine
end

