-- ==== Sys2Proof/Laws/Accum.lean ====
section
/-!
SUPPORT. The Accumulator Unit and the vehicle constants: what a DU leaves of the residues, what a rescaling gives,
and that the constants read from a header lie within their ranges.
-/
namespace Sys2Proof.Machine

/-- A DU at the drum changes the drum step residue alone (R43, R56). -/
@[simp] theorem State.drumDu_accum (s : State) :
    s.drumDu.accum.rd = s.accum.rd ∧ s.drumDu.accum.rf = s.accum.rf ∧ s.drumDu.accum.rr = s.accum.rr ∧
    s.drumDu.accum.total = s.accum.total ∧ s.drumDu.accum.newestSlot = s.accum.newestSlot ∧
    s.drumDu.accum.newestValue = s.accum.newestValue := by
  simp only [State.drumDu, State.notifyDrum]
  repeat' split
  all_goals simp

@[simp] theorem State.postOdometer_accum (s : State) : s.postOdometer.accum = s.accum := by
  unfold State.postOdometer
  split <;> rfl

@[simp] theorem State.postHundred_accum (s : State) : s.postHundred.accum = s.accum := by
  unfold State.postHundred
  split <;> simp

@[simp] theorem State.postTenThousand_accum (s : State) : s.postTenThousand.accum = s.accum := by
  unfold State.postTenThousand
  split <;> simp

/-- A DU emitted changes the total by one DU, and of the residues the drum's alone (R43). -/
@[simp] theorem State.emitDu_accum (s : State) :
    s.emitDu.accum.rd = s.accum.rd ∧ s.emitDu.accum.rf = s.accum.rf ∧ s.emitDu.accum.rr = s.accum.rr ∧
    s.emitDu.accum.total = totalAfter s.accum.total ∧ s.emitDu.accum.newestSlot = s.accum.newestSlot ∧
    s.emitDu.accum.newestValue = s.accum.newestValue := by
  simp [State.emitDu, State.countDu]

/-- A rescaled residue lies below its new modulus when it lay below the old one (R45). -/
theorem rescale_lt {r old new k : Nat} (h : r < old * k) (hn : 0 < new) : rescale r old new < new * k := by
  unfold rescale
  by_cases e : old = new
  · rw [if_pos e, ← e]
    exact h
  · have ho : 0 < old := Nat.pos_of_ne_zero (by rintro rfl; simp at h)
    rw [if_neg e, Nat.div_lt_iff_lt_mul ho]
    calc r * new < old * k * new := Nat.mul_lt_mul_of_pos_right h hn
      _ = new * k * old := by ring

/-- A residue of 0 rescales to 0 (R45). -/
@[simp] theorem rescale_zero (old new : Nat) : rescale 0 old new = 0 := by
  unfold rescale
  split <;> simp

/-- The constants of a valid header lie within their ranges (R157). -/
theorem headerConstants_inRange {m : Memory} {c : Constants} (h : headerConstants m = some c) :
    constantsInRange c.kvss c.cinj c.ppr c.consumption c.reserve = true := by
  simp only [headerConstants] at h
  split at h
  · split at h
    · rename_i g
      cases h
      exact g.2.2
    · cases h
  · cases h

/-- The constants that INIT puts in force lie within their ranges (R157). -/
theorem loaded_inRange (m : Memory) :
    constantsInRange ((headerConstants m).getD .initial).kvss ((headerConstants m).getD .initial).cinj
      ((headerConstants m).getD .initial).ppr ((headerConstants m).getD .initial).consumption
      ((headerConstants m).getD .initial).reserve = true := by
  rcases h : headerConstants m with _ | c
  · rfl
  · exact headerConstants_inRange h

end Sys2Proof.Machine
end

