-- ==== Sys2Proof/Laws/Exec.lean ====
section
/-!
SUPPORT. What each command is, once its arm of `exec` is taken: an event row in a part not held in reset is its
event, and a request row that is served at once is its service and its reply.
-/
namespace Sys2Proof.Machine

/-- An event in a part that is not held in reset takes place (R155). -/
theorem event_next {s : State} (f : State → State) (h : s.power.state ≠ .held) : event f s = .next (f s) := by
  simp [event, h]

theorem exec_initEnd {s : State} (h : s.power.state ≠ .held) (m : Moment) :
    exec (.initEnd m) s = .next (s.takeInitEnd m) := event_next (fun s => s.takeInitEnd m) h

theorem exec_tick {s : State} (h : s.power.state ≠ .held) (di : BitVec 12) (ign : Bool) (pulse : BitVec 5) :
    exec (.tick di ign pulse) s = .next (s.tick di ign pulse) := event_next (fun s => s.tick di ign pulse) h

theorem exec_discreteChange {s : State} (h : s.power.state ≠ .held) (k : Fin 12) :
    exec (.discreteChange k) s = .next (s.discreteChange k) := event_next (fun s => s.discreteChange k) h

theorem exec_runEntry {s : State} (h : s.power.state ≠ .held) (m : Moment) :
    exec (.runEntry m) s = .next (s.takeRunEntry m) := event_next (fun s => s.takeRunEntry m) h

theorem exec_runExit {s : State} (h : s.power.state ≠ .held) (serviceFirst : Bool) :
    exec (.runExit serviceFirst) s = .next (s.runExit serviceFirst) := event_next (fun s => s.runExit serviceFirst) h

theorem exec_secondEnd {s : State} (h : s.power.state ≠ .held) :
    exec .secondEnd s = .next (s.secondEnd) := event_next State.secondEnd h

theorem exec_dayEnd {s : State} (h : s.power.state ≠ .held) :
    exec .dayEnd s = .next (s.dayEnd) := event_next State.dayEnd h

theorem exec_freshnessExpiry {s : State} (h : s.power.state ≠ .held) (e : Fin 5) :
    exec (.freshnessExpiry e) s = .next (s.expireFreshness e) := event_next (fun s => s.expireFreshness e) h

theorem exec_lingerExpiry {s : State} (h : s.power.state ≠ .held) :
    exec .lingerExpiry s = .next (s.lingerExpiry) := event_next State.lingerExpiry h

theorem exec_asleepEntry {s : State} (h : s.power.state ≠ .held) :
    exec .asleepEntry s = .next (s.asleepEntry) := event_next State.asleepEntry h

theorem exec_spdEdge {s : State} (h : s.power.state ≠ .held) (sub : BitVec 8) :
    exec (.spdEdge sub) s = .next (s.takeSpd sub) := event_next (fun s => s.takeSpd sub) h

theorem exec_tacEdge {s : State} (h : s.power.state ≠ .held) (sub : BitVec 8) :
    exec (.tacEdge sub) s = .next (s.takeTac sub) := event_next (fun s => s.takeTac sub) h

theorem exec_injLevelChange {s : State} (h : s.power.state ≠ .held) (sub : BitVec 8) :
    exec (.injLevelChange sub) s = .next (s.takeInj sub) := event_next (fun s => s.takeInj sub) h

theorem exec_idxEdge {s : State} (h : s.power.state ≠ .held) :
    exec .idxEdge s = .next (s.takeIdx) := event_next State.takeIdx h

theorem exec_windowClose {s : State} (h : s.power.state ≠ .held) (tripFirst : Bool) :
    exec (.windowClose tripFirst) s = .next (s.takeWindowClose tripFirst) := event_next (fun s => s.takeWindowClose tripFirst) h

theorem exec_analogSample {s : State} (h : s.power.state ≠ .held) (i : Fin 6) (raw : BitVec 10) :
    exec (.analogSample i raw) s = .next (s.analogSample i raw.toNat) := event_next (fun s => s.analogSample i raw.toNat) h

theorem exec_tripSecond {s : State} (h : s.power.state ≠ .held) :
    exec .tripSecond s = .next (s.tripSecond) := event_next State.tripSecond h

theorem exec_gaugeMotionStep {s : State} (h : s.power.state ≠ .held) :
    exec .gaugeMotionStep s = .next (s.motionStep) := event_next State.motionStep h

theorem exec_sweepDelayExpiry {s : State} (h : s.power.state ≠ .held) :
    exec .sweepDelayExpiry s = .next (s.sweepDelayExpiry) := event_next State.sweepDelayExpiry h

theorem exec_sweepTimeoutExpiry {s : State} (h : s.power.state ≠ .held) :
    exec .sweepTimeoutExpiry s = .next (s.sweepTimeoutExpiry) := event_next State.sweepTimeoutExpiry h

theorem exec_syncFallingEdge {s : State} (h : s.power.state ≠ .held) :
    exec .syncFallingEdge s = .next (s.syncEdge) := event_next State.syncEdge h

theorem exec_syncPulseEnd {s : State} (h : s.power.state ≠ .held) :
    exec .syncPulseEnd s = .next (s.syncPulseEnd) := event_next State.syncPulseEnd h

theorem exec_monitorEvaluation {s : State} (h : s.power.state ≠ .held) (m : Fin 16) :
    exec (.monitorEvaluation m) s = .next (s.monitorEvaluation m) := event_next (fun s => s.monitorEvaluation m) h

theorem exec_assertTimerExpiry {s : State} (h : s.power.state ≠ .held) (m : Fin 16) :
    exec (.assertTimerExpiry m) s = .next (s.assertExpiry m) := event_next (fun s => s.assertExpiry m) h

theorem exec_releaseTimerExpiry {s : State} (h : s.power.state ≠ .held) (m : Fin 16) :
    exec (.releaseTimerExpiry m) s = .next (s.releaseExpiry m) := event_next (fun s => s.releaseExpiry m) h

theorem exec_reminderExpiry {s : State} (h : s.power.state ≠ .held) (m : Fin 16) :
    exec (.reminderExpiry m) s = .next (s.reminderExpiry m) := event_next (fun s => s.reminderExpiry m) h

theorem exec_chimeStepEnd {s : State} (h : s.power.state ≠ .held) :
    exec .chimeStepEnd s = .next ({ s with chime := s.chime.stepEnd }) := event_next (fun s => { s with chime := s.chime.stepEnd }) h

theorem exec_gapEnd {s : State} (h : s.power.state ≠ .held) :
    exec .gapEnd s = .next ({ s with chime := s.chime.gapEnd }) := event_next (fun s => { s with chime := s.chime.gapEnd }) h

theorem exec_bulbCheckEnd {s : State} (h : s.power.state ≠ .held) :
    exec .bulbCheckEnd s = .next (s.bulbCheckEnd) := event_next State.bulbCheckEnd h

theorem exec_flashHalfChange {s : State} (h : s.power.state ≠ .held) :
    exec .flashHalfChange s = .next (s.flashHalf) := event_next State.flashHalf h

theorem exec_dutySetting {s : State} (h : s.power.state ≠ .held) :
    exec .dutySetting s = .next (s.dutySetting) := event_next State.dutySetting h

theorem exec_drumStep {s : State} (h : s.power.state ≠ .held) :
    exec .drumStep s = .next (s.stepDrum) := event_next State.stepDrum h

theorem exec_drumIndexMiss {s : State} (h : s.power.state ≠ .held) :
    exec .drumIndexMiss s = .next (s.missIndex) := event_next State.missIndex h

theorem exec_drumCoilOff {s : State} (h : s.power.state ≠ .held) :
    exec .drumCoilOff s = .next (s.releaseCoils) := event_next State.releaseCoils h

theorem exec_eepromWriteBegin {s : State} (h : s.power.state ≠ .held) :
    exec .eepromWriteBegin s = .next (s.beginWrite) := event_next State.beginWrite h

theorem exec_eepromWordComplete {s : State} (h : s.power.state ≠ .held) :
    exec .eepromWordComplete s = .next (s.completeWord) := event_next State.completeWord h

theorem exec_eepromWordFail {s : State} (h : s.power.state ≠ .held) :
    exec .eepromWordFail s = .next (s.failWord) := event_next State.failWord h

theorem exec_characterReceived {s : State} (h : s.power.state ≠ .held) (c : Byte) (stopHigh : Bool) (m : Moment) :
    exec (.characterReceived c stopHigh m) s = .next (s.receive c stopHigh m) := event_next (fun s => s.receive c stopHigh m) h

theorem exec_characterGapTimeout {s : State} (h : s.power.state ≠ .held) :
    exec .characterGapTimeout s = .next (s.gapTimeout) := event_next State.gapTimeout h

theorem exec_replyEnd {s : State} (h : s.power.state ≠ .held) (m : Moment) :
    exec (.replyEnd m) s = .next (s.replyEnd m) := event_next (fun s => s.replyEnd m) h

/-- A request that finds the link free in a part that runs is served at once (R173, R174): its effect, and the reply of
its result and data. -/
theorem State.request_ready {s : State} (h : s.ready) (k : Byte) (p : List Byte) (f : Service) :
    State.request k p f s = (f s.frameActivity).state.replied k (f s.frameActivity).result.code
      (if (f s.frameActivity).result = .ok then (f s.frameActivity).data else []) := by
  obtain ⟨hp, hl⟩ := h
  have hh : s.power.state ≠ .held := by intro h; simp [State.powered, State.awake, h] at hp
  have hi : s.frameActivity.power.state ≠ .init := by
    intro h
    cases hst : s.power.state <;>
      simp [State.frameActivity, State.wake, State.restartLinger, State.setPower, State.notifyPower, State.notify,
        State.powered, State.awake, hst] at h hp
  have hlf : s.frameActivity.linkFree = true := by
    unfold State.frameActivity State.restartLinger
    split
    · exact hl
    · split <;> exact hl
  simp only [State.request, hh, if_false, hlf, if_true, hi]
  rfl

/-- A part in which a request is served at once is such a part at the request's moment. -/
theorem ready_atCommand {s : State} (h : s.ready) (c : Instr) : (atCommand s c).ready := by
  unfold atCommand
  cases moment? c with
  | none => exact h
  | some m => exact h

/-- A request row that is served at once does what its service does, at its moment. -/
theorem exec_ready {c : Instr} {k : Byte} {p : List Byte} {f : Service} {s : State} (h : s.ready)
    (hf : frame? c = some (k, p)) (hs : service? c = some f) :
    let t := (atCommand s c).frameActivity
    exec c s = .next ((f t).state.replied k (f t).result.code (if (f t).result = .ok then (f t).data else [])) := by
  have hh : s.power.state ≠ .held := by intro e; simp [State.ready, State.powered, State.awake, e] at h
  rw [exec_request s hf hs hh, State.request_ready (ready_atCommand h c)]

end Sys2Proof.Machine
end

