-- ==== Sys2Proof/Laws/PerInstr.lean ====
section
/-!
SUPPORT. The families of statements made instruction by instruction. `Payload`: the frame a request row stands for
fits the link, and its kind is one of the request kinds.
-/
namespace Sys2Proof.Laws.Payload

open Sys2Proof.Machine

/-- A command that can be sent has a payload of at most 39 bytes and a kind of the index of 10.6. -/
def Statement (i : Instr) : Prop :=
  i.wellFormed = true → ∀ k p, frame? i = some (k, p) →
    p.length ≤ maxPayload ∧ (requestKinds.find? fun r => r.1 = k.toNat).isSome = true

theorem of_event {i : Instr} (h : frame? i = none) : Statement i := by
  intro _ k p e
  rw [h] at e
  exact absurd e (by simp)

theorem of_request {i : Instr} {k : Byte} {p : List Byte} (h : frame? i = some (k, p))
    (hp : i.wellFormed = true → p.length ≤ maxPayload)
    (hk : (requestKinds.find? fun r => r.1 = k.toNat).isSome = true) : Statement i := by
  intro hi k' p' e
  rw [h] at e
  simp only [Option.some.injEq, Prod.mk.injEq] at e
  obtain ⟨rfl, rfl⟩ := e
  exact ⟨hp hi, hk⟩

theorem pointBytes_length (ps : List (Word × Word)) : (pointBytes ps).length = 4 * ps.length := by
  induction ps with
  | nil => rfl
  | cons a ps ih =>
    simp only [pointBytes, List.flatMap_cons, List.length_append] at ih ⊢
    rw [ih]
    simp [wordBytes]
    omega

theorem stepBytes_length (ts : List (Byte × Byte)) : (stepBytes ts).length = 2 * ts.length := by
  induction ts with
  | nil => rfl
  | cons a ts ih =>
    simp only [stepBytes, List.flatMap_cons, List.length_append] at ih ⊢
    rw [ih]
    simp
    omega

theorem powerOnReset (di : BitVec 12) (ign : Bool) (pulse : BitVec 5) (lrate : Bool) (drumfit : Bool) : Statement (.powerOnReset di ign pulse lrate drumfit) := of_event rfl

theorem resetnRelease : Statement (.resetnRelease) := of_event rfl

theorem initEnd (m : Moment) : Statement (.initEnd m) := of_event rfl

theorem tick (di : BitVec 12) (ign : Bool) (pulse : BitVec 5) : Statement (.tick di ign pulse) := of_event rfl

theorem discreteChange (k : Fin 12) : Statement (.discreteChange k) := of_event rfl

theorem runEntry (m : Moment) : Statement (.runEntry m) := of_event rfl

theorem runExit (serviceFirst : Bool) : Statement (.runExit serviceFirst) := of_event rfl

theorem secondEnd : Statement (.secondEnd) := of_event rfl

theorem dayEnd : Statement (.dayEnd) := of_event rfl

theorem freshnessExpiry (e : Fin 5) : Statement (.freshnessExpiry e) := of_event rfl

theorem lingerExpiry : Statement (.lingerExpiry) := of_event rfl

theorem asleepEntry : Statement (.asleepEntry) := of_event rfl

theorem spdEdge (sub : BitVec 8) : Statement (.spdEdge sub) := of_event rfl

theorem tacEdge (sub : BitVec 8) : Statement (.tacEdge sub) := of_event rfl

theorem injLevelChange (sub : BitVec 8) : Statement (.injLevelChange sub) := of_event rfl

theorem idxEdge : Statement (.idxEdge) := of_event rfl

theorem windowClose (tripFirst : Bool) : Statement (.windowClose tripFirst) := of_event rfl

theorem analogSample (i : Fin 6) (raw : BitVec 10) : Statement (.analogSample i raw) := of_event rfl

theorem tripSecond : Statement (.tripSecond) := of_event rfl

theorem gaugeMotionStep : Statement (.gaugeMotionStep) := of_event rfl

theorem sweepDelayExpiry : Statement (.sweepDelayExpiry) := of_event rfl

theorem sweepTimeoutExpiry : Statement (.sweepTimeoutExpiry) := of_event rfl

theorem syncFallingEdge : Statement (.syncFallingEdge) := of_event rfl

theorem syncPulseEnd : Statement (.syncPulseEnd) := of_event rfl

theorem monitorEvaluation (m : Fin 16) : Statement (.monitorEvaluation m) := of_event rfl

theorem assertTimerExpiry (m : Fin 16) : Statement (.assertTimerExpiry m) := of_event rfl

theorem releaseTimerExpiry (m : Fin 16) : Statement (.releaseTimerExpiry m) := of_event rfl

theorem reminderExpiry (m : Fin 16) : Statement (.reminderExpiry m) := of_event rfl

theorem chimeStepEnd : Statement (.chimeStepEnd) := of_event rfl

theorem gapEnd : Statement (.gapEnd) := of_event rfl

theorem bulbCheckEnd : Statement (.bulbCheckEnd) := of_event rfl

theorem flashHalfChange : Statement (.flashHalfChange) := of_event rfl

theorem dutySetting : Statement (.dutySetting) := of_event rfl

theorem drumStep : Statement (.drumStep) := of_event rfl

theorem drumIndexMiss : Statement (.drumIndexMiss) := of_event rfl

theorem drumCoilOff : Statement (.drumCoilOff) := of_event rfl

theorem eepromWriteBegin : Statement (.eepromWriteBegin) := of_event rfl

theorem eepromWordComplete : Statement (.eepromWordComplete) := of_event rfl

theorem eepromWordFail : Statement (.eepromWordFail) := of_event rfl

theorem characterReceived (c : Byte) (stopHigh : Bool) (m : Moment) : Statement (.characterReceived c stopHigh m) := of_event rfl

theorem characterGapTimeout : Statement (.characterGapTimeout) := of_event rfl

theorem replyEnd (m : Moment) : Statement (.replyEnd m) := of_event rfl

theorem statusRead : Statement (.statusRead) :=
  of_request rfl (fun _ => by decide) rfl

theorem noticeFetch : Statement (.noticeFetch) :=
  of_request rfl (fun _ => by decide) rfl

theorem softRestart (m : Moment) : Statement (.softRestart m) :=
  of_request rfl (fun _ => by decide) rfl

theorem vehicleConstantsWrite (kvss : Word) (cinj : Word) (ppr : Byte) (consumption : Word) (reserve : Byte) : Statement (.vehicleConstantsWrite kvss cinj ppr consumption reserve) :=
  of_request rfl (fun _ => Nat.le_of_ble_eq_true rfl) rfl

theorem vehicleConstantsRead : Statement (.vehicleConstantsRead) :=
  of_request rfl (fun _ => by decide) rfl

theorem eepromRead (first : Byte) (count : Byte) : Statement (.eepromRead first count) :=
  of_request rfl (fun _ => Nat.le_of_ble_eq_true rfl) rfl

theorem eepromWrite (address : Byte) (value : Word) : Statement (.eepromWrite address value) :=
  of_request rfl (fun _ => Nat.le_of_ble_eq_true rfl) rfl

theorem curveLoad (curve : Byte) (count : Byte) (points : List (Word × Word)) : Statement (.curveLoad curve count points) := by
  refine of_request rfl (fun h => ?_) rfl
  simp only [Instr.wellFormed, decide_eq_true_eq] at h
  simp only [List.length_cons, pointBytes_length]
  omega

theorem curveRead (curve : Byte) : Statement (.curveRead curve) :=
  of_request rfl (fun _ => Nat.le_of_ble_eq_true rfl) rfl

theorem analogInputConfigure (input : Byte) (curve : Byte) (low : Word) (high : Word) (decimation : Byte) (shift : Byte) (threshold : Word) : Statement (.analogInputConfigure input curve low high decimation shift threshold) :=
  of_request rfl (fun _ => Nat.le_of_ble_eq_true rfl) rfl

theorem pulseInputConfigure (input : Byte) (filter : Byte) (selection : Byte) (loss : Byte) (m : Moment) : Statement (.pulseInputConfigure input filter selection loss m) :=
  of_request rfl (fun _ => Nat.le_of_ble_eq_true rfl) rfl

theorem discreteInputConfigure (input : Byte) (polarity : Byte) (debounce : Byte) (wake : Byte) : Statement (.discreteInputConfigure input polarity debounce wake) :=
  of_request rfl (fun _ => Nat.le_of_ble_eq_true rfl) rfl

theorem channelRead (first : Byte) (count : Byte) : Statement (.channelRead first count) :=
  of_request rfl (fun _ => Nat.le_of_ble_eq_true rfl) rfl

theorem channelHold (channel : Byte) (value : Word) : Statement (.channelHold channel value) :=
  of_request rfl (fun _ => Nat.le_of_ble_eq_true rfl) rfl

theorem channelRelease (channel : Byte) : Statement (.channelRelease channel) :=
  of_request rfl (fun _ => Nat.le_of_ble_eq_true rfl) rfl

theorem channelPut (channel : Byte) (value : Word) : Statement (.channelPut channel value) :=
  of_request rfl (fun _ => Nat.le_of_ble_eq_true rfl) rfl

theorem externalChannelConfigure (channel : Byte) (freshness : Byte) (withdraw : Byte) : Statement (.externalChannelConfigure channel freshness withdraw) :=
  of_request rfl (fun _ => Nat.le_of_ble_eq_true rfl) rfl

theorem discreteRead : Statement (.discreteRead) :=
  of_request rfl (fun _ => by decide) rfl

theorem gaugeConfigure (gauge : Byte) (fields : GaugeFields) (delay : Word) : Statement (.gaugeConfigure gauge fields delay) :=
  of_request rfl (fun _ => Nat.le_of_ble_eq_true rfl) rfl

theorem gaugeRead (gauge : Byte) : Statement (.gaugeRead gauge) :=
  of_request rfl (fun _ => Nat.le_of_ble_eq_true rfl) rfl

theorem sweepStart : Statement (.sweepStart) :=
  of_request rfl (fun _ => by decide) rfl

theorem monitorConfigure (monitor : Byte) (fields : MonitorFields) : Statement (.monitorConfigure monitor fields) :=
  of_request rfl (fun _ => Nat.le_of_ble_eq_true rfl) rfl

theorem monitorRead (monitor : Byte) (part : Byte) : Statement (.monitorRead monitor part) :=
  of_request rfl (fun _ => Nat.le_of_ble_eq_true rfl) rfl

theorem monitorAcknowledge (monitor : Byte) : Statement (.monitorAcknowledge monitor) :=
  of_request rfl (fun _ => Nat.le_of_ble_eq_true rfl) rfl

theorem monitorClearSnapshot (monitor : Byte) : Statement (.monitorClearSnapshot monitor) :=
  of_request rfl (fun _ => Nat.le_of_ble_eq_true rfl) rfl

theorem chimePost (slot : Byte) (pattern : Byte) (priority : Byte) (passes : Byte) : Statement (.chimePost slot pattern priority passes) :=
  of_request rfl (fun _ => Nat.le_of_ble_eq_true rfl) rfl

theorem chimeWithdraw (slot : Byte) : Statement (.chimeWithdraw slot) :=
  of_request rfl (fun _ => Nat.le_of_ble_eq_true rfl) rfl

theorem patternLoad (pattern : Byte) (count : Byte) (steps : List (Byte × Byte)) : Statement (.patternLoad pattern count steps) := by
  refine of_request rfl (fun h => ?_) rfl
  simp only [Instr.wellFormed, decide_eq_true_eq] at h
  simp only [List.length_cons, stepBytes_length]
  omega

theorem chimeRead (first : Byte) : Statement (.chimeRead first) :=
  of_request rfl (fun _ => Nat.le_of_ble_eq_true rfl) rfl

theorem lampSet (lamp : Byte) (mode : Byte) : Statement (.lampSet lamp mode) :=
  of_request rfl (fun _ => Nat.le_of_ble_eq_true rfl) rfl

theorem lampConfigure (discrete : Byte) : Statement (.lampConfigure discrete) :=
  of_request rfl (fun _ => Nat.le_of_ble_eq_true rfl) rfl

theorem lampRead (lamp : Byte) : Statement (.lampRead lamp) :=
  of_request rfl (fun _ => Nat.le_of_ble_eq_true rfl) rfl

theorem tripRead (selector : Byte) : Statement (.tripRead selector) :=
  of_request rfl (fun _ => Nat.le_of_ble_eq_true rfl) rfl

theorem tripReset (selector : Byte) : Statement (.tripReset selector) :=
  of_request rfl (fun _ => Nat.le_of_ble_eq_true rfl) rfl

theorem tripControl (actionA : Byte) (actionB : Byte) (hours : Byte) : Statement (.tripControl actionA actionB hours) :=
  of_request rfl (fun _ => Nat.le_of_ble_eq_true rfl) rfl

theorem odometerRead : Statement (.odometerRead) :=
  of_request rfl (fun _ => by decide) rfl

theorem drumRead : Statement (.drumRead) :=
  of_request rfl (fun _ => by decide) rfl

theorem drumRestart : Statement (.drumRestart) :=
  of_request rfl (fun _ => by decide) rfl

theorem serviceConfigure (item : Byte) (fields : ServiceFields) : Statement (.serviceConfigure item fields) :=
  of_request rfl (fun _ => Nat.le_of_ble_eq_true rfl) rfl

theorem serviceRead (item : Byte) : Statement (.serviceRead item) :=
  of_request rfl (fun _ => Nat.le_of_ble_eq_true rfl) rfl

theorem serviceReset (item : Byte) : Statement (.serviceReset item) :=
  of_request rfl (fun _ => Nat.le_of_ble_eq_true rfl) rfl

end Sys2Proof.Laws.Payload
end

