-- ==== Sys2Proof/Laws/Vectors.lean ====
section
/-!
SUPPORT. What the element of a table reads after one element, or every element, is replaced.
-/
namespace Sys2Proof.Machine

/-- A table made of a function of its index reads as the function. -/
theorem ofRange_get {α : Type} {n : Nat} (f : Fin n → α) (h : ((List.finRange n).map f).toArray.size = n) (k : Fin n) :
    (Vector.mk ((List.finRange n).map f).toArray h)[k] = f k := by simp

/-- A function of every element. -/
theorem vmap_get {α β : Type} {n : Nat} (f : α → β) (v : Vector α n) (k : Fin n) : (vmap f v)[k] = f v[k] := by
  simp [vmap]

/-- One element replaced. -/
theorem set_get {α : Type} {n : Nat} (v : Vector α n) (i : Fin n) (x : α) (k : Fin n) :
    (v.set i x)[k] = if k = i then x else v[k] := by
  simp only [Fin.getElem_fin, Vector.getElem_set, Fin.ext_iff]
  by_cases h : i.val = k.val
  · rw [if_pos h, if_pos h.symm]
  · rw [if_neg h, if_neg (fun e => h e.symm)]

/-- A function of one element. -/
theorem vmod_get {α : Type} {n : Nat} (v : Vector α n) (i : Fin n) (f : α → α) (k : Fin n) :
    (vmod v i f)[k] = if k = i then f v[i] else v[k] := set_get v i (f v[i]) k

/-- Two tables that read the same are the same. -/
theorem vector_ext_get {α : Type} {n : Nat} {v w : Vector α n} (h : ∀ k : Fin n, v[k] = w[k]) : v = w :=
  Vector.ext fun i hi => h ⟨i, hi⟩

/-- The service items after the block's reading (R152). -/
theorem loadService_get (s : State) (k : Fin 6) :
    s.loadService.service[k] = s.service[k].load s.eeprom.memory (serviceBlockValid s.eeprom.memory) k.val :=
  ofRange_get (fun k : Fin 6 => s.service[k].load s.eeprom.memory (serviceBlockValid s.eeprom.memory) k.val) _ k

end Sys2Proof.Machine
end

