-- ==== Sys2Proof/Tests/Slice0.lean ====
section
/-!
SUPPORT. The model's own tests: the smoke test of well-formedness, the data book's worked figures, and for every
statement with hypotheses a concrete state and operands that meet them.
-/
namespace Sys2Proof.Machine.Tests

/-- The state after a command; the state itself where the command gives none. -/
def after (c : Instr) (s : State) : State :=
  match exec c s with
  | .next t => t
  | _ => s

/-- The state after a step. -/
def stepped (s : State) : State :=
  match step s with
  | .next t => t
  | _ => s

/-- The reset state in a power state. -/
def at' (p : PowerState) : State := { State.reset with power := { State.reset.power with state := p } }

/-- The data of the reply a state is sending: its payload after the result code. -/
def replyData (s : State) : List Byte :=
  match s.link.reply with
  | none => []
  | some bytes => (bytes.drop 4).dropLast

/-! ## Well-formedness -/

/-- Ten points do not fit a frame (10.2). -/
theorem test_curve_load_too_long_refused :
    (Instr.curveLoad 0 10 (List.replicate 10 (0, 0))).wellFormed = false := by decide

/-- Nine points fit a frame, though R37 refuses them. -/
theorem test_curve_load_nine_points_formed :
    (Instr.curveLoad 0 9 (List.replicate 9 (0, 0))).wellFormed = true := by decide

/-- Nineteen steps do not fit a frame (10.2). -/
theorem test_pattern_load_too_long_refused :
    (Instr.patternLoad 8 19 (List.replicate 19 (0, 1))).wellFormed = false := by decide

/-! ## Worked figures of the data book -/

/-- C0 of 2.9: at 350 the result is 452.5, and a half goes up. -/
theorem test_curve_half_goes_up :
    curveAt [(40, 900), (300, 500), (700, 120), (960, 0)] 350 = some 453 := by decide

/-- C6 of 2.9 at SPEED 1008. -/
theorem test_curve_speedometer : curveAt [(0, 64), (2600, 960)] 1008 = some 411 := by decide

/-- The frame of 11.1.1: Channel Hold of channel 5 at 100. -/
theorem test_frame_check : frameBytes 0x16 [0x05, 0x00, 0x64] = [0xA7, 0x04, 0x16, 0x05, 0x00, 0x64, 0x7D] := by
  decide

/-- The reply of 11.1.1: OK to Channel Hold. -/
theorem test_reply_check :
    (after (.channelHold 5 100) (at' .run)).link.reply = some [0xA7, 0x02, 0x96, 0x00, 0x68] := by decide

/-- Rescaling of 3.3: r_d 4,321 at a K_vss of 5000 becomes 5,185 at 6000 (and the part stands). -/
theorem test_constants_rescale :
    (after (.vehicleConstantsWrite 6000 9000 6 150 60)
      { at' .run with accum := { Accumulators.initial with rd := 4321 } }).accum.rd = 5185 := by decide

/-! ### Events -/

/-- 1.3, steady speed: 14 edges over a span of 25,600 counts at K_vss 5000. -/
def steady : State :=
  { at' .run with
      time := { fref := 51200, sub := 0, ms := 0, seconds := 0, days := 0, dayEnds := 0 },
      pulse := { PulseUnit.initial with
        windowClock := 100,
        spdWindow := { Window.initial with n := 14, tLast := some 51200, tRef := some 25600 },
        tacWindow := { Window.initial with n := 6, tLast := some 51200, tRef := some 25600 } } }

theorem test_window_close_steady_speed :
    (after (.windowClose false) steady).channels.records[0] = ⟨1008, .valid, none⟩ := by decide

theorem test_window_close_idle_engine :
    (after (.windowClose false) steady).channels.records[1] = ⟨600, .valid, none⟩ := by decide

/-- 1.3, slowing to a stop, window 2: a decay estimate of 58.70. -/
theorem test_window_rate_decays :
    min (roundDiv 9216000000 (31400 * 5000)) 3000 = 59 := by decide

/-- 1.7, one filter step. -/
def filtering : State :=
  { at' .run with
      curves := Vector.replicate 12 [(0, 280), (1023, 280)],
      channels := { ChannelTable.initial with
        records := ChannelTable.initial.records.set 2 ⟨300, .valid, none⟩ },
      sampler := { clock := 0, inputs := Vector.replicate 6 { AnalogInput.initial with
        curve := some 0, decimation := 1, shift := 6, filter := 76800, due := true } } }

theorem test_analog_sample_filter_step :
    (after (.analogSample 0 512) filtering).sampler.inputs[0].filter = 76720 ∧
    (after (.analogSample 0 512) filtering).channels.records[2].value = 300 := by decide

/-- 1.7, a sender that opens: the fifth bad sample makes the channel FAULT, with a notice. -/
theorem test_analog_sample_fifth_bad_faults :
    (after (.analogSample 0 1023) { filtering with
      sampler := { filtering.sampler with
        inputs := filtering.sampler.inputs.set 0 { filtering.sampler.inputs[0] with outCount := 4 } } }).notices = [⟨.channel 2, 2⟩] := by decide

/-- 3.4 at K_vss = 5120: the 52nd edge emits a DU and leaves 80. -/
def edges : State :=
  { at' .run with consts := { Constants.initial with kvss := 5120 },
                  accum := { Accumulators.initial with rd := 5100, total := 99999999 } }

/-- The rollover of 3.6: the DU after 99,999,999 brings 0, and a ring write and a block write. -/
theorem test_spd_edge_rolls_over :
    (after (.spdEdge 0) edges).accum.rd = 80 ∧ (after (.spdEdge 0) edges).accum.total = 0 ∧
    (after (.spdEdge 0) edges).eeprom.queue = [.odometer 0, .service] := by decide

/-- R1: with its filter on, a level stands 40 µs: the next active edge comes two widths, 20 whole counts, on, and one
width, 10, after a tick that found the pin low. A tick that finds it high hides no edge: the pin low from 110 to 250, high
at the tick, brings one at 260, 4 counts on. -/
theorem test_spd_edge_filtered :
    let low := after (.tick 0 true 0) (after (.spdEdge 100) edges)
    let high := after (.tick 0 true 1) (after (.spdEdge 100) edges)
    (after (.spdEdge 4) high).pulse.spdWindow.n = 2 ∧
    (after (.spdEdge 119) (after (.spdEdge 100) edges)).pulse.spdWindow.n = 1 ∧
    (after (.spdEdge 120) (after (.spdEdge 100) edges)).pulse.spdWindow.n = 2 ∧
    (after (.spdEdge 9) low).pulse.spdWindow.n = 1 ∧ (after (.spdEdge 10) low).pulse.spdWindow.n = 2 := by decide

/-- R42: with ppr = 6 the 6,000th edge emits one KR. -/
theorem test_tac_edge_emits_kr :
    (after (.tacEdge 0) { at' .run with accum := { Accumulators.initial with rr := 5999 } }).service[5].sinceKr = 1 := by
  decide

/-- 3.6 (1): the words of the ODOMETER record 99,999,900 for slot 6. -/
def rolling : State :=
  { at' .run with accum := { Accumulators.initial with newestSlot := some 5 },
                  eeprom := { memory := [], queue := [.odometer 99999900], flight := none } }

theorem test_eeprom_write_begin_words :
    (after .eepromWriteBegin rolling).eeprom.flight =
      some { kind := .odometer 6 99999900, words := [(25, 1525), (26, 57500), (27, 48916)], wait := 0 } := by decide

/-- 3.6 (2): the check word at 30 times out; a STORE notice carries 30. -/
def timedOut : State :=
  { at' .run with eeprom := { memory := [], queue := [],
                              flight := some { kind := .odometer 7 0, words := [(30, 42405)], wait := 25 } } }

theorem test_eeprom_word_fail_store_notice :
    (after .eepromWordFail timedOut).notices = [⟨.store, 30⟩] ∧
    (after .eepromWordFail timedOut).accum.newestSlot = none := by decide

theorem test_eeprom_word_complete_newest :
    (after .eepromWordComplete timedOut).accum.newestSlot = some 7 ∧
    (after .eepromWordComplete timedOut).eeprom.memory = [(30, 42405)] := by decide

/-- R166: a word whose EDO has not risen within 25 ms completes no more. -/
theorem test_eeprom_word_complete_too_late :
    (after .eepromWordComplete (after (.tick 0 true 0) timedOut)).eeprom.memory = [] := by decide

/-- 3.6: the ring it starts from, by slot. -/
def ring : Memory :=
  (List.finRange 8).foldl (fun m k =>
    let v := 99999800 - 100 * ((13 - k.val) % 8)
    writeWord (writeWord (writeWord m (7 + 3 * k.val) (BitVec.ofNat 16 (v / 65536)))
      (8 + 3 * k.val) (BitVec.ofNat 16 (v % 65536)))
      (9 + 3 * k.val) (BitVec.ofNat 16 (42405 + 65536 - (v / 65536 + v % 65536) % 65536))) []

theorem test_ring_newest : newestRecord ring = some (5, 99999800) := by decide

theorem test_resetn_release_total :
    (after .resetnRelease { State.reset with eeprom := { memory := ring, queue := [], flight := none } }).accum.total =
      99999800 := by decide

/-- 3.9: step 24 without an index at a miss count of 0. -/
def drumming : State :=
  { at' .run with drum := { Drum.initial true with state := .stepping, debt := 37, p := 3, indexKnown := true,
                                                   sinceIndex := 23, coils := true, clock := 20 } }

theorem test_drum_step :
    (after .drumStep drumming).drum.p = 4 ∧ (after .drumStep drumming).drum.debt = 36 ∧
    (after .drumIndexMiss (after .drumStep drumming)).drum.missCount = 1 := by decide

/-- 3.9 at 990 ms: the third miss, at p = 9, brings FAULT. -/
theorem test_idx_edge_third_miss :
    (after .idxEdge { drumming with drum := { drumming.drum with p := 9, missCount := 2 } }).notices =
      [⟨.drum, 3⟩] := by decide

/-- 3.9 at 1080 ms: the coils go off 100 ms after the last step. -/
theorem test_drum_coil_off :
    (after .drumCoilOff { drumming with drum := { drumming.drum with state := .fault, clock := 100 } }).drum.coils =
      false := by decide

/-- R57: in FAULT with no step taken since they were energised, the coils are 100 ms past the last step already. -/
theorem test_drum_coil_off_unstepped :
    (after .drumCoilOff
      { drumming with drum := { drumming.drum with state := .fault, clock := 3, stepped := false } }).drum.coils = false ∧
    (after .drumCoilOff
      { drumming with drum := { drumming.drum with state := .fault, clock := 3, stepped := true } }).drum.coils = true := by
  decide

/-- 4.7: a full history of 30,000 counts with SPEED at 800. -/
def flowing : State :=
  { at' .run with
      trip := { TripComputer.initial with history := List.replicate 10 3000 },
      channels := { ChannelTable.initial with records := ChannelTable.initial.records.set 0 ⟨800, .valid, none⟩ },
      pulse := { PulseUnit.initial with onTime := 3000, windowClock := 100,
                                        inj := { PulseInput.initial with selection := true } } }

set_option maxRecDepth 4000 in
theorem test_window_close_flow :
    (after (.windowClose true) flowing).channels.records[8].value = 120 ∧
    (after (.windowClose true) flowing).channels.records[9] = ⟨150, .valid, none⟩ := by decide

/-- 4.9.1 at 4 s: R falls to 259 and P follows at once; the raw range of the first figure is 268. -/
def ranging : State :=
  { at' .run with
      consts := { Constants.initial with reserve := 50 },
      channels := { ChannelTable.initial with
        records := (ChannelTable.initial.records.set 0 ⟨900, .valid, none⟩).set 2 ⟨452, .valid, none⟩ },
      trip := { TripComputer.initial with rbDist := 14230, rbFuel := 21345, presented := some 265,
                                          clock := some 1000 } }

theorem test_trip_second_rises_by_one :
    (after .tripSecond ranging).trip.presented = some 266 ∧
    (after .tripSecond ranging).channels.records[10] = ⟨266, .valid, none⟩ := by decide

theorem test_trip_second_falls_at_once :
    (after .tripSecond { ranging with trip := { ranging.trip with presented := some 269 } }).trip.presented =
      some 268 := by decide

/-- 5.4: the tachometer's rise. -/
def tachometer (p v : Nat) : State :=
  { at' .run with
      curves := Vector.replicate 12 [(0, 200), (9999, 200)],
      gauge := { GaugeUnit.initial with
        clock := 10,
        gauges := GaugeUnit.initial.gauges.set 2
          { Gauge.initial with
              config := { GaugeConfig.initial with source := some 1, curve := some 7, accel := 16, rHi := 96 },
              mode := .tracking, p := p, v := v } } }

theorem test_gauge_step_one :
    (after .gaugeMotionStep (tachometer 1600 0)).gauge.gauges[2].p = 1616 ∧
    (after .gaugeMotionStep (tachometer 2992 96)).gauge.gauges[2].v = 80 := by decide

theorem test_gauge_step_arrives :
    (after .gaugeMotionStep (tachometer 3184 48)).gauge.gauges[2].p = 3200 ∧
    (after .gaugeMotionStep (tachometer 3184 48)).gauge.gauges[2].v = 0 := by decide

/-- The braking distances of 5.4. -/
theorem test_braking : [16, 32, 48, 64, 80, 96].map (fun v => braking 16 16 v v) = [0, 16, 48, 96, 160, 240] := by
  decide

/-- R84: a gauge that enters PARKED keeps its coils' polarity at a duty of 0. -/
theorem test_parked_polarity :
    ({ Gauge.initial with sine := ⟨180, true⟩, cosine := ⟨180, false⟩ }.park).sine = ⟨0, true⟩ := by decide

/-- The key-on of 5.11: at RUN entry G0 is ARMED on 1024 with a delay timer of 300 ms. -/
def keyOn : State :=
  { at' .awakeOff with
      curves := Vector.replicate 12 [(0, 64), (2600, 960)],
      discretes := { (at' .run).discretes with ign := { level := true, timer := 0, pin := true } },
      gauge := { GaugeUnit.initial with
        sweep := { GaugeUnit.initial.sweep with delay := 30 },
        gauges := GaugeUnit.initial.gauges.set 0
          { Gauge.initial with config := { GaugeConfig.initial with
                                  source := some 0, curve := some 6, rest := 64, accel := 16, sweep := true },
                               p := 1024 } } }

def armed : State := after (.runEntry { pulse := 16 }) keyOn

theorem test_run_entry_arms :
    armed.gauge.gauges[0].mode = .armed ∧ armed.gauge.sweep.delayTimer = some 300 ∧
    armed.gauge.sweep.timeout = some 5000 ∧ armed.notices = [⟨.power, 2⟩] := by decide

theorem test_sweep_delay_starts :
    (after .sweepDelayExpiry { armed with gauge := { armed.gauge with
      sweep := { armed.gauge.sweep with delayTimer := some 0 } } }).gauge.gauges[0].mode = .sweepUp ∧
    (after .sweepStart armed).gauge.syncPulse = some 1 := by decide

theorem test_sync_edge_starts : (after .syncFallingEdge armed).gauge.sweep.cause = .sync := by decide

/-- 5.11 at 300 and 301 ms: SYNC held low by the part's own pulse, and the line risen again after it. -/
def pulsing : State := after (.tick 8 true 31) (after .sweepStart armed)

def released : State := after (.tick 8 true 31) (after .syncPulseEnd pulsing)

/-- The part's own falling edge passes the filter, and none is taken while it holds the line low; after the rise one is.
-/
theorem test_sync_edge_own_pulse :
    pulsing.gauge.sync.accepted = false ∧ after .syncFallingEdge pulsing = pulsing ∧
    (after (.tick 8 true 31) released).gauge.sync.accepted = true ∧
    (after .syncFallingEdge (after (.tick 8 true 31) released)).gauge.sync.accepted = false := by decide

/-- The late rear ignition of 5.11: the timeout moves the gauge to TRACKING; the notice has mask and cause 0. -/
theorem test_sweep_timeout :
    (after .sweepTimeoutExpiry { armed with gauge := { armed.gauge with
      sweep := { armed.gauge.sweep with timeout := some 0 } } }).notices = [⟨.power, 2⟩, ⟨.sweep, 0⟩] := by decide

set_option maxRecDepth 4000 in
theorem test_run_exit_returns :
    (after (.runExit false) { armed with discretes := State.reset.discretes }).gauge.gauges[0].mode = .returning ∧
    (after (.runExit false) { armed with discretes := State.reset.discretes }).gauge.gauges[0].target =
      armed.gauge.gauges[0].config.rest * 16 ∧
    (after (.runExit false) { armed with discretes := State.reset.discretes }).eeprom.queue =
      [.odometer 0, .service] := by decide

/-- M2 of 6.7: COOLANT ABOVE 160, hysteresis 5, delays 20 and 30, latching, L3 FLASH, P3. -/
def coolantFields : MonitorFields :=
  { monitorDefaults with
      enabled := 1, srcIndex := 3, setLo := 160, hyst := 5, assertDelay := 20, releaseDelay := 30, faultSense := 2,
      latching := 1, lamp := 3, lampMode := 1, pattern := 3, priority := 6, passes := 3, reminder := 2, notice := 1,
      snapshot := 1 }

def coolant (m : Monitor) (value : Nat) : State :=
  { at' .run with
      channels := { ChannelTable.initial with records := ChannelTable.initial.records.set 3 ⟨value, .valid, none⟩ },
      monitor := { monitors := (Vector.replicate 16 Monitor.initial).set 2 { m with config := coolantFields },
                   clock := some 0 } }

theorem test_monitor_evaluation_pending :
    (after (.monitorEvaluation 2)
      (coolant { Monitor.initial with state := .clear, due := true } 161)).monitor.monitors[2].assertTimer = some 20 := by
  decide

/-- 6.7 at 602.0 s: L3 FLASH, P3 posted, the notice, the snapshot. -/
theorem test_assert_timer_active :
    let t := after (.assertTimerExpiry 2)
      (coolant { Monitor.initial with state := .pending, raw := true, assertTimer := some 0, reading := (161, .valid) } 161)
    t.lamp.claim 3 (monitorClaim 2) = some .flash ∧ t.notices.length = 1 ∧
    t.monitor.monitors[2].snapshot = some ⟨0, 161, .valid⟩ := by decide

/-- 6.7 at 605.0 s: the acknowledgement turns the claim to ON and sets the reminder timer to 1200. -/
theorem test_monitor_acknowledge :
    let t := after (.monitorAcknowledge 2) (coolant { Monitor.initial with state := .active, raw := true } 161)
    t.lamp.claim 3 (monitorClaim 2) = some .on ∧ t.monitor.monitors[2].reminderTimer = some 1200 ∧
    t.monitor.monitors[2].state = .active := by decide

/-- 6.7 at 770.0 s: with the condition gone the acknowledgement releases, timer 30. -/
theorem test_monitor_acknowledge_releases :
    (after (.monitorAcknowledge 2)
      (coolant { Monitor.initial with state := .active } 154)).monitor.monitors[2].releaseTimer = some 30 := by decide

theorem test_release_timer_clears :
    let t := after (.releaseTimerExpiry 2)
      (coolant { Monitor.initial with state := .releasing, acked := true, releaseTimer := some 0 } 150)
    t.monitor.monitors[2].state = .clear ∧ t.notices.length = 1 := by decide

/-- 6.7 at 725.0 s: the reminder un-acknowledges, claims FLASH again and posts. -/
theorem test_reminder :
    let t := after (.reminderExpiry 2)
      (coolant { Monitor.initial with state := .active, acked := true, reminderTimer := some 0 } 158)
    t.monitor.monitors[2].acked = false ∧ t.lamp.claim 3 (monitorClaim 2) = some .flash ∧
    t.chime.queue.length = 1 := by decide

/-- 7.5: the request of M4 playing the last step of P5 with 2 passes, LINK_0 waiting. -/
def playing : State :=
  { at' .run with chime :=
      { queue := [⟨4, 5, 3, 2, true, false, .none⟩, ⟨22, 0, 3, 1, false, false, .none⟩],
        sequencer := .playing [⟨1, 10⟩] 0 0, loaded := Vector.replicate 4 [] } }

/-- 7.5 at 600: the pass completes, 2 becomes 1 and M4 moves to the newest end. -/
theorem test_chime_step_end :
    (after .chimeStepEnd playing).chime.queue =
      [⟨22, 0, 3, 1, false, false, .none⟩, ⟨4, 5, 3, 1, false, false, .none⟩] ∧
    (after .chimeStepEnd playing).chime.sequencer = .gap 200 := by decide

/-- 7.5 at 800: equal priority, LINK_0 oldest. -/
theorem test_gap_end :
    (after .gapEnd { playing with chime := { playing.chime with
      queue := [⟨22, 0, 3, 1, false, false, .none⟩, ⟨4, 5, 3, 1, false, false, .none⟩],
      sequencer := .gap 0 } }).chime.queue.head? = some ⟨22, 0, 3, 1, true, false, .none⟩ := by decide

/-- 7.5 at 1000: a post of priority 7 orders a CUT of the request of priority 3. -/
theorem test_chime_post_cuts :
    (after (.chimePost 1 6 7 0) playing).chime.queue.head? = some ⟨4, 5, 3, 2, true, false, .cut⟩ := by decide

/-- 7.5 at 2300: a withdrawal of a playing request orders WITHDRAW; a waiting one goes at once. -/
theorem test_chime_withdraw :
    (after (.chimeWithdraw 0) playing).chime.queue = [⟨4, 5, 3, 2, true, false, .none⟩] ∧
    replyData (after (.chimeWithdraw 0) playing) = [1] := by decide

/-- 7.8: a DIMMER of 10 lies below the floor. -/
def dimmed : State :=
  { at' .run with
      lamp := { State.reset.lamp with dimming := some 7, dutyClock := 20, bulbCheck := some 0,
                                      flash := some ⟨true, 500⟩ },
      channels := { ChannelTable.initial with records := ChannelTable.initial.records.set 7 ⟨10, .valid, none⟩ },
      discretes := { State.reset.discretes with
        inputs := State.reset.discretes.inputs.set 7 { Discrete.initial with level := false } } }

theorem test_duty_setting_floor : (after .dutySetting dimmed).lamp.duty = 16 := by decide

theorem test_flash_half_change : (after .flashHalfChange dimmed).lamp.flash = some ⟨false, 0⟩ := by decide

theorem test_bulb_check_end : (after .bulbCheckEnd dimmed).lamp.bulbCheck = none := by decide

/-- 7.8 at 10.00 s: Lamp Set OFF removes only the claim the host had made. -/
theorem test_lamp_set :
    (after (.lampSet 1 1) (at' .run)).lamp.claim 1 22 = some .on ∧
    (after (.lampSet 2 0) { at' .run with lamp := (after (.lampSet 255 2) (at' .run)).lamp }).lamp.claim 2 22 = none := by decide

/-- 8.3.1: S0's levels on distance and days at their thresholds. -/
def oil (du days : Nat) : ServiceItem :=
  { ServiceItem.initial with config := { serviceDefaults with enabled := 1, km := 15000, days := 365 },
                             sinceDu := du, sinceDays := days }

theorem test_service_thresholds :
    [(oil 1349999 328).computed, (oil 1350000 0).computed, (oil 0 329).computed, (oil 1500000 0).computed,
     (oil 0 365).computed, (oil 0 401).computed, (oil 0 402).computed, (oil 1650000 0).computed] =
    [.ok, .early, .early, .due, .due, .due, .overdue, .overdue] := by decide

/-- 8.7: the words of the service block. -/
theorem test_service_block_words :
    (after .eepromWriteBegin { at' .run with
      service := (Vector.replicate 6 ServiceItem.initial).set 0
        { ServiceItem.initial with sinceDu := 1502315, sinceDays := 331, sinceKr := 12410 },
      eeprom := { memory := [], queue := [.service], flight := none } }).eeprom.flight.map
        (fun f => [f.words[0]?, f.words[1]?, f.words[2]?, f.words[3]?, f.words[18]?]) =
      some [some (31, 15023), some (32, 331), some (33, 12410), some (34, 0), some (49, 14641)] := by decide

/-- 8.8 (4): a day end brings S0 to 329 days and EARLY, with a notice, in a part asleep. -/
theorem test_day_end_early :
    let t := after .dayEnd { at' .asleep with
      service := (Vector.replicate 6 ServiceItem.initial).set 0 { oil 0 328 with state := .ok },
      time := { State.reset.time with dayEnds := 1 } }
    t.service[0].state = .early ∧ t.notices.length = 1 := by decide

/-- 8.8 (6): at SPEED 12 the reset is refused, and at 0 VALID it sets the counts to 0. -/
theorem test_service_reset :
    (after (.serviceReset 0) { at' .run with channels := { ChannelTable.initial with
      records := ChannelTable.initial.records.set 0 ⟨12, .valid, none⟩ } }).eeprom.queue = [] ∧
    (after (.serviceReset 0) (at' .run)).eeprom.queue = [.service] := by decide

theorem test_second_end_midnight :
    (after .secondEnd { at' .run with time := { State.reset.time with ms := 1000, seconds := 86399, days := 65535 } }).time
      = { State.reset.time with dayEnds := 1 } := by decide

/-- R1: a tick that finds SPD's pin low after an edge makes the change back pending, and the change is accepted 10 counts
on; INJ's pending change is discarded by a tick that finds the pin back. -/
theorem test_tick_pending :
    let s := after (.tick 0 true 4) (after (.spdEdge 100) (at' .run))
    s.time.fref = 256 ∧ s.pulse.spd.pending = some 256 ∧ s.pulse.spd.accepted = true ∧
    (after (.tacEdge 9) s).pulse.spd.accepted = true ∧ (after (.tacEdge 10) s).pulse.spd.accepted = false ∧
    s.pulse.inj.pending = some 256 ∧
    (after (.tick 0 true 0) s).pulse.inj.pending = none := by decide

/-- IGN's debounce of 50 ms: the 50th differing sample turns the level. -/
theorem test_tick_ign_debounce :
    (after (.tick 0 true 0) { at' .awakeOff with discretes :=
      { State.reset.discretes with ign := ⟨false, 49, true⟩ } }).discretes.ign = ⟨true, 0, true⟩ := by decide

theorem test_discrete_change_wakes :
    (after (.discreteChange 3) { at' .asleep with discretes := { State.reset.discretes with
      inputs := State.reset.discretes.inputs.set 3
        { Discrete.initial with activeHigh := true, wake := true, pin := true, due := true } } }).notices =
      [⟨.power, 0x0201⟩] := by decide

theorem test_freshness_expiry_stale :
    (after (.freshnessExpiry 0) { at' .run with channels := { ChannelTable.initial with
      records := ChannelTable.initial.records.set 11 ⟨136, .valid, none⟩,
      freshness := ChannelTable.initial.freshness.set 0 ⟨10, some 0⟩ } }).channels.records[11] =
      ⟨136, .stale, none⟩ := by decide

/-- 2.7: Channel Put 11, 135 with a freshness of 10. -/
theorem test_channel_put_freshness :
    let t := after (.channelPut 11 135) { at' .run with channels := { ChannelTable.initial with
      freshness := ChannelTable.initial.freshness.set 0 ⟨10, none⟩ } }
    t.channels.freshness[0].timer = some 1000 ∧ t.notices = [⟨.channel 11, 0⟩] := by decide

theorem test_linger_expiry :
    (after .lingerExpiry { at' .awakeOff with power := { (at' .awakeOff).power with linger := .running 0 } }).power.linger
      = .expired := by decide

/-- A part right for sleep. -/
def sleepy : State := { at' .awakeOff with power := { (at' .awakeOff).power with linger := .expired } }

theorem test_asleep_entry : (after .asleepEntry sleepy).power.state = .asleep := by decide

/-- INIT ends in ASLEEP with IGN inactive and the link idle; the STARTUP notice carries clock-lost. -/
theorem test_init_end :
    (after (.initEnd {}) (after .resetnRelease State.reset)).power.state = .asleep ∧
    (after (.initEnd {}) (after .resetnRelease State.reset)).notices = [⟨.startup, 15⟩] := by decide

/-- INIT ends in RUN 40 counts into a tick that found INJ low, with the pin now high: it falls, and counts open from then
(R1, R2, R9). -/
def firstRun : State := after (.initEnd ⟨40, 4⟩) { keyOn with power := { keyOn.power with state := .init } }

theorem test_init_end_takes_present_level :
    firstRun.pulse.inj.accepted = true ∧
    (after (.injLevelChange 60) firstRun).pulse.inj.accepted = false ∧
    (after (.injLevelChange 90) (after (.injLevelChange 60) firstRun)).pulse.onTime = 30 := by decide

theorem test_power_on_reset_samples :
    (after (.powerOnReset 8 true 0 true true) (at' .run)).discretes.inputs[3].level = true ∧
    (after (.powerOnReset 8 true 0 true true) (at' .run)).drum.state = .idle := by decide

theorem test_inj_level_change :
    (after (.injLevelChange 5) { at' .run with pulse := { PulseUnit.initial with onTime := 10 } }).pulse.onTime = 15 := by
  decide

theorem test_sync_pulse_end :
    (after .syncPulseEnd { at' .run with gauge := { GaugeUnit.initial with syncPulse := some 0 } }).gauge.syncPulse =
      none := by decide

/-- The characters of Notice Fetch, 10.7: 0xA7, 1, 0x02, 0xFD. -/
theorem test_characters_fetch :
    ([0xA7, 1, 2, 0xFD].foldl (fun s c => after (.characterReceived c true {}) s) (at' .run)).link.reply =
      some (frameBytes 0x82 [0, 0, 0]) := by decide

theorem test_gap_timeout :
    (after .characterGapTimeout { at' .run with link := { State.reset.link with
      assembler := .count, gap := 20 } }).link.assembler = .hunt := by decide

/-- 10.7 at 38.3 ms: at the end of a reply the oldest waiting frame is taken. -/
theorem test_reply_end_serves :
    (after (.replyEnd {}) { at' .run with link := { State.reset.link with
      reply := some [0xA7], queue := [⟨2, [], true, false⟩] } }).link.reply = some (frameBytes 0x82 [0, 0, 0]) := by decide

/-! ### Requests -/

/-- Status Read: RUN, no flags, no straps, part 0x4810, revision 1, empty queues. -/
theorem test_status_read :
    replyData (after .statusRead (at' .run)) = [2, 0, 0, 0x48, 0x10, 1, 0, 0, 0, 0] := by decide

theorem test_notice_fetch :
    replyData (after .noticeFetch { at' .run with notices := [⟨.trip, 860⟩] }) = [1, 0, 9, 0, 0x03, 0x5C] := by decide

set_option maxRecDepth 4000 in
theorem test_soft_restart_keeps_total :
    (after (.softRestart {}) { ranging with accum := { Accumulators.initial with total := 5 } }).accum.total = 5 ∧
    (after (.softRestart {}) ranging).curves[0] = [] := by decide

theorem test_vehicle_constants_read :
    replyData (after .vehicleConstantsRead (at' .run)) = [0x13, 0x88, 0x23, 0x28, 6, 0, 150, 60, 1, 0] := by decide

theorem test_eeprom_read :
    replyData (after (.eepromRead 30 1) { at' .run with
      eeprom := { memory := [(30, 42405)], queue := [], flight := none } })
      = [0xA5, 0xA5] := by decide

theorem test_eeprom_write_host_area :
    (after (.eepromWrite 49 1) (at' .run)).eeprom.queue = [] ∧
    (after (.eepromWrite 50 1) (at' .run)).eeprom.queue = [.host 50 1] := by decide

theorem test_curve_load :
    (after (.curveLoad 6 2 [(0, 64), (2600, 960)]) (at' .run)).curves[6] = [(0, 64), (2600, 960)] ∧
    (after (.curveLoad 6 2 [(5, 64), (5, 960)]) (at' .run)).curves[6] = [] := by decide

theorem test_curve_read :
    replyData (after (.curveRead 6) { at' .run with curves := Vector.replicate 12 [(0, 64), (2600, 960)] }) =
      [2, 0, 0, 0, 64, 0x0A, 0x28, 0x03, 0xC0] := by decide

theorem test_analog_input_configure :
    (after (.analogInputConfigure 5 11 20 1000 1 0 0) (at' .run)).sampler.inputs[5].curve = some 11 ∧
    (after (.analogInputConfigure 5 11 1000 1000 1 0 0) (at' .run)).sampler.inputs[5].curve = none := by decide

theorem test_pulse_input_configure :
    (after (.pulseInputConfigure 1 0 7 0 {}) (at' .run)).pulse.tacWindow.loss = 64000 ∧
    (after (.pulseInputConfigure 1 0 7 0 {}) (at' .run)).pulse.tac.selection = true := by decide

/-- R3: INJ, low at the tick and high when its filter restarts at 100, is open up to 100 and falls at 201; SPD, restarted
with its pin low at 40, takes the edge of a rise at 41. -/
theorem test_restart_takes_present_level :
    (let s := after (.injLevelChange 201) (after (.pulseInputConfigure 2 0 0 0 ⟨100, 4⟩) (at' .run))
     s.pulse.onTime = 100 ∧ s.pulse.inj.accepted = false) ∧
    (after (.spdEdge 51) (after (.pulseInputConfigure 0 1 0 0 ⟨40, 0⟩)
      { at' .run with pulse := { PulseUnit.initial with
          spd := { PulseUnit.initial.spd with selection := true, accepted := true, pin := true } } })).pulse.spdWindow.n
      = 1 := by decide

theorem test_discrete_input_configure :
    (after (.discreteInputConfigure 11 1 5 1) (at' .run)).discretes.inputs[11].debounce = 5 ∧
    (after (.discreteInputConfigure 11 1 4 1) (at' .run)).discretes.inputs[11].debounce = 20 := by decide

/-- 2.6 at 4.0 s and 0 s: both faces of BATTERY under a hold of 100. -/
theorem test_channel_read_faces :
    replyData (after (.channelRead 5 1) { at' .run with channels := { ChannelTable.initial with
      records := ChannelTable.initial.records.set 5 ⟨138, .valid, some 100⟩ } }) = [5, 0, 138, 0, 0, 100, 1] := by decide

theorem test_channel_hold_in_run_only :
    (after (.channelHold 5 900) (at' .run)).channels.records[5].hold = some 900 ∧
    (after (.channelHold 5 900) (at' .awakeOff)).channels.records[5].hold = none := by decide

theorem test_channel_release :
    (after (.channelRelease 5) { at' .run with channels := { ChannelTable.initial with
      records := ChannelTable.initial.records.set 5 ⟨139, .valid, some 100⟩ } }).channels.records[5].hold = none := by
  decide

/-- 2.7 at 9000 ms: withdraw makes the channel ABSENT and stops its timer. -/
theorem test_external_channel_withdraw :
    (after (.externalChannelConfigure 11 0 1) { at' .run with channels := { ChannelTable.initial with
      records := ChannelTable.initial.records.set 11 ⟨137, .valid, none⟩ } }).channels.records[11] =
      ⟨137, .absent, none⟩ := by decide

theorem test_discrete_read :
    replyData (after .discreteRead { at' .run with discretes := { State.reset.discretes with
      ign := ⟨true, 0, false⟩ } }) = [0x1F, 0xFF, 0, 0] := by decide

/-- R95: an r_hi below r_lo is stored as r_lo. -/
theorem test_gauge_configure :
    (after (.gaugeConfigure 0 ⟨0, 6, 64, 0, 16, 3, 16, 8, 1⟩ 65535) (at' .run)).gauge.gauges[0].config.rHi = 16 := by
  decide

theorem test_gauge_read_length : (replyData (after (.gaugeRead 5) (at' .run))).length = 32 := by decide

theorem test_monitor_configure :
    (after (.monitorConfigure 2 coolantFields) (at' .run)).monitor.monitors[2].state = .clear ∧
    (after (.monitorConfigure 2 { coolantFields with q1Kind := 3, q1Index := 2 })
      (at' .run)).monitor.monitors[2].state = .off := by decide

theorem test_monitor_read_settings :
    (replyData (after (.monitorRead 2 0) (coolant Monitor.initial 0))).length = 27 := by decide

theorem test_monitor_clear_snapshot :
    (after (.monitorClearSnapshot 255)
      (coolant { Monitor.initial with snapshot := some ⟨1, 2, .valid⟩ } 0)).monitor.monitors[2].snapshot = none := by decide

theorem test_pattern_load :
    (after (.patternLoad 8 1 [(4, 1)]) (at' .run)).chime.loaded[0] = [⟨4, 1⟩] ∧
    (after (.patternLoad 8 1 [(5, 1)]) (at' .run)).chime.loaded[0] = [] := by decide

theorem test_chime_read : (replyData (after (.chimeRead 0) playing)).take 4 = [1, 2, 4, 0] := by decide

theorem test_lamp_configure : (after (.lampConfigure 11) (at' .run)).lamp.dimming = some 11 := by decide

/-- R134: during the bulb check every lamp reads ON. -/
theorem test_lamp_read_bulb_check : (replyData (after (.lampRead 0) dimmed)).take 12 = List.replicate 12 1 := by decide

/-- 4.5: 150, 833 and 469 for 31,250 DU, 46,875 mL and 13,500 s. -/
theorem test_trip_read_figures :
    ((replyData (after (.tripRead 0) { at' .run with trip := { TripComputer.initial with
      a := ⟨31250, 46875, 13500, false, false⟩ } })).drop 13) = [0x03, 0x41, 0, 150, 0, 0, 0x01, 0xD5] := by decide

theorem test_trip_reset_keeps_paused :
    (after (.tripReset 2) { at' .run with trip := { TripComputer.initial with
      b := ⟨4100, 6920, 2350, true, true⟩ } }).trip.b = ⟨0, 0, 0, true, false⟩ := by decide

theorem test_trip_control : (after (.tripControl 2 0 24) (at' .run)).trip.a.paused = true := by decide

theorem test_odometer_read :
    replyData (after .odometerRead rolling) = [0, 0, 0, 0, 5, 0, 0, 0, 0, 1, 0x05, 0xF5, 0xE0, 0x9C] := by decide

theorem test_drum_read : replyData (after .drumRead drumming) = [2, 0, 37, 0, 0, 3, 1, 0, 23, 1] := by decide

/-- 3.9: Drum Restart in FAULT with a debt of 211 brings STEPPING, coils energised, index-known no. -/
theorem test_drum_restart :
    let t := after .drumRestart { drumming with drum := { drumming.drum with state := .fault, debt := 211, missCount := 2,
                                                                             coils := false } }
    t.drum.state = .stepping ∧ t.drum.coils = true ∧ t.drum.missCount = 0 ∧ t.drum.clock = 0 := by decide

theorem test_service_configure :
    (after (.serviceConfigure 0 (oil 0 0).config) (at' .run)).service[0].state = .ok ∧
    (after (.serviceConfigure 0 { (oil 0 0).config with km := 499 }) (at' .run)).service[0].state = .disabled := by decide

theorem test_service_read_length : (replyData (after (.serviceRead 5) (at' .run))).length = 34 := by decide

/-! ## Witnesses: states and operands that meet the hypotheses of each statement -/

/-- A part in RUN whose IGN has gone inactive and whose next command is RUN exit. -/
def leaving : State := { armed with discretes := State.reset.discretes, pending := [.runExit true] }

theorem witness_StepTakesFrontCommand :
    leaving.pending = .runExit true :: [] ∧ State.reset.pending = [] := by decide

theorem witness_HeldPartStandsStill :
    State.reset.power.state = .held ∧
    (∀ di ign pulse lrate drumfit, Instr.runEntry {} ≠ .powerOnReset di ign pulse lrate drumfit) ∧
    Instr.runEntry {} ≠ .resetnRelease := ⟨rfl, nofun, nofun⟩

set_option maxRecDepth 4000 in
theorem witness_NoticeQueueLaw :
    leaving.noticesDistinct ∧ step leaving = .next (stepped leaving) ∧
    (∀ n ∈ leaving.notices, n.key ≠ .drum) ∧ leaving.notices = [] ++ (⟨.power, 2⟩ : Notice) :: [] := by
  refine ⟨by unfold State.noticesDistinct; decide, rfl, by decide, by decide⟩

/-- An SPD edge that brings a DU at the odometer's top. -/
def rollingOver : State := { edges with pending := [.spdEdge 0] }

theorem witness_ResidueLaw : rollingOver.residuesSound ∧ step rollingOver = .next (stepped rollingOver) := by
  refine ⟨by unfold State.residuesSound State.constantsSound; decide, rfl⟩

theorem witness_OdometerLaw :
    rollingOver.accum.total ≤ 99999999 ∧ step rollingOver = .next (stepped rollingOver) ∧
    (∀ di ign pulse lrate drumfit,
      rollingOver.pending.head? ≠ some (.powerOnReset di ign pulse lrate drumfit)) ∧
    rollingOver.pending.head? ≠ some .resetnRelease := by
  refine ⟨by decide, rfl, ?_, ?_⟩ <;> simp [rollingOver]

theorem witness_SleepLaw :
    { sleepy with pending := [.asleepEntry] }.sleepSound ∧
    step { sleepy with pending := [.asleepEntry] } = .next (stepped { sleepy with pending := [.asleepEntry] }) := by
  refine ⟨by unfold State.sleepSound State.quiet; decide, rfl⟩

/-- A playing request whose step ends. -/
def sounding : State := { playing with pending := [.chimeStepEnd] }

theorem sounding_chimeSound : sounding.chimeSound := by
  refine ⟨by decide, by decide, ?_, by decide⟩
  exact ⟨fun _ => ⟨_, List.mem_cons_self, rfl⟩, fun _ => ⟨_, _, _, rfl⟩⟩

theorem witness_ChimeQueueLaw : sounding.chimeSound ∧ step sounding = .next (stepped sounding) :=
  ⟨sounding_chimeSound, rfl⟩

/-- M4 ACTIVE with its request playing, and nothing else warning. -/
def warned : State :=
  { sounding with
      chime := { sounding.chime with queue := [⟨4, 5, 3, 2, true, false, .none⟩] },
      monitor := { monitors := (Vector.replicate 16 Monitor.initial).set 4 { Monitor.initial with state := .active },
                   clock := some 0 } }

theorem witness_WarningActionsLaw :
    warned.chimeSound ∧ warned.warningsSound ∧ step warned = .next (stepped warned) := by
  refine ⟨⟨by decide, by decide, ?_, by decide⟩, by unfold State.warningsSound ChimeRequest.leaving; decide, rfl⟩
  exact ⟨fun _ => ⟨_, List.mem_cons_self, rfl⟩, fun _ => ⟨_, _, _, rfl⟩⟩

/-- The oil item of 8.3.1 one day short of EARLY. -/
def ageing : State :=
  { at' .run with
      service := (Vector.replicate 6 ServiceItem.initial).set 0 { oil 0 328 with state := .ok },
      time := { State.reset.time with dayEnds := 1 }, pending := [.dayEnd] }

theorem witness_ServiceStateLaw :
    ageing.serviceSound ∧ step ageing = .next (stepped ageing) ∧
    (stepped ageing).service[0].config = ageing.service[0].config ∧
    ageing.service[0].sinceDu ≤ (stepped ageing).service[0].sinceDu ∧
    ageing.service[0].sinceDays ≤ (stepped ageing).service[0].sinceDays ∧
    ageing.service[0].sinceKr ≤ (stepped ageing).service[0].sinceKr := by
  refine ⟨by unfold State.serviceSound; decide, rfl, by decide, by decide, by decide, by decide⟩

/-- The tachometer at the start of its rise, its motion step next. -/
def rise : State := { tachometer 1600 0 with pending := [.gaugeMotionStep] }

theorem witness_GaugeMotionLaw :
    rise.gaugesSound ∧ step rise = .next (stepped rise) ∧
    ∀ di ign pulse lrate drumfit, rise.pending.head? ≠ some (.powerOnReset di ign pulse lrate drumfit) := by
  refine ⟨⟨by unfold Gauge.sound; decide, by decide, by decide⟩, rfl, by simp [rise]⟩

/-- An SPD edge whose DU is the fifth, with the debt at `debt`. -/
def fifth (debt : Nat) : State :=
  { rollingOver with accum := { rollingOver.accum with rs := 4 }, drum := { drumming.drum with debt := debt } }

/-- A step taken, a step owed, and a step lost. -/
theorem witness_DrumLaw :
    { drumming with pending := [.drumStep] }.drumSound ∧
    step { drumming with pending := [.drumStep] } = .next (stepped { drumming with pending := [.drumStep] }) ∧
    (fifth 65534).drumSound ∧ step (fifth 65534) = .next (stepped (fifth 65534)) ∧
    (fifth 65535).drumSound ∧ step (fifth 65535) = .next (stepped (fifth 65535)) ∧
    (fifth 65535).drum.state ≠ .absent ∧ (stepped (fifth 65535)).accum.total ≠ (fifth 65535).accum.total ∧
    (∀ di ign pulse lrate drumfit,
      (fifth 65535).pending.head? ≠ some (.powerOnReset di ign pulse lrate drumfit)) := by
  refine ⟨by unfold State.drumSound; decide, rfl, by unfold State.drumSound; decide, rfl,
    by unfold State.drumSound; decide, rfl, by decide, by decide, ?_⟩
  simp [fifth, rollingOver]

theorem witness_PresentedRangeLaw :
    let s := { ranging with pending := [.tripSecond] }
    step s = .next (stepped s) ∧ s.trip.presented = some 265 ∧ (stepped s).trip.presented = some 266 ∧
    s.measured 0 ≠ (0, .valid) := by
  refine ⟨rfl, by decide, by decide, by decide⟩

theorem witness_EepromKept :
    let s := { timedOut with pending := [.eepromWordComplete] }
    s.eepromSound ∧ step s = .next (stepped s) ∧
    ∀ (f : Flight) (w : Word) (rest : List (Nat × Word)), s.eeprom.flight = some f → f.words ≠ (29, w) :: rest := by
  refine ⟨⟨by decide, nofun, ?_, nofun⟩, rfl, ?_⟩
  · intro f h
    cases h
    simp [inEeprom, Config.eepromWords]
  · intro f w rest h
    cases h
    simp

theorem witness_PowerOnResetResult :
    State.reset.eeprom.flight = none ∧
    timedOut.eeprom.flight = some { kind := .odometer 7 0, words := (30, 42405) :: [], wait := 25 } := by decide

/-- A part held in reset above the ring of 3.6. -/
def ringed : State := { State.reset with eeprom := { memory := ring, queue := [], flight := none } }

theorem witness_ReleaseReadsTheEeprom :
    leaving.power.state ≠ .held ∧ ringed.power.state = .held ∧
    newestRecord ringed.eeprom.memory = some (5, 99999800) ∧ newestRecord State.reset.eeprom.memory = none := by decide

/-- 3.6 and R49: the record of slot 5 has no newer; in an empty ring no slot holds a valid record. -/
theorem witness_NewestRingRecord :
    newer 99999800 99999700 = true ∧ ringRecord ring 5 = some 99999800 ∧
    (∀ j : Fin 8, ∀ w ∈ ringRecord ring j, newer w 99999800 = false) ∧ newestRecord [] = none := by decide

/-- INIT after the release of RESETN, with IGN as given. -/
def starting (ign : Bool) : State :=
  { after .resetnRelease State.reset with discretes := { State.reset.discretes with ign := ⟨ign, 0, ign⟩ } }

theorem witness_InitEndResult :
    leaving.power.state ≠ .held ∧ leaving.power.state ≠ .init ∧
    (starting false).power.state = .init ∧ (starting false).discretes.ign.level = false ∧
    (starting false).link.queue = [] ∧ (starting false).link.reply = none ∧
    (starting true).power.state = .init ∧ (starting true).discretes.ign.level = true ∧
    { starting false with link := { State.reset.link with reply := some [0xA7] } }.link.reply ≠ none := by decide

theorem witness_RunEntryResult :
    keyOn.power.state = .awakeOff ∧ keyOn.discretes.ign.level = true ∧
    { keyOn with power := { keyOn.power with state := .asleep } }.power.state = .asleep ∧
    (at' .asleep).discretes.ign.level = false := by decide

theorem witness_RunExitResult :
    leaving.power.state = .run ∧ leaving.discretes.ign.level = false ∧ (at' .awakeOff).power.state = .awakeOff ∧
    leaving.gauge.sweep.isOpen = true ∧
    exitNotice (coolant { Monitor.initial with state := .releasing } 0) 2 := by
  decide

set_option maxRecDepth 4000 in
/-- INST_CONSUMPTION becomes ABSENT at RUN exit. -/
theorem witness_RunExitResult_channel :
    let s : State := { flowing with channels := (after (.windowClose true) flowing).channels }
    validityChanged s (after (.runExit true) s) 9 := by decide

/-- The last second of a day in RUN, with a day end waiting. -/
def midnight (seconds : Nat) : State :=
  { at' .run with time := { State.reset.time with ms := 1000, seconds := seconds, dayEnds := 1 } }

theorem witness_CalendarResult :
    (midnight 86398).power.state ≠ .held ∧ (at' .run).time.ms < 1000 ∧ 1000 ≤ (midnight 86398).time.ms ∧
    (midnight 86398).time.seconds + 1 < 86400 ∧ 86400 ≤ (midnight 86399).time.seconds + 1 ∧
    (at' .run).time.dayEnds = 0 ∧ 0 < (midnight 86399).time.dayEnds ∧ serviceChanged ageing (after .dayEnd ageing) 0 := by
  decide

theorem witness_TickResult : leaving.power.state ≠ .held := by decide

theorem witness_TimersRunOut :
    let fresh : Freshness := ⟨10, some 0⟩
    let s : State := { sleepy with channels := { ChannelTable.initial with
      freshness := ChannelTable.initial.freshness.set 0 fresh } }
    s.power.state ≠ .held ∧ s.channels.freshness[0].timer = some 0 ∧ s.channels.records[11].validity ≠ .stale ∧
    s.channels.freshness[1].timer ≠ some 0 ∧ sleepConditions s ∧
    ({ s with power := { s.power with linger := .running 0 } }.power.linger = .running 0) ∧
    ¬ sleepConditions (at' .run) := by
  unfold sleepConditions
  decide

/-- DI3 about to change, in a power state. -/
def changing (p : PowerState) (wake : Bool) : State :=
  { at' p with discretes := { State.reset.discretes with
      inputs := State.reset.discretes.inputs.set 3
        { Discrete.initial with activeHigh := true, wake := wake, pin := true, due := true } } }

theorem witness_DiscreteChangeResult :
    (at' .run).discretes.inputs[3].due = false ∧ (changing .awakeOff true).discretes.inputs[3].due = true ∧
    (changing .awakeOff true).power.state = .awakeOff ∧ (changing .asleep true).discretes.inputs[3].wake = true ∧
    (!(changing .asleep true).discretes.inputs[3].level) = (changing .asleep true).discretes.inputs[3].activeHigh ∧
    (changing .asleep false).discretes.inputs[3].wake = false ∧ (changing .run true).power.state = .run := by decide

/-- At the boundary: r_d + 100 one below K_vss, and equal to it. -/
theorem witness_SpdEdgeResult :
    let s := fun rd => { at' .run with accum := { Accumulators.initial with rd := rd } }
    (s 4899).power.state = .run ∧ (s 4899).accum.rd + 100 < (s 4899).consts.kvss ∧
    (s 4900).consts.kvss ≤ (s 4900).accum.rd + 100 ∧ (at' .awakeOff).power.state ≠ .run ∧
    (at' .awakeOff).power.state ≠ .held ∧
    (let p := (after (.spdEdge 100) edges).pulse.spd
     edgeDelay p 119 = 1 ∧ edgeDelay p 120 = 0) ∧
    (let ticked := fun sub => (after (.tick 0 true 1) (after (.spdEdge sub) (s 0))).pulse.spd
     edgeDelay (ticked 100) 256 = 0 ∧ edgeDelay (ticked 246) 256 = 10 ∧ edgeDelay (ticked 247) 256 = 20) ∧
    (let low := after (.tick 0 true 0) (s 0)
     edgeDelay (broughtTo low 9).pulse.spd (broughtTo low 9).now = 1) ∧
    edgeDelay (broughtTo (s 4899) 0).pulse.spd 0 = 0 ∧ edgeDelay (broughtTo (s 4900) 0).pulse.spd 0 = 0 := by decide

theorem witness_TacEdgeResult :
    let s := fun rr => { at' .run with accum := { Accumulators.initial with rr := rr } }
    (s 5998).power.state = .run ∧ (s 5998).accum.rr + 1 < (s 5998).consts.ppr * 1000 ∧
    (s 5999).consts.ppr * 1000 ≤ (s 5999).accum.rr + 1 ∧ edgeDelay (broughtTo (s 5998) 0).pulse.tac 0 = 0 ∧
    edgeDelay (broughtTo (s 5999) 0).pulse.tac 0 = 0 ∧ (at' .awakeOff).power.state ≠ .run ∧
    edgeDelay (after (.tacEdge 0) (s 0)).pulse.tac 19 = 1 := by decide

/-- A drum with its index known at position `p` after `misses` misses. -/
def indexed (p misses : Nat) : State :=
  { drumming with drum := { drumming.drum with p := p, missCount := misses } }

theorem witness_InjAndIdxEdges :
    (indexed 1 0).power.state = .run ∧ (at' .asleep).awake = false ∧ (indexed 1 0).awake = true ∧
    (at' .run).drum.state = .absent ∧ (indexed 1 0).drum.state = .stepping ∧ (indexed 1 0).drum.indexKnown = true ∧
    (indexed 19 0).drum.p = 19 ∧ (indexed 2 1).drum.p = 2 ∧ (indexed 2 1).drum.missCount < 2 ∧
    2 ≤ (indexed 18 2).drum.missCount ∧
    { indexed 0 0 with drum := Drum.initial true }.drum.indexKnown = false ∧
    changeDelay (at' .run).pulse.inj 1 0 = 0 ∧ changeDelay (after (.injLevelChange 0) (at' .run)).pulse.inj 1 9 = 1 ∧
    (let s := after (.tick 0 true 0) (after .idxEdge (at' .run))
     edgeDelay s.pulse.idx s.now = 10 ∧
     edgeDelay { s.pulse.idx with stood := some (s.time.fref - 4) } s.now = 16 ∧
     edgeDelay { s.pulse.idx with stood := some (s.time.fref + 255) } s.now = 275) := by decide

/-- A window that closes with the given edges, 31,400 counts after its reference, P_prev 19,200 (1.3). -/
def closing (w : Window) : State :=
  { steady with pulse := { steady.pulse with spdWindow := w }, time := { steady.time with fref := 31400 } }

theorem witness_WindowCloseSpeeds :
    let bare : Window := { Window.initial with tRef := some 0, pPrev := some 19200 }
    let s := closing bare
    s.power.state = .run ∧ 100 ≤ s.pulse.windowClock ∧ 0 < s.consts.kvss ∧ 0 < s.consts.ppr ∧
    s.pulse.spdWindow.overrun = false ∧ s.pulse.spdWindow.n = 0 ∧ s.pulse.spdWindow.tRef = some 0 ∧
    (s.now - 0).toNat ≤ s.pulse.spdWindow.loss ∧ 19200 < (s.now - 0).toNat ∧
    s.pulse.tacWindow.n = 6 ∧ s.pulse.tacWindow.tLast = some 51200 ∧ s.pulse.tacWindow.tRef = some 25600 ∧
    0 < ((51200 : Stamp) - 25600).toNat ∧
    (closing { bare with loss := 31399 }).pulse.spdWindow.loss < (s.now - 0).toNat ∧
    (closing { bare with overrun := true }).pulse.spdWindow.overrun = true ∧
    (closing { bare with tRef := none }).pulse.spdWindow.tRef = none := by decide

theorem witness_WindowCloseFuel :
    flowing.power.state = .run ∧ 100 ≤ flowing.pulse.windowClock ∧ (at' .run).pulse.windowClock < 100 ∧
    flowing.channels.records[9].validity = .absent := by decide

/-- Input A0 with a conversion due and channel 2 at the given validity. -/
def sampling (a : AnalogInput) (v : Validity) : State :=
  { filtering with
      sampler := { filtering.sampler with inputs := filtering.sampler.inputs.set 0 { a with due := true } },
      channels := { filtering.channels with records := filtering.channels.records.set 2 ⟨300, v, none⟩ } }

/-- The raw limits themselves, 0 and 1023, are out of range (R12), and 1 and 1022 are in range. -/
theorem witness_AnalogSampleResult :
    let a := { filtering.sampler.inputs[0] with decimation := 5, outCount := 3, inCount := 3 }
    let s := sampling a .valid
    s.power.state = .run ∧ s.sampler.inputs[0].due = true ∧ s.channels.records[2].validity ≠ .fault ∧
    (0 : BitVec 10).toNat ≤ s.sampler.inputs[0].low ∧ s.sampler.inputs[0].high ≤ (1023 : BitVec 10).toNat ∧
    ¬ ((1 : BitVec 10).toNat ≤ s.sampler.inputs[0].low) ∧ ¬ (s.sampler.inputs[0].high ≤ (1022 : BitVec 10).toNat) ∧
    s.sampler.inputs[0].outCount < 4 ∧ s.sampler.inputs[0].count + 1 < s.sampler.inputs[0].decimation ∧
    4 ≤ (sampling { a with outCount := 4, inCount := 4 } .fault).sampler.inputs[0].outCount ∧
    4 ≤ (sampling { a with outCount := 4, inCount := 4 } .fault).sampler.inputs[0].inCount ∧
    (sampling a .fault).channels.records[2].validity = .fault ∧
    s.curveOf s.sampler.inputs[0].curve ≠ [] ∧ s.curveOf (none : Option (Fin 12)) = [] ∧
    (at' .run).sampler.inputs[0].due = false := by decide

theorem witness_FilterUpdateResult :
    let s := filtering
    s.power.state = .run ∧ s.sampler.inputs[0].due = true ∧ s.channels.records[2].validity ≠ .fault ∧
    s.sampler.inputs[0].low < (512 : BitVec 10).toNat ∧ (512 : BitVec 10).toNat < s.sampler.inputs[0].high ∧
    s.sampler.inputs[0].decimation ≤ s.sampler.inputs[0].count + 1 ∧
    curveAt (s.curveOf s.sampler.inputs[0].curve) 512 = some 280 ∧ curveAt (s.curveOf none) 512 = none := by decide

theorem witness_CurveEvaluation :
    let c : Curve := [(40, 900), (300, 500), (700, 120), (960, 0)]
    rising c = true ∧ c ≠ [] ∧ c = (40, 900) :: [(300, 500), (700, 120), (960, 0)] ∧ 40 ≤ 40 ∧
    c = [(40, 900), (300, 500), (700, 120)] ++ [(960, 0)] ∧ 960 ≤ 960 ∧
    c = [(40, 900)] ++ (300, 500) :: (700, 120) :: [(960, 0)] ∧ 300 ≤ 300 ∧ 699 < 700 := by decide

theorem witness_TripSecondResult :
    ranging.power.state = .run ∧ ranging.trip.clock = some 1000 ∧ (at' .run).trip.clock = none ∧
    ranging.channels.records[2].validity = .valid ∧ (at' .run).channels.records[2].validity = .absent := by decide

theorem witness_GaugeMotionStep :
    (tachometer 1600 0).power.state ≠ .held ∧ (at' .run).gauge.clock < 10 ∧ 10 ≤ (tachometer 1600 0).gauge.clock ∧
    (tachometer 1600 0).gauge.gauges[0].mode = .parked ∧ (tachometer 1600 0).gauge.gauges[2].mode = .tracking ∧
    (tachometer 1600 0).curveOf (some 7) ≠ [] := by decide

theorem witness_BrakingAndCoilDrive :
    (0 < 16) ∧ 16 ≤ 16 ∧ 16 < 96 ∧ 96 ≤ 16 + 5 * 16 ∧ (∀ k : Nat, k < 5 → 16 + k * 16 < 96) ∧
    0 < (coilAt 256).duty ∧ (coilAt 0).duty = 0 ∧ 0 < (coilAt 384).duty ∧ 384 ≤ 512 := by decide

/-- The sweep of 5.11 with its delay and timeout at 0 and its pulse at its end. -/
def sweeping : State :=
  { armed with gauge := { armed.gauge with
      syncPulse := some 0, sweep := { armed.gauge.sweep with delayTimer := some 0, timeout := some 0 } } }

theorem witness_SweepEvents :
    sweeping.power.state = .run ∧ sweeping.gauge.sweep.delayTimer = some 0 ∧ sweeping.gauge.sweep.timeout = some 0 ∧
    sweeping.gauge.syncPulse = some 0 ∧ (∃ k : Fin 6, sweeping.gauge.gauges[k].mode = .armed) ∧
    ¬ (∃ k : Fin 6, (at' .run).gauge.gauges[k].mode = .armed) ∧ (at' .run).gauge.sweep.delayTimer ≠ some 0 ∧
    edgeDelay armed.gauge.sync armed.now = 10 ∧ armed.gauge.syncPulse = none ∧
    edgeDelay { armed.gauge.sync with stood := some (armed.now + 245) } armed.now = 255 ∧
    edgeDelay { armed.gauge.sync with stood := some (armed.now + 246) } armed.now = 256 ∧
    pulsing.gauge.syncPulse ≠ none ∧ pulsing.gauge.sync.accepted ≠ pulsing.gauge.sync.selection ∧
    (after .sweepStart armed).gauge.sync.accepted = (after .sweepStart armed).gauge.sync.selection := by decide

theorem witness_MonitorRawCondition :
    let s := coolant { Monitor.initial with state := .clear, due := true } 160
    s.power.state = .run ∧ s.monitor.monitors[2].due = true ∧ s.monitor.monitors[2].assertTimer ≠ some 0 ∧
    s.monitor.monitors[2].releaseTimer ≠ some 0 ∧ s.monitor.monitors[2].reminderTimer ≠ some 0 ∧
    s.monitor.monitors[2].config.enabled ≠ 0 ∧ s.monitor.monitors[2].config.srcKind = 0 ∧
    s.monitor.monitors[2].config.q1Kind = 0 ∧ s.monitor.monitors[2].config.q2Kind = 0 ∧
    (s.channels.records[3].presented).2 = .valid ∧ s.monitor.monitors[2].config.method = 0 ∧
    s.monitor.monitors[0].due = false := by decide

theorem witness_MonitorStates :
    let s := fun m : Monitor => coolant { m with due := true }
    let clear := s { Monitor.initial with state := .clear } 161
    clear.monitor.monitors[2].due = true ∧ clear.monitor.monitors[2].expiring = false ∧
    clear.monitor.monitors[2].config.enabled ≠ 0 ∧ clear.admits clear.monitor.monitors[2] = true ∧
    clear.rawOf clear.monitor.monitors[2] = some true ∧
    (let pending := s { Monitor.initial with state := .pending, assertTimer := some 1 } 155
     pending.rawOf pending.monitor.monitors[2] = some false) ∧
    (let active := s { Monitor.initial with state := .active, raw := true } 156
     active.rawOf active.monitor.monitors[2] = some true) ∧
    (let released := s { Monitor.initial with state := .releasing, raw := true } 155
     released.rawOf released.monitor.monitors[2] = some false) ∧
    (clear.monitor.monitors[2].config.srcKind = 0 ∧ (3 : Fin 16).val = coolantFields.srcIndex.toNat) ∧
    (let m : Monitor := { Monitor.initial with config := { monitorDefaults with srcKind := 1, srcIndex := 11 } }
     m.config.srcKind ≠ 0 ∧ (11 : Fin 12).val = m.config.srcIndex.toNat) := by decide

theorem witness_MonitorExpiries :
    let s := fun m : Monitor => coolant m 161
    (s { Monitor.initial with state := .pending, assertTimer := some 0 }).monitor.monitors[2].assertTimer = some 0 ∧
    (s { Monitor.initial with state := .releasing, releaseTimer := some 0 }).monitor.monitors[2].state = .releasing ∧
    (s { Monitor.initial with state := .active, reminderTimer := some 0 }).monitor.monitors[2].state = .active ∧
    (s Monitor.initial).power.state = .run ∧ (s Monitor.initial).monitor.monitors[2].state = .off := by decide

theorem witness_ChimeSequence :
    playing.power.state ≠ .held ∧ sounding.chimeSound ∧
    playing.chime.sequencer = .playing [⟨1, 10⟩] 0 0 ∧
    playing.chime.queue = [] ++ ⟨4, 5, 3, 2, true, false, .none⟩ :: [⟨22, 0, 3, 1, false, false, .none⟩] ∧
    [(⟨1, 10⟩ : ToneStep)].length ≤ 0 + 1 ∧ 0 + 1 < [(⟨1, 10⟩ : ToneStep), ⟨0, 5⟩].length ∧
    (after .chimeStepEnd { sounding with chime := playing.chime }).chime.sequencer = .gap 200 ∧
    [(⟨1, 10⟩ : ToneStep)][0]? = some ⟨1, 10⟩ ∧ (at' .run).chime.sequencer = .idle := by
  refine ⟨by decide, sounding_chimeSound, by decide, by decide, by decide, by decide, by decide, by decide, by decide⟩

theorem witness_LampState :
    dimmed.lamp.bulbCheck ≠ none ∧ (at' .run).lamp.bulbCheck = none ∧ (at' .asleep).power.state = .asleep ∧
    State.reset.power.state ≠ .run ∧ State.reset.power.state ≠ .awakeOff ∧
    dimmed.power.state = .run ∧ dimmed.lamp.state 0 = .on ∧ (at' .run).lamp.state 0 = .off ∧
    ({ dimmed with lamp := { (after (.lampSet 255 2) (at' .run)).lamp with flash := some ⟨true, 0⟩ } }).lamp.state 3 =
      .flash := by decide

theorem witness_LampEvents :
    dimmed.lamp.bulbCheck = some 0 ∧ dimmed.lamp.flash = some ⟨true, 500⟩ ∧ dimmed.awake = true ∧
    20 ≤ dimmed.lamp.dutyClock ∧ dimmed.lamp.dimming = some 7 ∧
    dimmed.discretes.inputs[7].level = dimmed.discretes.inputs[7].activeHigh ∧
    (dimmed.channels.records[7].presented).2 = .valid ∧ (at' .run).lamp.dutyClock < 20 := by decide

theorem witness_DrumEvents :
    drumming.awake = true ∧ drumming.drum.state = .stepping ∧ 20 ≤ drumming.drum.clock ∧
    { drumming.drum with missDue := true, missCount := 2 }.missCount = 2 ∧ drumming.drum.missDue = false ∧
    drumming.drum.missCount < 2 ∧ drumming.drum.coils = true ∧ (at' .run).drum.coils = false ∧
    drumming.drum.phase = 0 ∧ ∀ k : Fin 4, { drumming.drum with phase := k }.phases.length = 2 := by decide

theorem witness_EepromEvents :
    rolling.awake = true ∧ rolling.eeprom.flight = none ∧ rolling.eeprom.queue = .odometer 99999900 :: [] ∧
    timedOut.eeprom.flight = some { kind := .odometer 7 0, words := (30, 42405) :: [], wait := 25 } ∧
    25 ≤ 25 ∧ memoryWf timedOut.eeprom.memory = true ∧
    ((after (.tick 0 true 0) timedOut).eeprom.flight.map Flight.wait) = some 26 ∧ (at' .run).eeprom.queue = [] ∧
    (∀ e ∈ [Entry.service] ++ [.host 50 0], ∀ x, e ≠ .odometer x) ∧
    rolling.eeprom.queue = [] ++ .odometer 99999900 :: [] ∧ rolling.accum.newestSlot = some 5 ∧
    (at' .run).eeprom.flight = none ∧ (at' .run).accum.newestSlot = none := by
  refine ⟨by decide, by decide, by decide, by decide, by decide, by decide, by decide, by decide, by simp, ?_⟩
  decide

theorem witness_LinkEvents :
    let s := { at' .run with link := { State.reset.link with
      assembler := .body [1] 2, reply := some [0xA7], queue := [⟨2, [], true, false⟩] } }
    s.power.state ≠ .held ∧ s.link.assembler = .body [1] 2 ∧ (at' .run).link.assembler = .hunt ∧
    s.link.reply ≠ none ∧ s.link.queue = ⟨2, [], true, false⟩ :: [] ∧ (at' .run).link.reply = none ∧
    (serveKind 2 []).isSome = true ∧ 0x04 ∉ requestLengths.map Prod.fst ∧ (0x15, 2) ∈ requestLengths ∧
    [(5 : Byte)].length ≠ 2 ∧
    (frameOf [1, 2, 0xFD] false).good = true ∧ (frameOf [1, 2, 0xFC] false).good = false := by decide

/-- R174: a frame whose check is bad is answered with kind 0xFF before any other test, and one of a known kind with a
wrong length with LENGTH, even where its argument is bad too. -/
theorem test_frames_judged :
    ((at' .run).completeFrame ⟨0x15, [5], false, true⟩).link.reply = some (frameBytes 0xFF [0x15]) ∧
    ((at' .run).completeFrame ⟨0x15, [99], true, false⟩).link.reply = some (frameBytes 0x95 [6]) := by decide

theorem witness_FramesAndRequestsThatWait :
    frame? .statusRead = some (0x01, []) ∧ (starting false).power.state = .init ∧ (starting false).linkFree = true ∧
    (let s := { at' .run with link := { State.reset.link with reply := some [0xA7], queue := [⟨2, [], true, false⟩] } }
     s.link.reply ≠ none ∧ s.link.queue.length < 2) ∧
    (let s := { at' .run with link := { State.reset.link with
      reply := some [0xA7], queue := [⟨2, [], true, false⟩, ⟨1, [], true, false⟩] } }
     2 ≤ s.link.queue.length) := by decide

theorem witness_RequestRowIsItsFrame :
    frame? (.channelHold 5 100) = some (0x16, [5, 0, 100]) ∧ (at' .run).power.state ≠ .held := by decide

theorem witness_CharactersMakeTheFrame :
    frame? (.channelHold 5 100) = some (0x16, [5, 0, 100]) ∧ (Instr.channelHold 5 100).wellFormed = true ∧
    (at' .run).power.state ≠ .held ∧ (at' .run).link.assembler = .hunt ∧ moment? (.channelHold 5 100) = none ∧
    moment? (.softRestart ⟨100, 4⟩) = some ⟨100, 4⟩ ∧ frame? (.softRestart ⟨100, 4⟩) = some (0x03, []) := by decide

/-- A part in RUN or AWAKE_OFF with its link free serves a request at once: StatusAndNoticeRequests and
SoftRestartResult ask no more. -/
theorem witness_ready : (at' .run).ready ∧ (at' .awakeOff).ready ∧ (at' .asleep).ready := by
  unfold State.ready
  decide

/-- The ends of the ranges of 9.2, and the state each clause asks for. -/
theorem witness_ConstantsAndEepromRequests :
    ((500 ≤ (500 : Word).toNat ∧ (25000 : Word).toNat ≤ 25000) ∧ 256 ≤ (256 : Word).toNat ∧
      (1 ≤ (1 : Byte).toNat ∧ (8 : Byte).toNat ≤ 8) ∧ (20 ≤ (20 : Word).toNat ∧ (500 : Word).toNat ≤ 500) ∧
      (200 : Byte).toNat ≤ 200) ∧ ¬ ((201 : Byte).toNat ≤ 200) ∧
    ranging.power.state = .run ∧ ranging.channels.records[0].value ≠ 0 ∧ (at' .run).channels.records[0].value = 0 ∧
    127 < (128 : Byte).toNat ∧ (127 : Byte).toNat + (1 : Byte).toNat = 128 ∧ timedOut.eeprom.flight ≠ none ∧
    (at' .run).eeprom.flight = none ∧ ¬ (50 ≤ (49 : Byte).toNat) ∧ (127 : Byte).toNat ≤ 127 ∧
    ((List.replicate 4 (Entry.host 50 0)).filter fun e => match e with | .host _ _ => true | _ => false).length = 4 := by
  decide

theorem witness_InputRequests :
    (at' .run).powered = true ∧ (at' .run).linkFree = true ∧ 3 < (4 : Byte).toNat ∧ ¬ (3 < (3 : Byte).toNat) ∧
    (11 : Byte) = indexByte (some (11 : Fin 12)) ∧ (255 : Byte) = indexByte (none : Option (Fin 12)) ∧
    ¬ ((1023 : Word).toNat ≤ (1022 : Word).toNat) ∧ (5 : Byte).toNat = (5 : Fin 6).val ∧ (50 : Byte).toNat ≤ 50 ∧
    (10 : Byte).toNat ≤ 10 ∧ (11 : Byte).toNat = (11 : Fin 12).val ∧ ¬ ((5 : Byte).toNat < 5) ∧
    (4 : Byte).toNat < 5 := by decide

theorem witness_ChannelRequests :
    (at' .run).powered = true ∧ (at' .run).linkFree = true ∧ 15 < (16 : Byte).toNat ∧
    (15 : Byte).toNat = (15 : Fin 16).val ∧ (at' .awakeOff).power.state ≠ .run ∧ (10 : Byte).toNat < 11 ∧
    (15 : Byte).toNat = 11 + (4 : Fin 5).val ∧ (1 : Byte) ≠ 0 ∧
    ¬ (16 < (11 : Byte).toNat + (5 : Byte).toNat) ∧ 16 < (12 : Byte).toNat + (5 : Byte).toNat := by decide

theorem witness_CurveAndGaugeRequests :
    let points : List (Word × Word) := [(0, 64), (2600, 960)]
    let f : GaugeFields := ⟨15, 11, 1023, 1, 255, 1023, 255, 63, 1⟩
    (at' .run).powered = true ∧ (at' .run).linkFree = true ∧ points.length = (2 : Byte).toNat ∧
    points.length ≠ (3 : Byte).toNat ∧ (11 : Byte).toNat = (11 : Fin 12).val ∧
    ((points.map fun p => (p.1.toNat, p.2.toNat)).map Prod.fst).Pairwise (· < ·) ∧
    ¬ (1023 < f.rest.toNat) ∧ f.rLo.toNat ≠ 0 ∧ f.accel.toNat ≠ 0 ∧ ¬ (1023 < f.rHi.toNat) ∧ ¬ (63 < f.deadband.toNat) ∧
    f.source = indexByte (some (15 : Fin 16)) ∧ f.curve = indexByte (some (11 : Fin 12)) ∧
    (5 : Byte).toNat = (5 : Fin 6).val ∧ (255 : Word).toNat < 256 ∧
    (∃ k : Fin 6, armed.gauge.gauges[k].mode = .armed) ∧ armed.ready := by
  unfold State.ready
  decide

theorem witness_MonitorRequests :
    let s := fun m : Monitor => coolant m 161
    (s Monitor.initial).ready ∧ 15 < (16 : Byte).toNat ∧ (2 : Byte).toNat = (2 : Fin 16).val ∧
    ¬ monitorUnsound 2 coolantFields (s Monitor.initial) ∧
    monitorUnsound 2 { coolantFields with q1Kind := 3, q1Index := 2 } (s Monitor.initial) ∧
    (s { Monitor.initial with state := .active, acked := true }).monitor.monitors[2].acked = true ∧
    (s { Monitor.initial with state := .active, raw := true }).monitor.monitors[2].raw = true ∧
    (s { Monitor.initial with state := .active }).monitor.monitors[2].config.latching ≠ 0 ∧
    (s { Monitor.initial with state := .active }).monitor.monitors[2].config.releaseDelay ≠ 0 ∧
    replyData (after (.monitorAcknowledge 255) (s { Monitor.initial with state := .active, raw := true })) = [1] ∧
    (s { Monitor.initial with state := .active }).monitor.monitors[2].acked = false ∧
    (s { Monitor.initial with state := .active }).monitor.monitors[2].raw = false ∧
    { coolantFields with releaseDelay := 0, notice := 1 }.releaseDelay = 0 ∧ coolantFields.notice ≠ 0 ∧
    (s Monitor.initial).monitor.monitors[2].state = .off := by
  refine ⟨by unfold State.ready; decide, by decide, by decide, ?_, ?_, by decide, by decide, by decide, by decide,
    by decide, by decide, by decide, by decide, by decide, by decide⟩
  · unfold monitorUnsound
    simp [coolantFields, monitorDefaults]
    decide
  · unfold monitorUnsound
    simp [coolantFields, monitorDefaults]

theorem witness_ChimeRequests :
    sounding.ready ∧ sounding.chimeSound ∧ 3 < (4 : Byte).toNat ∧ (3 : Byte).toNat = (3 : Fin 4).val ∧
    (11 : Byte).toNat = (11 : Fin 12).val ∧ sounding.chime.steps 11 = [] ∧ sounding.chime.steps 0 ≠ [] ∧
    (∀ r ∈ sounding.chime.queue, r.source ≠ 23) ∧
    sounding.chime.queue = [⟨4, 5, 3, 2, true, false, .none⟩] ++ ⟨22, 0, 3, 1, false, false, .none⟩ :: [] ∧
    sounding.chime.sequencer = .playing [⟨1, 10⟩] 0 0 ∧ (at' .run).chime.sequencer = .idle ∧
    (6 : Byte).toNat ≤ 6 ∧ (8 : Byte).toNat = 8 + (0 : Fin 4).val ∧ 25 < (26 : Byte).toNat := by
  refine ⟨by unfold State.ready; decide, sounding_chimeSound, ?_⟩
  decide

theorem witness_LampAndTripRequests :
    (at' .run).powered = true ∧ (at' .run).linkFree = true ∧ 12 ≤ (12 : Byte).toNat ∧ (254 : Byte).toNat ≤ 254 ∧
    (11 : Byte).toNat < 12 ∧ 2 < (3 : Byte).toNat ∧ (255 : Byte) = indexByte (none : Option (Fin 12)) ∧
    (11 : Byte).toNat = (11 : Fin 12).val ∧ 3 < (4 : Byte).toNat ∧ 1 ≤ (1 : Byte).toNat ∧ (3 : Byte).toNat ≤ 3 ∧
    25 ≤ (25 : Byte).toNat ∧ (24 : Byte).toNat ≤ 24 := by decide

theorem witness_DrumAndServiceRequests :
    drumming.ready ∧ (at' .run).drum.state = .absent ∧ drumming.drum.state = .stepping ∧
    { drumming.drum with state := .fault }.debt ≠ 0 ∧ (Drum.initial true).debt = 0 ∧
    ¬ serviceUnsound (oil 0 0).config drumming ∧ serviceUnsound { (oil 0 0).config with km := 499 } drumming ∧
    (5 : Byte).toNat = (5 : Fin 6).val ∧ 5 < (6 : Byte).toNat ∧
    ((List.finRange 6).filter fun k => decide ((255 : Byte) = 255 ∨ (255 : Byte).toNat = k.val)) ≠ [] ∧
    drumming.power.state = .run ∧ drumming.channels.records[0].value = 0 ∧
    drumming.channels.records[0].validity = .valid := by
  refine ⟨by unfold State.ready; decide, by decide, by decide, by decide, by decide, ?_, ?_, by decide, by decide,
    by decide, by decide, by decide, by decide⟩
  · unfold serviceUnsound
    simp [oil, serviceDefaults, ServiceItem.initial]
    omega
  · unfold serviceUnsound
    simp [oil, serviceDefaults, ServiceItem.initial]

end Sys2Proof.Machine.Tests
end

section
/-!
SUPPORT. What a posting and a channel write leave: of the Notice Queue what is posted and what stands, of the Channel
Table the record written.
-/
namespace Sys2Proof.Machine

/-! ## Postings -/

/-- A posting is not seen among the notices of other keys (R175). -/
theorem filter_postNotice {p : Notice → Bool} {k : NoticeKey} (h : ∀ n : Notice, n.key = k → p n = false) (v : Word)
    (q : List Notice) : (postNotice k v q).filter p = q.filter p := by
  have step : ∀ n : Notice, p (if n.key = k then { n with value := v } else n) = p n := by
    intro n
    by_cases e : n.key = k
    · rw [if_pos e, h n e]
      exact h _ e
    · rw [if_neg e]
  unfold postNotice
  split
  · rw [List.filter_map, show p ∘ _ = p from funext step]
    refine (List.map_congr_left fun n hn => ?_).trans (List.map_id _)
    refine if_neg fun e => ?_
    simpa [h n e] using (List.mem_filter.mp hn).2
  · simp [h]

/-- A posting leaves its notice pending with its value (R175). -/
theorem State.notify_posted (s : State) (k : NoticeKey) (v : Word) : (s.notify k v).posted k v := by
  unfold State.posted
  rw [State.notify_notices]
  constructor
  · have hk : k ∈ (postNotice k v s.notices).map Notice.key := by
      rw [postNotice_keys]
      split
      · assumption
      · simp
    exact List.mem_map.mp hk
  · intro n hn e
    unfold postNotice at hn
    split at hn
    · obtain ⟨m, -, rfl⟩ := List.mem_map.mp hn
      split at e
      · next h => simp [h]
      · next h => exact absurd e h
    · next h =>
      rcases List.mem_append.mp hn with hn | hn
      · exact absurd (List.any_eq_true.mpr ⟨n, hn, by simpa using e⟩) h
      · simp [List.mem_singleton.mp hn]

/-- What is pending under a key is seen among the notices of that key. -/
theorem State.posted_of_filter {s t : State} {p : Notice → Bool} {k : NoticeKey} {v : Word}
    (hp : ∀ n : Notice, n.key = k → p n = true) (h : t.notices.filter p = s.notices.filter p) (hs : s.posted k v) :
    t.posted k v := by
  have mem : ∀ n : Notice, n.key = k → (n ∈ t.notices ↔ n ∈ s.notices) := by
    intro n e
    have := congrArg (n ∈ ·) h
    simpa [List.mem_filter, hp n e] using this
  obtain ⟨⟨n, hn, e⟩, hv⟩ := hs
  exact ⟨⟨n, (mem n e).mpr hn, e⟩, fun m hm em => hv m ((mem m em).mp hm) em⟩

theorem State.posted_of_notices_eq {s t : State} (h : t.notices = s.notices) {k : NoticeKey} {v : Word}
    (hs : s.posted k v) : t.posted k v :=
  State.posted_of_filter (p := fun _ => true) (fun _ _ => rfl) (by rw [h]) hs

/-- A posting leaves what is pending under another key (R175). -/
theorem State.posted_notify_of_ne {s : State} {k k' : NoticeKey} {v : Word} (hk : k ≠ k') (v' : Word)
    (h : s.posted k v) : (s.notify k' v').posted k v :=
  State.posted_of_filter (p := fun n => decide (n.key ≠ k')) (fun n e => by simp [e, hk])
    (filter_postNotice (fun n e => by simp [e]) v' s.notices) h

/-! ## Channel writes -/

/-- The record a channel write leaves (R24). -/
def Channel.written (r : Channel) (c : Fin 16) (value : Option Nat) (validity : Option Validity) : Channel :=
  { r with value := (value.map fun x => min x (channelTop c)).getD r.value, validity := validity.getD r.validity }

/-- A channel's record replaced, with no notice. -/
def State.setRecord (s : State) (c : Fin 16) (r : Channel) : State :=
  { s with channels := { s.channels with records := s.channels.records.set c r } }

/-- A channel write replaces the record, and posts a CHANNEL notice when the validity changes (R24, R25). -/
theorem State.writeChannel_eq (s : State) (c : Fin 16) (v : Option Nat) (w : Option Validity) :
    s.writeChannel c v w =
      if (s.channels.records[c].written c v w).validity = s.channels.records[c].validity then
        s.setRecord c (s.channels.records[c].written c v w)
      else (s.setRecord c (s.channels.records[c].written c v w)).notify (.channel c)
        (BitVec.ofNat 16 (validityCode (s.channels.records[c].written c v w).validity)) := by
  cases v <;> rfl

/-- A channel write replaces its channel's record alone. -/
theorem State.writeChannel_channels (s : State) (c : Fin 16) (v : Option Nat) (w : Option Validity) :
    (s.writeChannel c v w).channels =
      { s.channels with records := s.channels.records.set c (s.channels.records[c].written c v w) } := by
  rw [State.writeChannel_eq]
  split <;> rfl

theorem State.writeChannel_record (s : State) (c : Fin 16) (v : Option Nat) (w : Option Validity) (k : Fin 16) :
    (s.writeChannel c v w).channels.records[k] =
      if k = c then s.channels.records[c].written c v w else s.channels.records[k] := by
  rw [State.writeChannel_channels]
  exact set_get _ _ _ _

theorem State.writeChannel_record_same (s : State) (c : Fin 16) (v : Option Nat) (w : Option Validity) :
    (s.writeChannel c v w).channels.records[c] = s.channels.records[c].written c v w := by
  rw [State.writeChannel_record, if_pos rfl]

theorem State.writeChannel_record_of_ne (s : State) {c k : Fin 16} (h : k ≠ c) (v : Option Nat) (w : Option Validity) :
    (s.writeChannel c v w).channels.records[k] = s.channels.records[k] := by
  rw [State.writeChannel_record, if_neg h]

/-- The rule of the CHANNEL notices, with the codes as the part sends them (R25, R181). -/
theorem channelNotices_iff (s t : State) : channelNotices s t ↔ ∀ c : Fin 16, validityChanged s t c →
    t.posted (.channel c) (BitVec.ofNat 16 (validityCode t.channels.records[c].validity)) := by
  refine forall_congr' fun c => imp_congr_right fun _ => Iff.of_eq (congrArg (t.posted (.channel c)) ?_)
  cases t.channels.records[c].validity <;> rfl

/-- Writing a channel whose validity stands as the step began keeps the rule of the CHANNEL notices (R25). -/
theorem channelNotices_writeChannel {s t : State} (h : channelNotices s t) (c : Fin 16)
    (hc : t.channels.records[c].validity = s.channels.records[c].validity) (v : Option Nat) (w : Option Validity) :
    channelNotices s (t.writeChannel c v w) := by
  rw [channelNotices_iff] at h ⊢
  intro k hk
  unfold validityChanged at hk
  rw [State.writeChannel_record] at hk ⊢
  rw [State.writeChannel_eq]
  by_cases e : k = c
  · subst e
    rw [if_pos rfl] at hk ⊢
    rw [← hc] at hk
    rw [if_neg hk]
    exact State.notify_posted _ _ _
  · rw [if_neg e] at hk ⊢
    have hp := h k hk
    split
    · exact hp
    · exact State.posted_notify_of_ne (by simpa using e) _ hp

end Sys2Proof.Machine
end

section
/-!
SUPPORT. What a change of the service items' counts brings (R140 to R145): one item recounted, items recounted one
after another, and so a DU, a day or a KR that reaches the six items.
-/
namespace Sys2Proof.Machine

/-- An item in the state that its settings and counts give (R143). -/
def ServiceItem.settled (i : ServiceItem) : ServiceItem := { i with state := i.computed }

theorem serviceClaim_inj {j k : Fin 6} (h : serviceClaim j = serviceClaim k) : j = k := by
  simp only [serviceClaim, Fin.mk.injEq] at h
  omega

/-! ## Claims -/

/-- A claim set reads back, and every other claim stands (R132). -/
theorem State.setClaim_claim (s : State) (l : Fin 12) (c : Fin 23) (m : Option LampMode) (l' : Fin 12) (c' : Fin 23) :
    (s.setClaim l c m).lamp.claim l' c' = if l' = l ∧ c' = c then m else s.lamp.claim l' c' := by
  unfold LampUnit.claim
  simp only [State.setClaim_lamp, vmod_get]
  by_cases hl : l' = l
  · subst hl
    simp only [true_and, if_true]
    exact set_get _ _ _ _
  · simp [hl]

/-- An item's claim is set on the lamp that its setting names, if any (R144). -/
theorem State.setItemClaim_claim (s : State) (k : Fin 6) (i : ServiceItem) (m : Option LampMode) (l : Fin 12)
    (c : Fin 23) :
    (s.setItemClaim k i.lamp? m).lamp.claim l c =
      if i.config.lamp.toNat = l.val ∧ c = serviceClaim k then m else s.lamp.claim l c := by
  unfold State.setItemClaim ServiceItem.lamp? index?
  by_cases h : i.config.lamp.toNat < 12
  · simp only [h, dif_pos, State.setClaim_claim, Fin.ext_iff, eq_comm (a := l.val)]
  · have hl : i.config.lamp.toNat ≠ l.val := by omega
    simp [h, hl]

/-- Setting an item's claim leaves the lamp unit otherwise as it was. -/
theorem State.setItemClaim_lamp (s : State) (k : Fin 6) (lamp : Option (Fin 12)) (m : Option LampMode) :
    (s.setItemClaim k lamp m).lamp = { s.lamp with claims := (s.setItemClaim k lamp m).lamp.claims } := by
  cases lamp <;> rfl

/-! ## One item recounted -/

/-- The requests of items that the step from `s` to `t` brings to a state that is not due. -/
abbrev requestEnds (s t : State) (r : ChimeRequest) : Prop :=
  ∃ k : Fin 6, r.source = serviceSource k ∧ serviceChanged s t k ∧ t.service[k].state ≠ .due ∧
    t.service[k].state ≠ .overdue

/-- A step that changes no item's state, claim, request or notice brings no action. -/
theorem serviceActions_of_eq {s t : State} (hs : ∀ k : Fin 6, ¬ serviceChanged s t k) (hl : t.lamp = s.lamp)
    (hc : t.chime = s.chime) (hn : t.notices = s.notices) : serviceActions s t := by
  refine ⟨⟨fun k l => ?_, fun l c _ => by rw [hl], by rw [hl], ?_, fun k h => absurd h (hs k)⟩, by rw [hn]⟩
  · rw [if_neg fun h => hs k h.1, hl]
  · have stays : ∀ r : ChimeRequest, ¬ requestEnds s t r := fun r ⟨k, _, h, _⟩ => hs k h
    simp only [stays, if_false, List.filterMap_some]
    exact hc

/-- An item's notice and claim, and in a state that is not due its request's withdrawal (R144). -/
theorem State.alignItem_eq (s : State) (k : Fin 6) :
    s.alignItem k =
      let u := (s.notify (.service k) s.service[k].noticeWord).setItemClaim k s.service[k].lamp?
        (claimFor s.service[k].state)
      if dueState s.service[k].state then u else u.withdrawChime (serviceSource k) := rfl

theorem State.alignItem_lamp (s : State) (k : Fin 6) :
    (s.alignItem k).lamp = (s.setItemClaim k s.service[k].lamp? (claimFor s.service[k].state)).lamp := by
  rw [State.alignItem_eq]
  cases s.service[k].lamp? <;> dsimp only <;> split <;> rfl

theorem State.alignItem_chime (s : State) (k : Fin 6) :
    (s.alignItem k).chime =
      if dueState s.service[k].state then s.chime else s.chime.withdraw (serviceSource k) := by
  rw [State.alignItem_eq]
  cases s.service[k].lamp? <;> dsimp only <;> split <;> rfl

theorem State.alignItem_notices (s : State) (k : Fin 6) :
    (s.alignItem k).notices = postNotice (.service k) (serviceValue s.service[k]) s.notices := by
  rw [State.alignItem_eq, ← ServiceItem.noticeWord_eq]
  cases s.service[k].lamp? <;> dsimp only <;> split <;> rfl

theorem State.alignItem_service (s : State) (k : Fin 6) : (s.alignItem k).service = s.service := by simp

/-- The items after one was recounted (R143). -/
theorem State.recount_service (s : State) (k : Fin 6) (i : ServiceItem) (j : Fin 6) :
    (s.recount k i).service[j] = if j = k then i.settled else s.service[j] := by
  have hset : (s.recount k i).service = s.service.set k i.settled := by
    unfold State.recount
    split
    · next h => rw [show i.settled = i by rw [ServiceItem.settled, h]]; rfl
    · exact State.alignItem_service _ k
  rw [hset]
  exact set_get _ _ _ _

theorem dueState_iff (x : ServiceState) : dueState x = true ↔ ¬ (x ≠ .due ∧ x ≠ .overdue) := by
  cases x <;> decide

/-- An item whose state the recount changes: its claim, its request and its notice follow the new state (R144, R145). -/
theorem State.recount_changed {s : State} {k : Fin 6} {i : ServiceItem} (hc : i.config = s.service[k].config)
    (h : i.computed ≠ i.state) :
    (∀ (l : Fin 12) (c : Fin 23), (s.recount k i).lamp.claim l c =
      if s.service[k].config.lamp.toNat = l.val ∧ c = serviceClaim k then claimFor i.computed else s.lamp.claim l c) ∧
    (s.recount k i).lamp = { s.lamp with claims := (s.recount k i).lamp.claims } ∧
    (s.recount k i).chime = (if dueState i.computed then s.chime else s.chime.withdraw (serviceSource k)) ∧
    (s.recount k i).notices = postNotice (.service k) (serviceValue i.settled) s.notices := by
  have hr : s.recount k i = (s.setItem k i.settled).alignItem k := if_neg h
  have hk : (s.setItem k i.settled).service[k] = i.settled := (set_get _ _ _ _).trans (if_pos rfl)
  have hconfig : i.settled.config = s.service[k].config := hc
  refine ⟨fun l c => ?_, ?_, ?_, ?_⟩ <;> rw [hr]
  · rw [State.alignItem_lamp, hk, State.setItemClaim_claim, hconfig]
    rfl
  · rw [State.alignItem_lamp]
    exact State.setItemClaim_lamp _ _ _ _
  · rw [State.alignItem_chime, hk]
    rfl
  · rw [State.alignItem_notices, hk]
    rfl

/-- An item that a count has changed is recounted: its state's change brings the actions of R144, R145. -/
theorem State.recount_actions (s : State) (k : Fin 6) (i : ServiceItem) (hc : i.config = s.service[k].config)
    (hs : i.state = s.service[k].state) : serviceActions s (s.recount k i) := by
  have items := s.recount_service k i
  by_cases e : i.computed = i.state
  · have hr : s.recount k i = s.setItem k i := if_pos e
    refine serviceActions_of_eq (fun j h => ?_) (by rw [hr]; rfl) (by rw [hr]; rfl) (by rw [hr]; rfl)
    rw [serviceChanged, items] at h
    split at h
    · next hk => exact h (by rw [hk, ← hs, ← e]; rfl)
    · exact h rfl
  · obtain ⟨claim, lamp, chime, notices⟩ := State.recount_changed hc e
    have item : (s.recount k i).service[k] = i.settled := (items k).trans (if_pos rfl)
    have changed : ∀ j : Fin 6, serviceChanged s (s.recount k i) j ↔ j = k := by
      intro j
      rw [serviceChanged, items]
      by_cases hk : j = k
      · subst hk
        simp only [if_true, iff_true]
        exact fun h => e (h.trans hs.symm)
      · simp [hk]
    have ends : ∀ r : ChimeRequest, requestEnds s (s.recount k i) r ↔
        r.source = serviceSource k ∧ ¬ dueState i.computed = true := by
      intro r
      rw [dueState_iff, not_not]
      constructor
      · rintro ⟨j, hsource, hj, hd⟩
        obtain rfl := (changed j).mp hj
        rw [item] at hd
        exact ⟨hsource, hd⟩
      · rintro ⟨hsource, hd⟩
        exact ⟨k, hsource, (changed k).mpr rfl, by rw [item]; exact hd⟩
    refine ⟨⟨fun j l => ?_, fun l c h => ?_, lamp, ?_, fun j h => ?_⟩, ?_⟩
    · rw [claim]
      by_cases h : j = k
      · subst h
        simp only [changed, item, true_and, and_true]
        rfl
      · rw [if_neg fun g => h (serviceClaim_inj g.2), if_neg fun g => h ((changed j).mp g.1)]
    · rw [claim, if_neg fun g => h k g.2]
    · simp only [ends, chime]
      split
      · next h => simp [h]
      · next h => simp [h, ChimeUnit.withdraw]
    · obtain rfl := (changed j).mp h
      rw [item]
      exact State.posted_of_notices_eq notices (s.notify_posted _ _)
    · rw [notices]
      exact filter_postNotice (fun n e => by simpa using ⟨k, (changed k).mpr rfl, e⟩) _ _

/-! ## Items recounted one after another -/

/-- A queue once the requests that meet `p` are withdrawn (R122): a WAITING one is gone, a PLAYING one is to stop. -/
def withdrawWhere (p : ChimeRequest → Prop) [DecidablePred p] (queue : List ChimeRequest) : List ChimeRequest :=
  queue.filterMap fun r => if p r then (if r.playing then some { r with stop := .withdraw } else none) else some r

/-- Two withdrawals are one. -/
theorem withdrawWhere_withdrawWhere {p q : ChimeRequest → Prop} [DecidablePred p] [DecidablePred q]
    (queue : List ChimeRequest) :
    withdrawWhere q (withdrawWhere p queue) = withdrawWhere (fun r => p r ∨ q r) queue := by
  unfold withdrawWhere
  rw [List.filterMap_filterMap]
  refine List.filterMap_congr fun r _ => ?_
  by_cases hp : p r
  · by_cases h : r.playing = true <;> simp [hp, h]
  · simp [hp]

/-- The actions of two steps that change different items are those of the two together. -/
theorem serviceActions_trans {s t u : State} (hst : serviceActions s t) (htu : serviceActions t u)
    (hconfig : ∀ k : Fin 6, t.service[k].config = s.service[k].config)
    (hkept : ∀ k : Fin 6, serviceChanged s t k → u.service[k] = t.service[k]) : serviceActions s u := by
  obtain ⟨⟨claim₁, others₁, lamp₁, chime₁, posted₁⟩, rest₁⟩ := hst
  obtain ⟨⟨claim₂, others₂, lamp₂, chime₂, posted₂⟩, rest₂⟩ := htu
  have apart : ∀ k : Fin 6, serviceChanged s t k → ¬ serviceChanged t u k := fun k h g => g (by rw [hkept k h])
  have either : ∀ k : Fin 6, serviceChanged s u k ↔ serviceChanged s t k ∨ serviceChanged t u k := by
    intro k
    by_cases h : serviceChanged s t k
    · refine iff_of_true ?_ (.inl h)
      rw [serviceChanged, hkept k h]
      exact h
    · rw [or_iff_right h, serviceChanged, serviceChanged, not_not.mp h]
  have ends : ∀ r : ChimeRequest, requestEnds s u r ↔ requestEnds s t r ∨ requestEnds t u r := by
    intro r
    constructor
    · rintro ⟨k, hr, hk, hd⟩
      rcases (either k).mp hk with h | h
      · exact .inl ⟨k, hr, h, hkept k h ▸ hd⟩
      · exact .inr ⟨k, hr, h, hd⟩
    · rintro (⟨k, hr, h, hd⟩ | ⟨k, hr, h, hd⟩)
      · exact ⟨k, hr, (either k).mpr (.inl h), by rwa [hkept k h]⟩
      · exact ⟨k, hr, (either k).mpr (.inr h), hd⟩
  refine ⟨⟨fun k l => ?_, fun l c h => ?_, ?_, ?_, fun k h => ?_⟩, ?_⟩
  · by_cases h : serviceChanged s t k
    · refine (claim₂ k l).trans ((if_neg fun g => apart k h g.1).trans ((claim₁ k l).trans ?_))
      exact if_congr (and_congr_left' (iff_of_true h ((either k).mpr (.inl h)))) (by rw [hkept k h]) rfl
    · have hc := (claim₁ k l).trans (if_neg fun g => h g.1)
      rw [claim₂, hconfig, hc]
      exact if_congr (and_congr_left' ((either k).trans (or_iff_right h)).symm) rfl rfl
  · rw [others₂ l c h, others₁ l c h]
  · rw [lamp₂, lamp₁]
  · have hqueue : u.chime.queue = withdrawWhere (requestEnds t u) (withdrawWhere (requestEnds s t) s.chime.queue) := by
      rw [chime₂, chime₁]
      rfl
    rw [withdrawWhere_withdrawWhere] at hqueue
    simp only [← ends] at hqueue
    refine .trans ?_ (congrArg (fun q => ({ s.chime with queue := q } : ChimeUnit)) hqueue)
    rw [chime₂, chime₁]
  · by_cases g : serviceChanged t u k
    · exact posted₂ k g
    · have hs : serviceChanged s t k := ((either k).mp h).resolve_right g
      rw [hkept k hs]
      refine State.posted_of_filter (fun n e => ?_) rest₂ (posted₁ k hs)
      simp only [e, decide_eq_true_iff, ne_eq, NoticeKey.service.injEq]
      rintro j hj rfl
      exact g hj
  · have split : ∀ n : Notice, decide (∀ k : Fin 6, serviceChanged s u k → n.key ≠ .service k) =
        (decide (∀ k : Fin 6, serviceChanged s t k → n.key ≠ .service k) &&
          decide (∀ k : Fin 6, serviceChanged t u k → n.key ≠ .service k)) := by
      intro n
      simp only [← Bool.decide_and, ← forall_and, either, or_imp]
    simp only [split, ← List.filter_filter] at rest₁ rest₂ ⊢
    rw [rest₂, List.filter_comm, rest₁, List.filter_comm]

/-- Items recounted one after another (R143 to R145): each stands with its counts changed and its state recomputed, and
the changes of state bring their actions. -/
theorem foldl_recount (f : ServiceItem → ServiceItem) (hconfig : ∀ i, (f i).config = i.config)
    (hstate : ∀ i, (f i).state = i.state) (l : List (Fin 6)) (hl : l.Nodup) (s : State) :
    let t := l.foldl (fun s k => s.recount k (f s.service[k])) s
    (∀ k : Fin 6, t.service[k] = if k ∈ l then (f s.service[k]).settled else s.service[k]) ∧ serviceActions s t := by
  induction l generalizing s with
  | nil => exact ⟨fun k => by simp, serviceActions_of_eq (fun k h => h rfl) rfl rfl rfl⟩
  | cons j l ih =>
    obtain ⟨hj, hl⟩ := List.nodup_cons.mp hl
    obtain ⟨items, actions⟩ := ih hl (s.recount j (f s.service[j]))
    have item := s.recount_service j (f s.service[j])
    have action := s.recount_actions j (f s.service[j]) (hconfig _) (hstate _)
    refine ⟨fun k => ?_, serviceActions_trans action actions (fun k => ?_) fun k h => ?_⟩
    · rw [List.foldl_cons, items, item]
      by_cases e : k = j
      · subst e
        simp [hj]
      · simp [e]
    · rw [item]
      split
      · next e => rw [e]; exact hconfig _
      · rfl
    · have e : k = j := by
        by_contra e
        exact h (by rw [item, if_neg e])
      exact (items k).trans (if_neg (e ▸ hj))

end Sys2Proof.Machine
end

section
/-!
SUPPORT and proofs: what an accepted edge of SPD and TAC brings (R4, R40, R42), up to the DU and the KR it may emit.
-/
namespace Sys2Proof.Machine

/-! ## An edge in its window and at its filter -/

/-- An edge in the open window: counted up to 1023, past which it marks the overrun (R4). -/
theorem Window.edge_eq (w : Window) (t : Stamp) :
    w.edge t = { w with n := if w.n = 1023 then 1023 else w.n + 1,
                        overrun := w.overrun || decide (w.n = 1023), tLast := some t } := by
  unfold Window.edge
  by_cases h : w.n = 1023 <;> simp [h]

@[simp] theorem settledAt_selection (p : PulseInput) (t : Stamp) : (settledAt p t).selection = p.selection := by
  rw [← PulseInput.settle_eq, PulseInput.settle_selection]

/-- An edge at a filter brought up to its moment. -/
theorem settledAt_edge (p : PulseInput) (t e : Stamp) :
    (settledAt p t).edge e = { settledAt p t with accepted := !p.selection, pin := !p.selection, pending := none,
                                                  stood := some e } := by
  simp only [PulseInput.edge, settledAt_selection]

/-- An SPD edge is taken in RUN when its filter can have accepted one (R1, R2, log entry 5). -/
theorem State.takeSpd_eq (s : State) (sub : BitVec 8) :
    s.takeSpd sub = if s.power.state = .run ∧ edgeDelay (broughtTo s sub).pulse.spd (broughtTo s sub).now = 0 then
      (broughtTo s sub).spdEdge.addDistance else s := by
  unfold State.takeSpd
  simp only [State.advancePulse_eq, PulseInput.edgeWait_eq, State.inRun, Bool.and_eq_true, beq_iff_eq]

/-- A TAC edge is taken in RUN when its filter can have accepted one (R1, R2, log entry 5). -/
theorem State.takeTac_eq (s : State) (sub : BitVec 8) :
    s.takeTac sub = if s.power.state = .run ∧ edgeDelay (broughtTo s sub).pulse.tac (broughtTo s sub).now = 0 then
      (broughtTo s sub).tacEdge.addRevolution else s := by
  unfold State.takeTac
  simp only [State.advancePulse_eq, PulseInput.edgeWait_eq, State.inRun, Bool.and_eq_true, beq_iff_eq]

/-- An SPD edge at the moment the part was brought to, in its filter and its window. -/
theorem broughtTo_spdEdge (s : State) (sub : BitVec 8) :
    (broughtTo s sub).spdEdge =
      (let u := broughtTo s sub
       let w := s.pulse.spdWindow
       { u with pulse := { u.pulse with
          spd := { u.pulse.spd with accepted := !s.pulse.spd.selection, pin := !s.pulse.spd.selection,
                                    pending := none, stood := some u.now },
          spdWindow := { w with n := if w.n = 1023 then 1023 else w.n + 1,
                                overrun := w.overrun || decide (w.n = 1023), tLast := some u.now } } }) := by
  have h : (broughtTo s sub).pulse.spd.edge (broughtTo s sub).now = _ := settledAt_edge s.pulse.spd _ _
  rw [State.spdEdge, Window.edge_eq, h]
  rfl

/-- A TAC edge at the moment the part was brought to, in its filter and its window. -/
theorem broughtTo_tacEdge (s : State) (sub : BitVec 8) :
    (broughtTo s sub).tacEdge =
      (let u := broughtTo s sub
       let w := s.pulse.tacWindow
       { u with pulse := { u.pulse with
          tac := { u.pulse.tac with accepted := !s.pulse.tac.selection, pin := !s.pulse.tac.selection,
                                    pending := none, stood := some u.now },
          tacWindow := { w with n := if w.n = 1023 then 1023 else w.n + 1,
                                overrun := w.overrun || decide (w.n = 1023), tLast := some u.now } } }) := by
  have h : (broughtTo s sub).pulse.tac.edge (broughtTo s sub).now = _ := settledAt_edge s.pulse.tac _ _
  rw [State.tacEdge, Window.edge_eq, h]
  rfl

/-! ## A KR and a DU at the service items -/

/-- A KR reaches the six items, each of which then stands with its state recomputed (R140, R143). -/
theorem State.serviceKr_result (s : State) :
    (∀ k : Fin 6, s.serviceKr.service[k] =
      { s.service[k] with sinceKr := bump s.service[k].sinceKr Config.sinceKrMax }.settled) ∧
    serviceActions s s.serviceKr := by
  obtain ⟨items, actions⟩ := foldl_recount (fun i => { i with sinceKr := bump i.sinceKr Config.sinceKrMax })
    (fun _ => rfl) (fun _ => rfl) (List.finRange 6) (List.nodup_finRange 6) s
  exact ⟨fun k => (items k).trans (if_pos (List.mem_finRange k)), actions⟩

/-- A DU reaches the six items in the same way (R140, R143). -/
theorem State.serviceDu_result (s : State) :
    (∀ k : Fin 6, s.serviceDu.service[k] =
      { s.service[k] with sinceDu := bump s.service[k].sinceDu Config.sinceDuMax }.settled) ∧
    serviceActions s s.serviceDu := by
  obtain ⟨items, actions⟩ := foldl_recount (fun i => { i with sinceDu := bump i.sinceDu Config.sinceDuMax })
    (fun _ => rfl) (fun _ => rfl) (List.finRange 6) (List.nodup_finRange 6) s
  exact ⟨fun k => (items k).trans (if_pos (List.mem_finRange k)), actions⟩

/-- A count of the items reaches the items, the lamps, the chimes and the notices alone. -/
theorem State.serviceKr_eq (s : State) :
    s.serviceKr = { s with service := s.serviceKr.service, lamp := s.serviceKr.lamp, chime := s.serviceKr.chime,
                           notices := s.serviceKr.notices } := by
  apply State.ext_fields <;> simp

theorem State.serviceDu_eq (s : State) :
    s.serviceDu = { s with service := s.serviceDu.service, lamp := s.serviceDu.lamp, chime := s.serviceDu.chime,
                           notices := s.serviceDu.notices } := by
  apply State.ext_fields <;> simp

/-- Settles O28: off its case the edge changes nothing, and in it the revolution residue decides between a count and a
KR, whose reach is `State.serviceKr_result`. -/
theorem tacEdgeResult : Obligations.TacEdgeResult := by
  intro s sub hs u edge w e
  rw [exec_tacEdge hs, State.takeTac_eq]
  have he : (broughtTo s sub).tacEdge = e := broughtTo_tacEdge s sub
  refine ⟨fun h => ?_, fun hrun hedge hlt => ?_, fun hrun hedge hle => ?_⟩
  · rw [if_neg fun g => h.elim (· g.1) (· g.2)]
  · rw [if_pos ⟨hrun, hedge⟩, he]
    exact congrArg Host.Outcome.next (if_neg (Nat.not_le.mpr hlt))
  · have hkr : e.addRevolution = State.serviceKr { e with accum := { s.accum with rr := 0 } } := if_pos hle
    obtain ⟨items, actions⟩ := State.serviceKr_result { e with accum := { s.accum with rr := 0 } }
    rw [if_pos ⟨hrun, hedge⟩, he, hkr]
    exact ⟨_, rfl, State.serviceKr_eq _, items, actions⟩

end Sys2Proof.Machine
end

section
/-!
SUPPORT and proof: what one DU brings (R43): to the total, the trips, the range basis, the service items and the drum,
with the posts of R51 and R152; and so what an SPD edge brings (R40).
-/
namespace Sys2Proof.Machine

/-! ## The drum -/

/-- One step more owed (R56): lost at the cap, and in IDLE a start of the drum with its coils energised (R57). -/
theorem Drum.owe_eq (d : Drum) : d.owe =
    (if d.debt = 65535 then { d with lost := true }
     else if d.state = .idle then
       { d with debt := d.debt + 1, state := .stepping, coils := true, clock := if d.coils then d.clock else 0,
                stepped := d.coils && d.stepped }
     else { d with debt := d.debt + 1 }) := by
  unfold Drum.owe Drum.start Config.drumDebtMax
  split
  · rfl
  · dsimp only
    split
    · obtain ⟨_, _, _, _, _, _, _, _, coils, _, _, _⟩ := d
      cases coils <;> rfl
    · rfl

/-- The fifth DU since the last step owed, at a drum that is fitted (R43, R56). -/
abbrev State.fifthDu (s : State) : Prop := s.drum.state ≠ .absent ∧ 5 ≤ s.accum.rs + 1

/-- A DU that owes a step past the cap of the debt, the first to be lost (R56). -/
abbrev State.losesStep (s : State) : Prop := s.fifthDu ∧ s.drum.debt = 65535 ∧ s.drum.lost = false

/-- DRUM carries the state in the low byte and 1 in the high byte for a lost step (R61, R181). -/
theorem Drum.noticeWord_eq (d : Drum) :
    d.noticeWord = BitVec.ofNat 16 ((if d.lost then 256 else 0) + drumCode d.state) := by
  unfold Drum.noticeWord
  cases d.lost <;> cases d.state <;> decide

/-- A DU at the drum: its residue, its debt with the fifth, and the notice of the first step lost (R43, R56, R61). -/
theorem State.drumDu_eq (s : State) :
    s.drumDu = { s with
      accum := { s.accum with
        rs := if s.drum.state = .absent then s.accum.rs else if s.fifthDu then 0 else s.accum.rs + 1 },
      drum := if s.fifthDu then s.drum.owe else s.drum,
      notices := if s.losesStep then postNotice .drum (BitVec.ofNat 16 (256 + drumCode s.drum.state)) s.notices
                 else s.notices } := by
  by_cases absent : s.drum.state = .absent
  · simp [State.drumDu, State.losesStep, State.fifthDu, absent]
  by_cases fifth : s.accum.rs + 1 < 5
  · simp [State.drumDu, State.losesStep, State.fifthDu, absent, fifth, Nat.not_le.mpr fifth]
  have due : s.fifthDu := ⟨absent, Nat.not_lt.mp fifth⟩
  have lost : (s.drum.owe.lost && !s.drum.lost) = decide s.losesStep := by
    rw [Bool.eq_iff_iff, decide_eq_true_iff, Drum.owe_eq]
    by_cases h : s.drum.debt = 65535
    · simpa [State.losesStep, h] using fun _ => due
    · rw [if_neg h]
      split <;> simp [State.losesStep, h]
  have word : s.losesStep → s.drum.owe.noticeWord = BitVec.ofNat 16 (256 + drumCode s.drum.state) := fun h => by
    rw [Drum.owe_eq, if_pos h.2.1, Drum.noticeWord_eq]
    rfl
  have hdrum : s.drumDu =
      let u : State := { s with accum := { s.accum with rs := 0 }, drum := s.drum.owe }
      if s.drum.owe.lost && !s.drum.lost then u.notify .drum s.drum.owe.noticeWord else u := by
    rw [State.drumDu, if_neg absent, if_neg fifth]
    rfl
  rw [hdrum, lost]
  simp only [if_neg absent, if_pos due, decide_eq_true_iff]
  by_cases h : s.losesStep
  · simp only [if_pos h, word h]
    rfl
  · simp only [if_neg h]

/-! ## The posts -/

/-- A total that is a multiple of 100 is bound for the ring unless it is the value last bound (R51). -/
theorem State.postHundred_eq (s : State) :
    s.postHundred = { s with
      eeprom := { s.eeprom with
        queue := if s.accum.total % 100 = 0 ∧ s.lastBound ≠ some s.accum.total
          then bindOdometer s.accum.total s.eeprom.queue else s.eeprom.queue } } := by
  unfold State.postHundred State.postOdometer
  by_cases h : s.accum.total % 100 = 0 <;> by_cases g : s.lastBound = some s.accum.total <;> simp [h, g]

/-- A total that is a multiple of 10,000 posts the service block (R152). -/
theorem State.postTenThousand_eq (s : State) :
    s.postTenThousand = { s with
      eeprom := { s.eeprom with
        queue := if s.accum.total % 10000 = 0 then postOnce .service s.eeprom.queue else s.eeprom.queue } } := by
  unfold State.postTenThousand State.postService
  by_cases h : s.accum.total % 10000 = 0 <;> simp [h]

/-! ## The DU -/

/-- What the items' changes bring is read from the items, the lamps, the chimes and the items' own notices. -/
theorem serviceWarned_congr {s t u : State} (h : serviceWarned s t) (hservice : u.service = t.service)
    (hlamp : u.lamp = t.lamp) (hchime : u.chime = t.chime)
    (hposted : ∀ (k : Fin 6) (v : Word), t.posted (.service k) v → u.posted (.service k) v) : serviceWarned s u := by
  obtain ⟨claim, others, lamp, chime, posted⟩ := h
  simp only [serviceWarned, serviceChanged, hservice, hlamp, hchime]
  exact ⟨claim, others, lamp, chime, fun k hk => hposted k _ (posted k hk)⟩

theorem TripComputer.addDu_eq (t : TripComputer) (run : Bool) :
    t.addDu run = { t with
      a := t.a.addDu run, b := t.b.addDu run,
      rbDist := if t.rbDist + 1 = 20000 then 10000 else t.rbDist + 1,
      rbFuel := if t.rbDist + 1 = 20000 then t.rbFuel / 2 else t.rbFuel } := by
  unfold TripComputer.addDu TripComputer.basisDu
  dsimp only
  split <;> rfl

/-- A DU reaches a trip that counts, up to its ceiling (R63, R64). -/
theorem Trip.addDu_eq (s : State) (x : Trip) :
    x.addDu s.inRun =
      (if s.power.state ≠ .run ∨ x.paused = true ∨ x.saturated = true then x
       else if 9999999 < x.distance + 1 then { x with distance := 9999999, saturated := true }
       else { x with distance := x.distance + 1 }) := by
  have counting : x.counting s.inRun = true ↔ ¬ (s.power.state ≠ .run ∨ x.paused = true ∨ x.saturated = true) := by
    simp [Trip.counting, State.inRun, and_assoc]
  unfold Trip.addDu Config.tripDistanceMax
  by_cases h : x.counting s.inRun = true
  · rw [if_pos h, if_neg (counting.mp h)]
  · rw [if_neg h, if_pos (not_not.mp fun g => h (counting.mpr g))]

/-- A DU emitted, block by block: the drum and the port as they follow from the state it finds, and the items' changes
as `serviceDu` brings them (R43). -/
theorem State.emitDu_eq (s : State) :
    s.emitDu =
      (let total := totalAfter s.accum.total
       let b := s.countDu.serviceDu
       let queue := if total % 100 = 0 ∧ s.lastBound ≠ some total then bindOdometer total s.eeprom.queue
                    else s.eeprom.queue
       { s with
          accum := { s.accum with
            total := total,
            rs := if s.drum.state = .absent then s.accum.rs else if s.fifthDu then 0 else s.accum.rs + 1 },
          trip := s.trip.addDu s.inRun, service := b.service, lamp := b.lamp, chime := b.chime,
          drum := if s.fifthDu then s.drum.owe else s.drum,
          eeprom := { s.eeprom with queue := if total % 10000 = 0 then postOnce .service queue else queue },
          notices := if s.losesStep then postNotice .drum (BitVec.ofNat 16 (256 + drumCode s.drum.state)) b.notices
                     else b.notices }) := by
  have hb := s.countDu.serviceDu_eq
  unfold State.emitDu
  generalize s.countDu.serviceDu = b at *
  rw [hb, State.postTenThousand_eq, State.postHundred_eq, State.drumDu_eq]
  rfl

/-- The notices that a DU posts beside the items' own: the drum's, of the first step lost (R56). -/
theorem State.emitDu_notices (s : State) :
    s.emitDu.notices = if s.losesStep then
        postNotice .drum (BitVec.ofNat 16 (256 + drumCode s.drum.state)) s.countDu.serviceDu.notices
      else s.countDu.serviceDu.notices := by
  rw [State.emitDu_eq]

/-- A DU as the statements spell it out (R43, R47, R51, R56, R74, R140, R152). -/
theorem State.emitDu_emitted (s : State) : duEmitted s s.emitDu := by
  have frame := s.emitDu_eq
  have notices := s.emitDu_notices
  obtain ⟨items, warned, others⟩ := s.countDu.serviceDu_result
  generalize s.emitDu = t at frame notices ⊢
  generalize s.countDu.serviceDu = b at frame notices items warned others
  have service : t.service = b.service := by rw [frame]
  have kept : ∀ p : Notice → Bool, (s.losesStep → ∀ n : Notice, n.key = .drum → p n = false) →
      t.notices.filter p = b.notices.filter p := by
    intro p hp
    rw [notices]
    split
    · next h => exact filter_postNotice (hp h) _ _
    · rfl
  refine ⟨by rw [frame]; rfl, ?_, fun k => ?_, ?_, fun h => ?_, by rw [frame]; rfl, ?_, ?_, by rw [frame]⟩
  · rw [frame]
    simp only [TripComputer.addDu_eq, Trip.addDu_eq]
  · rw [service]
    exact items k
  · rw [frame]
    simp only [ite_not, Drum.owe_eq]
  · refine State.posted_of_notices_eq ?_ (b.notify_posted .drum _)
    rw [notices, if_pos h]
    rfl
  · refine serviceWarned_congr warned service (by rw [frame]) (by rw [frame]) fun k v h => ?_
    exact State.posted_of_filter (p := fun n => decide (n.key ≠ .drum)) (fun n e => by simp [e])
      (kept _ fun _ n e => by simp [e]) h
  · have rest := congrArg (List.filter fun n : Notice => decide (s.losesStep → n.key ≠ .drum)) others
    simp only [List.filter_filter, ← Bool.decide_and] at rest
    simp only [serviceChanged, service]
    exact (kept _ fun h n e => by simp [h, e]).trans rest

/-- Settles O27: off its case the edge changes nothing, and in it the distance residue decides between a count and a DU,
whose reach is `State.emitDu_emitted`. -/
theorem spdEdgeResult : Obligations.SpdEdgeResult := by
  intro s sub hs u edge w e
  rw [exec_spdEdge hs, State.takeSpd_eq]
  have he : (broughtTo s sub).spdEdge = e := broughtTo_spdEdge s sub
  refine ⟨fun h => ?_, fun hrun hedge hlt => ?_, fun hrun hedge hle => ?_⟩
  · rw [if_neg fun g => h.elim (· g.1) (· g.2)]
  · rw [if_pos ⟨hrun, hedge⟩, he]
    exact congrArg Host.Outcome.next (if_neg (Nat.not_le.mpr hlt))
  · have hdu : e.addDistance =
        State.emitDu { e with accum := { s.accum with rd := s.accum.rd + 100 - s.consts.kvss } } := if_pos hle
    rw [if_pos ⟨hrun, hedge⟩, he, hdu]
    exact ⟨_, rfl, State.emitDu_emitted _⟩

end Sys2Proof.Machine
end

section
/-!
SUPPORT and proofs: a change of INJ and an IDX edge (R9, R58, R59), and a discrete change (R19, R162 to R164).
-/
namespace Sys2Proof.Machine

/-! ## INJ and IDX -/

/-- An IDX edge taken at `t`, at the drum in RUN and AWAKE_OFF (R58). -/
theorem State.indexEdge_eq (s : State) (ha : s.awake = true) :
    s.indexEdge =
      (let d : Drum := { s.drum with p := 0, indexKnown := true, sinceIndex := 0 }
       if s.drum.state = .idle ∨ s.drum.state = .stepping then
         if s.drum.indexKnown = false then { s with drum := d }
         else if s.drum.p = 19 ∨ s.drum.p = 0 ∨ s.drum.p = 1 then { s with drum := { d with missCount := 0 } }
         else State.countMiss { s with drum := d }
       else s) := by
  unfold State.indexEdge goodIndex
  simp only [ha, Bool.true_and, Bool.or_eq_true, beq_iff_eq, or_assoc]

/-- The third miss in a row brings FAULT and a DRUM notice (R59, R61). -/
theorem State.countMiss_eq (s : State) :
    s.countMiss =
      if s.drum.missCount < 2 then { s with drum := { s.drum with missCount := s.drum.missCount + 1 } }
      else State.notify { s with drum := { s.drum with state := .fault, missCount := 2 } } .drum
        (if s.drum.lost then 0x0103 else 0x0003) := by
  have word : { s.drum with state := .fault, missCount := 2 }.noticeWord = if s.drum.lost then 0x0103 else 0x0003 := by
    rw [Drum.noticeWord_eq]
    dsimp only
    split <;> rfl
  rw [← word]
  unfold State.countMiss
  simp only [show s.drum.missCount + 1 < 3 ↔ s.drum.missCount < 2 by omega]
  rfl

/-- A change of INJ is taken in RUN when its filter can have accepted one (R1, R2, log entry 5). -/
theorem State.takeInj_eq (s : State) (sub : BitVec 8) :
    s.takeInj sub = if s.power.state = .run ∧ changeDelay s.pulse.inj 1 (broughtTo s sub).now = 0 then
      (broughtTo s sub).injChange else s := by
  unfold State.takeInj
  simp only [State.advancePulse_eq, PulseInput.changeWait_eq, State.inRun, Bool.and_eq_true, beq_iff_eq]
  rfl

/-- An accepted change of INJ closes the on-time up to it and turns the accepted level (R9). -/
theorem State.injChange_eq (s : State) :
    s.injChange = { s with pulse := { s.pulse with
      inj := { s.pulse.inj with accepted := !s.pulse.inj.accepted, pin := !s.pulse.inj.accepted, pending := none,
                                stood := some s.now },
      onTime := min (if s.pulse.inj.accepted = s.pulse.inj.selection then
        s.pulse.onTime + (s.now - s.pulse.injMark).toNat else s.pulse.onTime) 25600,
      injMark := s.now } } := by
  simp only [State.injChange, PulseUnit.reckon, PulseUnit.onTimeAt, PulseUnit.injOpen, beq_iff_eq]
  rfl

/-- An IDX edge is taken while the part is awake, at the earliest time in the present tick that its filter allows (R1,
log entries 5 and 30). -/
theorem State.takeIdx_eq (s : State) :
    s.takeIdx =
      (let time := s.now + BitVec.ofNat 24 (edgeDelay s.pulse.idx s.now)
       if s.awake = true ∧ (time - s.time.fref).toNat < 256 then (s.idxInput time).indexEdge else s) := by
  unfold State.takeIdx
  simp only [Bool.and_eq_true, decide_eq_true_eq]
  rfl

/-- Settles O29: by the equations of INJ's change and of the IDX edge, each case of the statement is one path. -/
theorem injAndIdxEdges : Obligations.InjAndIdxEdges := by
  intro s hs
  refine ⟨fun sub => ?_, ?_⟩
  · rw [exec_injLevelChange hs, State.takeInj_eq]
    refine ⟨fun hrun hchange => ?_, fun h => ?_⟩
    · rw [if_pos ⟨hrun, hchange⟩, State.injChange_eq]
      rfl
    · rw [if_neg fun g => h.elim (· g.1) (· g.2)]
  · intro p time
    rw [exec_idxEdge hs, State.takeIdx_eq]
    refine ⟨fun h => ?_, fun ha ht => ?_⟩
    · rw [if_neg fun g => h.elim (by simp [g.1]) (Nat.not_le.mpr g.2)]
    · intro u d watched good
      have taken : (s.idxInput time).indexEdge = _ := State.indexEdge_eq (s.idxInput time) ha
      rw [if_pos ⟨ha, ht⟩, taken]
      refine ⟨fun hw => ?_, fun hw hk => ?_, fun hw hk hg => ?_, fun hw hk hg hm => ?_, fun hw hk hg hm => ?_⟩
      · exact congrArg Host.Outcome.next (if_neg hw)
      · exact congrArg Host.Outcome.next ((if_pos hw).trans (if_pos hk))
      all_goals
        have hk' : ¬ (s.idxInput time).drum.indexKnown = false := by simpa using hk
      · exact congrArg Host.Outcome.next ((if_pos hw).trans ((if_neg hk').trans (if_pos hg)))
      all_goals
        refine congrArg Host.Outcome.next
          ((if_pos hw).trans ((if_neg hk').trans ((if_neg hg).trans ((State.countMiss_eq _).trans ?_))))
      · exact if_pos hm
      · exact if_neg (Nat.not_lt.mpr hm)

/-! ## A discrete change -/

/-- An input that changes its level changes its active state (R19). -/
theorem Discrete.active_flip (d : Discrete) :
    { d with level := !d.level, timer := 0, due := false }.active = !d.active := by
  unfold Discrete.active
  cases d.level <;> cases d.activeHigh <;> rfl

/-- A discrete change that is due turns the level and is reported (R19, log entry 5). -/
theorem State.discreteChange_eq (s : State) (k : Fin 12) :
    s.discreteChange k =
      (let d := { s.discretes.inputs[k] with level := !s.discretes.inputs[k].level, timer := 0, due := false }
       if s.discretes.inputs[k].due then (s.setDiscrete k d).reportDiscrete d else s) := by
  unfold State.discreteChange State.changeDiscrete
  simp only [Discrete.active_flip, Bool.not_eq_eq_eq_not, Bool.eq_not_self, if_false]

/-- A linger timer restarted in AWAKE_OFF stands at its full time (R162). -/
theorem State.restartLinger_awakeOff {s : State} (h : s.power.state = .awakeOff) :
    s.restartLinger = { s with power := { s.power with linger := .running 30000 } } := by
  rw [State.restartLinger, if_pos h, ← h]
  rfl

/-- A report in AWAKE_OFF restarts the linger timer (R162). -/
theorem State.reportDiscrete_awakeOff {s : State} (h : s.power.state = .awakeOff) (d : Discrete) :
    s.reportDiscrete d = { s with power := { s.power with linger := .running 30000 } } := by
  rw [State.reportDiscrete, h]
  exact State.restartLinger_awakeOff h

/-- A report in ASLEEP wakes the part when the input has the wake attribute and has become active (R164). -/
theorem State.reportDiscrete_asleep {s : State} (h : s.power.state = .asleep) (d : Discrete) :
    s.reportDiscrete d = if d.wake = true ∧ d.level = d.activeHigh then s.wake 2 else s := by
  rw [State.reportDiscrete, h]
  simp only [Discrete.active, Bool.and_eq_true, beq_iff_eq]

/-- A report in another power state changes nothing. -/
theorem State.reportDiscrete_other {s : State} (h : s.power.state ≠ .awakeOff) (g : s.power.state ≠ .asleep)
    (d : Discrete) : s.reportDiscrete d = s := by
  unfold State.reportDiscrete
  split
  · next e => exact absurd e h
  · next e => exact absurd e g
  · rfl

/-- A wake by a discrete input: AWAKE_OFF with the linger timer full, the clocks of ASLEEP started, and a POWER notice
of cause 2 (R163, R164). -/
theorem State.wake_discrete (s : State) :
    s.wake 2 = State.notify
      { s.startClocks with power := { s.power with state := .awakeOff, linger := .running 30000 } } .power 0x0201 := by
  have word : powerWord 2 .awakeOff = 0x0201 := by decide
  rw [← word]
  rfl

/-- Settles O26: a change that is due turns the level, and what its report does follows the power state. -/
theorem discreteChangeResult : Obligations.DiscreteChangeResult := by
  intro s k hs d d' u
  rw [exec_discreteChange hs, State.discreteChange_eq]
  refine ⟨fun hd => ?_, fun hd hp => ?_, fun hd hp hw hl => ?_, fun hd hp => ?_⟩
  · exact congrArg Host.Outcome.next (if_neg (Bool.eq_false_iff.mp hd))
  all_goals
    refine congrArg Host.Outcome.next ((if_pos hd).trans ?_)
  · exact State.reportDiscrete_awakeOff (s := u) hp d'
  · have wakes : d'.wake = true ∧ d'.level = d'.activeHigh := ⟨hw, hl⟩
    exact (State.reportDiscrete_asleep (s := u) hp d').trans ((if_pos wakes).trans u.wake_discrete)
  · rcases hp with hp | hp | ⟨hp, hq⟩
    · exact State.reportDiscrete_other (s := u) (by simp [u, hp]) (by simp [u, hp]) d'
    · exact State.reportDiscrete_other (s := u) (by simp [u, hp]) (by simp [u, hp]) d'
    · refine (State.reportDiscrete_asleep (s := u) hp d').trans (if_neg fun g => ?_)
      exact hq.elim (fun h => by simp [d', h] at g) (fun h => h g.2)

end Sys2Proof.Machine
end

section
/-!
SUPPORT and proofs: a conversion of an analog input (R11 to R16): the fault limits, the decimation sum and the filter
update.
-/
namespace Sys2Proof.Machine

/-! ## The input's place in the sampler -/

theorem State.setAnalog_get (s : State) (i : Fin 6) (a : AnalogInput) : (s.setAnalog i a).sampler.inputs[i] = a :=
  (set_get _ _ _ _).trans (if_pos rfl)

theorem State.setAnalog_setAnalog (s : State) (i : Fin 6) (a b : AnalogInput) :
    (s.setAnalog i a).setAnalog i b = s.setAnalog i b := by
  unfold State.setAnalog
  simp only [Vector.set_set]

/-- A channel whose validity a write changes posts its new code (R25). -/
theorem State.writeChannel_of_ne {s : State} {c : Fin 16} {w : Validity} (h : w ≠ s.channels.records[c].validity)
    (v : Option Nat) :
    s.writeChannel c v (some w) =
      (s.setRecord c (s.channels.records[c].written c v (some w))).notify (.channel c)
        (BitVec.ofNat 16 (validityCode w)) := by
  rw [State.writeChannel_eq]
  exact if_neg h

/-! ## The sample under the fault limits -/

/-- A validity that changes with an input's sample, the channel's value kept, posts its code (R25). -/
theorem State.setAnalog_mark {s : State} {i : Fin 6} {w : Validity}
    (h : w ≠ s.channels.records[analogChannel i].validity) (a : AnalogInput) :
    (s.setAnalog i a).writeChannel (analogChannel i) none (some w) =
      ((s.setRecord (analogChannel i) { s.channels.records[analogChannel i] with validity := w }).setAnalog i a).notify
        (.channel (analogChannel i)) (BitVec.ofNat 16 (validityCode w)) :=
  State.writeChannel_of_ne (s := s.setAnalog i a) h none

theorem State.sampleDue_iff (s : State) (i : Fin 6) :
    (s.inRun && s.sampler.inputs[i].due) = true ↔ s.power.state = .run ∧ s.sampler.inputs[i].due = true := by
  rw [Bool.and_eq_true, State.inRun, beq_iff_eq]

/-- A conversion that is due clears its mark, and is taken by the channel's validity (R11, R12). -/
theorem State.analogSample_due {s : State} {i : Fin 6} (hrun : s.power.state = .run)
    (hdue : s.sampler.inputs[i].due = true) (raw : Nat) :
    s.analogSample i raw =
      if s.channels.records[analogChannel i].validity = .fault then
        (s.setAnalog i { s.sampler.inputs[i] with due := false }).sampleFaulted i raw
      else (s.setAnalog i { s.sampler.inputs[i] with due := false }).sampleSound i raw := by
  unfold State.analogSample
  rw [if_pos ((s.sampleDue_iff i).mpr ⟨hrun, hdue⟩)]
  rfl

/-- A sample taken while the channel is FAULT: the fifth in range in a row clears it (R12). -/
theorem State.sampleFaulted_eq (s : State) (i : Fin 6) (a : AnalogInput) (raw : Nat) :
    (s.setAnalog i a).sampleFaulted i raw =
      if raw ≤ a.low ∨ a.high ≤ raw then s.setAnalog i { a with inCount := 0 }
      else if a.inCount < 4 then s.setAnalog i { a with inCount := a.inCount + 1 }
      else (s.setAnalog i { a with inCount := 0 }).writeChannel (analogChannel i) none
        (some (if s.curveOf a.curve = [] then .absent else .valid)) := by
  unfold State.sampleFaulted AnalogInput.outside
  simp only [State.setAnalog_get, State.setAnalog_setAnalog, decide_eq_true_eq, Nat.succ_lt_succ_iff]
  rfl

/-- A sample taken while the channel is not FAULT: the fifth out of range in a row faults it, and one in range joins the
sum or fills it (R11, R13). -/
theorem State.sampleSound_eq (s : State) (i : Fin 6) (a : AnalogInput) (raw : Nat) :
    (s.setAnalog i a).sampleSound i raw =
      if raw ≤ a.low ∨ a.high ≤ raw then
        if a.outCount < 4 then s.setAnalog i { a with outCount := a.outCount + 1 }
        else (s.setAnalog i { a with sum := 0, count := 0, outCount := 0, inCount := 0 }).writeChannel
          (analogChannel i) none (some .fault)
      else if a.count + 1 < a.decimation then
        s.setAnalog i { a with outCount := 0, sum := a.sum + raw, count := a.count + 1 }
      else (s.setAnalog i { a with sum := 0, count := 0, outCount := 0 }).filterUpdate i
        (roundDiv (a.sum + raw) (a.count + 1)) := by
  unfold State.sampleSound AnalogInput.outside
  simp only [State.setAnalog_get, State.setAnalog_setAnalog, decide_eq_true_eq, Nat.succ_lt_succ_iff]
  rfl

/-- Settles O32: by the sample's equations under the fault limits, with the notices of the changes to and from FAULT. -/
theorem analogSampleResult : Obligations.AnalogSampleResult := by
  intro s i raw hs a c with' mark out faulted
  rw [exec_analogSample hs]
  refine ⟨fun h => ?_, fun hrun hdue => ?_⟩
  · refine congrArg Host.Outcome.next (if_neg fun g => ?_)
    obtain ⟨hrun, hdue⟩ := (s.sampleDue_iff i).mp g
    exact h.elim (fun e => e hrun) (fun e => Bool.eq_false_iff.mp e hdue)
  · rw [State.analogSample_due hrun hdue, State.sampleFaulted_eq, State.sampleSound_eq]
    refine ⟨fun hf ho hn => ?_, fun hf ho hn => ?_, fun hf ho hn => ?_, fun hf ho => ?_, fun hf ho hn => ?_,
      fun hf ho hn hc => ?_, fun hf ho hn hc => ?_⟩ <;> refine congrArg Host.Outcome.next ?_
    · exact (if_neg hf).trans ((if_pos ho).trans (if_pos hn))
    · refine (if_neg hf).trans ((if_pos ho).trans ((if_neg (Nat.not_lt.mpr hn)).trans ?_))
      exact State.setAnalog_mark (Ne.symm hf) _
    · exact (if_neg hf).trans ((if_neg ho).trans (if_pos hn))
    · exact (if_pos hf).trans (if_pos ho)
    · exact (if_pos hf).trans ((if_neg ho).trans (if_pos hn))
    · refine (if_pos hf).trans ((if_neg ho).trans ((if_neg (Nat.not_lt.mpr hn)).trans ?_))
      rw [if_neg hc]
      exact State.setAnalog_mark (fun e => by cases e.trans hf) _
    · refine (if_pos hf).trans ((if_neg ho).trans ((if_neg (Nat.not_lt.mpr hn)).trans ?_))
      rw [if_pos hc]
      exact State.setAnalog_mark (fun e => by cases e.trans hf) _

end Sys2Proof.Machine
end

section
/-!
SUPPORT and proof: the filter update that a full decimation sum makes (R13 to R16).
-/
namespace Sys2Proof.Machine

/-- The ranges of the analog channels (00_scope section 5.1). -/
theorem channelTop_analog (i : Fin 6) : channelTop (analogChannel i) =
    if analogChannel i = 3 ∨ analogChannel i = 6 ∨ analogChannel i = 7 then 255 else 65535 := by
  revert i
  decide

theorem distance_eq_abs (a b : Nat) : (distance a b : Int) = |(a : Int) - b| := by
  unfold distance
  rcases le_total a b with h | h
  · rw [abs_of_nonpos (by omega)]
    omega
  · rw [abs_of_nonneg (by omega)]
    omega

/-- The test of the fast fill, as R16 states it. -/
theorem AnalogInput.fills_iff (a : AnalogInput) (m value : Nat) (v : Validity) :
    a.fills m value v = true ↔
      v = .absent ∨ (a.armed = true ∧ a.threshold ≠ 0 ∧ (a.threshold : Int) ≤ |(m : Int) - value|) := by
  unfold AnalogInput.fills
  rw [← distance_eq_abs, Int.ofNat_le]
  simp [and_assoc]

/-- A filter update without a usable curve makes the channel ABSENT, its value and F kept (R14). -/
theorem State.filterUpdate_of_none {s : State} {i : Fin 6} {a : AnalogInput} {mean : Nat}
    (h : curveAt (s.curveOf a.curve) mean = none) :
    (s.setAnalog i a).filterUpdate i mean = (s.setAnalog i a).writeChannel (analogChannel i) none (some .absent) := by
  have hc : curveAt ((s.setAnalog i a).curveOf a.curve) mean = none := h
  simp only [State.filterUpdate, State.setAnalog_get, hc]

/-- A filter update with the mean converted fills F or steps it toward the mean, and writes F / 256 (R14 to R16). -/
theorem State.filterUpdate_of_some {s : State} {i : Fin 6} {a : AnalogInput} {mean y : Nat}
    (h : curveAt (s.curveOf a.curve) mean = some y) :
    (s.setAnalog i a).filterUpdate i mean =
      (let r := s.channels.records[analogChannel i]
       let m := min y (channelTop (analogChannel i))
       let f := if r.validity = .absent ∨
            (a.armed = true ∧ a.threshold ≠ 0 ∧ (a.threshold : Int) ≤ |(m : Int) - r.value|)
          then m * 256 else ((a.filter : Int) + ((m : Int) * 256 - a.filter).tdiv (2 ^ a.shift)).toNat
       (s.setAnalog i { a with filter := f, armed := false }).writeChannel (analogChannel i)
        (some ((2 * f + 256) / 512)) (some .valid)) := by
  have hc : curveAt ((s.setAnalog i a).curveOf a.curve) mean = some y := h
  simp only [State.filterUpdate, State.setAnalog_get, hc, State.setAnalog_setAnalog, AnalogInput.fills_iff]
  rfl

/-- Settles O33: the full sum makes a filter update, and the write of the channel posts when its validity changes. -/
theorem filterUpdateResult : Obligations.FilterUpdateResult := by
  intro s i raw hrun hdue a c r top mean u post hf hlow hhigh hfull
  have hs : s.power.state ≠ .held := by simp [hrun]
  have inside : ¬ (raw.toNat ≤ a.low ∨ a.high ≤ raw.toNat) := by omega
  let b : AnalogInput := { a with sum := 0, count := 0, outCount := 0, due := false }
  have update : exec (.analogSample i raw) s = .next ((s.setAnalog i b).filterUpdate i mean) := by
    rw [exec_analogSample hs, State.analogSample_due hrun hdue, State.sampleSound_eq]
    exact congrArg Host.Outcome.next
      ((if_neg hf).trans ((if_neg inside).trans (if_neg (Nat.not_lt.mpr hfull))))
  rw [update]
  refine ⟨fun hcurve => ?_, fun y hcurve => ?_⟩
  · rw [State.filterUpdate_of_none (a := b) hcurve]
    exact congrArg Host.Outcome.next (State.writeChannel_eq _ _ _ _)
  · intro m fills f r'
    have htop : channelTop (analogChannel i) = top := channelTop_analog i
    rw [State.filterUpdate_of_some (a := b) hcurve]
    refine congrArg Host.Outcome.next ((State.writeChannel_eq _ _ _ _).trans ?_)
    simp only [Channel.written, Option.map_some, Option.getD_some, htop]
    rfl

end Sys2Proof.Machine
end

section
/-!
SUPPORT and proof: a tick, block by block (R19, R20 and the timers of every block).
-/
namespace Sys2Proof.Machine

/-! ## The pins -/

/-- A discrete input's sample: a change that is due waits, and one that has differed for the debounce time falls due
(R19, log entry 5). -/
theorem Discrete.sample_eq (d : Discrete) (pin : Bool) :
    d.sample pin =
      if d.due then { d with pin := pin }
      else if pin = d.level then { d with pin := pin, timer := 0 }
      else if d.debounce ≤ d.timer + 1 then { d with pin := pin, timer := 0, due := true }
      else { d with pin := pin, timer := d.timer + 1 } := by
  unfold Discrete.sample
  simp only [← Nat.not_le, ite_not]

/-- IGN's sample: its level turns when its pin has differed for 50 ms (R20, log entry 29). -/
theorem Ignition.sample_eq (g : Ignition) (pin : Bool) :
    g.sample pin =
      if pin = g.level then { g with pin := pin, timer := 0 }
      else if 50 ≤ g.timer + 1 then { level := pin, timer := 0, pin := pin }
      else { g with pin := pin, timer := g.timer + 1 } := by
  unfold Ignition.sample Config.ignDebounceMs
  simp only [← Nat.not_le, ite_not]

/-! ## The timers -/

/-- The linger timer counts in AWAKE_OFF (R162). -/
theorem PowerControl.tick_eq (p : PowerControl) :
    p.tick = { p with
      linger := match p.linger with
        | .running n => if p.state = .awakeOff then .running (n - 1) else .running n
        | l => l } := by
  obtain ⟨state, linger, _, _, _, _, _, _, _⟩ := p
  cases linger <;> cases state <;> rfl

/-- The sampler's clock in RUN: every 20 ms each input's conversion falls due (R11). -/
theorem Sampler.tick_inputs (u : Sampler) (run : Bool) (i : Fin 6) :
    (if run then u.tick else u).inputs[i] =
      { u.inputs[i] with due := u.inputs[i].due || (run && decide (19 ≤ u.clock)) } := by
  unfold Sampler.tick
  cases run
  · simp
  · by_cases h : 19 ≤ u.clock
    · simp only [if_true, show ¬ u.clock + 1 < 20 by omega, if_false, vmap_get, h, decide_true, Bool.and_true,
        Bool.or_true]
    · simp [h, show u.clock + 1 < 20 by omega]

theorem Sampler.tick_clock (u : Sampler) (run : Bool) :
    (if run then u.tick else u).clock = if run then (if 19 ≤ u.clock then 0 else u.clock + 1) else u.clock := by
  unfold Sampler.tick
  cases run
  · rfl
  · by_cases h : 19 ≤ u.clock
    · simp [h, show ¬ u.clock + 1 < 20 by omega]
    · simp [h, show u.clock + 1 < 20 by omega]

/-- The evaluation clock: every 100 ms each monitor's evaluation falls due (R100). -/
theorem MonitorTable.tick_monitors (t : MonitorTable) (i : Fin 16) :
    t.tick.monitors[i] =
      { t.monitors[i] with due := t.monitors[i].due || (t.clock.map fun c => decide (99 ≤ c)).getD false } := by
  unfold MonitorTable.tick
  cases t.clock with
  | none => simp
  | some c =>
    by_cases h : 99 ≤ c
    · simp only [show ¬ c + 1 < 100 by omega, if_false, vmap_get, Option.map_some, Option.getD_some, h, decide_true,
        Bool.or_true]
    · simp [h, show c + 1 < 100 by omega]

theorem MonitorTable.tick_clock (t : MonitorTable) :
    t.tick.clock = t.clock.map fun c => if 99 ≤ c then 0 else c + 1 := by
  unfold MonitorTable.tick
  cases h : t.clock with
  | none => exact h
  | some c =>
    by_cases h : 99 ≤ c
    · simp [h, show ¬ c + 1 < 100 by omega]
    · simp [h, show c + 1 < 100 by omega]

/-- The window clock counts in RUN (R10). -/
theorem PulseUnit.tick_eq (u : PulseUnit) (run : Bool) :
    u.tick run = { u with windowClock := if run then u.windowClock + 1 else u.windowClock } := by
  cases run <;> rfl

/-- The motion clock counts in the power states, and SYNC's pulse and the sweep's timers while they run (R81, R88,
R91). -/
theorem GaugeUnit.tick_eq (u : GaugeUnit) (moving : Bool) :
    u.tick moving = { u with
      clock := if moving then u.clock + 1 else u.clock, syncPulse := u.syncPulse.map (· - 1),
      sweep := { u.sweep with delayTimer := u.sweep.delayTimer.map (· - 1),
                              timeout := u.sweep.timeout.map (· - 1) } } := rfl

/-- The step timer and the gap count (R123, R124). -/
theorem ChimeUnit.tick_eq (u : ChimeUnit) :
    u.tick = { u with
      sequencer := match u.sequencer with
        | .idle => .idle
        | .playing steps k left => .playing steps k (left - 1)
        | .gap left => .gap (left - 1) } := by
  obtain ⟨_, sequencer, _⟩ := u
  cases sequencer <;> rfl

/-- The assembler's wait counts within a frame (R171). -/
theorem Link.tick_eq (l : Link) :
    l.tick = { l with gap := if l.assembler = .hunt then l.gap else l.gap + 1 } := by
  obtain ⟨assembler, _, _, _⟩ := l
  cases assembler <;> rfl

/-- The coils' clock counts while the part is awake and they are energised (R57). -/
theorem Drum.tick_awake (d : Drum) (awake : Bool) :
    (if awake then d.tick else d) = if awake = true ∧ d.coils = true then { d with clock := d.clock + 1 } else d := by
  unfold Drum.tick
  cases awake <;> simp

/-! ## The tick -/

/-- A part that runs is in INIT or in one of its three power states. -/
theorem State.powered_iff {s : State} (h : s.power.state ≠ .held) : s.powered = true ↔ s.power.state ≠ .init := by
  unfold State.powered State.awake
  revert h
  cases s.power.state <;> decide

/-- A tick of a part not held in reset, block by block. -/
theorem State.tick_eq {s : State} (h : s.power.state ≠ .held) (di : BitVec 12) (ign : Bool) (pulse : BitVec 5) :
    s.tick di ign pulse = { s with
      time := s.time.tick, power := s.power.tick, pulse := (pulsesFound s pulse (s.time.fref + 256)).tick s.inRun,
      sampler := if s.inRun then s.sampler.tick else s.sampler, discretes := s.discretes.sample di ign,
      channels := s.tickFreshness.channels, drum := if s.awake then s.drum.tick else s.drum, trip := s.trip.tick,
      gauge := { s.gauge with sync := syncFound s (pulse.getLsbD 4) (s.time.fref + 256) }.tick s.powered,
      monitor := s.monitor.tick, chime := if s.awake then s.chime.tick else s.chime, lamp := s.lamp.tick s.awake,
      eeprom := s.eeprom.tick, link := s.link.tick } := by
  rw [State.tick, if_neg h, ← PulseUnit.sample_eq, ← GaugeUnit.sample_sync]
  rfl

/-- Settles O24: each block's timer by its own equation. -/
theorem tickResult : Obligations.TickResult := by
  intro s di ign pulse hs
  refine ⟨s.tick di ign pulse, exec_tick hs di ign pulse, ?_⟩
  have run : s.inRun = decide (s.power.state = .run) := rfl
  have tick := State.tick_eq hs di ign pulse
  generalize s.tick di ign pulse = t at tick ⊢
  refine ⟨?_, ?_, ?_, fun i => ?_, ?_, fun k => ?_, ?_, ?_, fun e => ?_, ?_, ?_, ?_, fun i => ?_, ?_, ?_,
    ?_, ?_, ?_, ?_⟩
  all_goals rw [tick]
  · rfl
  · exact PowerControl.tick_eq _
  · rw [PulseUnit.tick_eq, run]
    simp only [decide_eq_true_eq]
    rfl
  · exact Sampler.tick_inputs _ _ i
  · refine (Sampler.tick_clock _ _).trans ?_
    simp only [run, decide_eq_true_eq]
  · exact (ofRange_get _ _ k).trans (Discrete.sample_eq _ _)
  · exact Ignition.sample_eq _ _
  · rfl
  · exact vmap_get _ _ e
  · exact Drum.tick_awake _ _
  · rfl
  · rw [GaugeUnit.tick_eq]
    simp only [State.powered_iff hs, ne_eq, ite_not]
  · rw [MonitorTable.tick_monitors]
    cases s.monitor.clock <;> rfl
  · exact MonitorTable.tick_clock _
  · exact congrArg (fun u => if s.awake then u else s.chime) (ChimeUnit.tick_eq _)
  · rfl
  · rfl
  · exact Link.tick_eq _

end Sys2Proof.Machine
end

section
/-!
SUPPORT and proof: a window close at SPEED and ENGINE (R5 to R8), and its CHANNEL notices (R25).
-/
namespace Sys2Proof.Machine

/-! ## The close of one window -/

/-- What R5 to R8 say of the close at `now` of window `w`, whose channel stood as `r`: the next window `w'` and the
channel `r'`, which holds at most `top`, by the rate of so many edges over a span. -/
def closesBy (now : Stamp) (w w' : Window) (r r' : Channel) (top : Nat) (rate : Nat → Nat → Nat) : Prop :=
  let kept := r'.value = r.value ∧ r'.validity = r.validity
  r'.hold = r.hold ∧
  (w.overrun = true → r'.value = r.value ∧ r'.validity = .fault ∧ w' = { Window.initial with loss := w.loss }) ∧
  (w.overrun = false → 1 ≤ w.n → ∀ last, w.tLast = some last →
    w'.n = 0 ∧ w'.overrun = false ∧ w'.tLast = none ∧ w'.tRef = some last ∧ w'.loss = w.loss ∧
    (∀ ref, w.tRef = some ref → 0 < (last - ref).toNat →
      r'.value = min (rate w.n (last - ref).toNat) top ∧ r'.validity = .valid ∧
      w'.pPrev = some ((last - ref).toNat / w.n)) ∧
    (w.tRef = none → r'.value = r.value ∧ r'.validity = (if r.validity = .fault then .valid else r.validity) ∧
      w'.pPrev = w.pPrev)) ∧
  (w.overrun = false → w.n = 0 →
    (w.tRef = none → r'.value = 0 ∧ r'.validity = .valid ∧ w' = { w with pPrev := none }) ∧
    (∀ ref, w.tRef = some ref →
      let tau := (now - ref).toNat
      (w.loss < tau → r'.value = 0 ∧ r'.validity = .valid ∧ w' = { w with tRef := none, pPrev := none }) ∧
      (tau ≤ w.loss → w' = w) ∧
      (tau ≤ w.loss → w.pPrev = none → kept) ∧
      (∀ p, tau ≤ w.loss → w.pPrev = some p → tau ≤ p → kept) ∧
      (∀ p, tau ≤ w.loss → w.pPrev = some p → p < tau → r'.value = min (rate 1 tau) top ∧ r'.validity = .valid)))

section
variable {w : Window} (now : Stamp) (validity : Validity) (value : Nat → Nat → Nat)

/-- An overrun: FAULT with the value kept, and the window emptied (R7). -/
theorem Window.close_overrun (h : w.overrun = true) :
    w.result now validity value = (none, some .fault) ∧ w.next now = { Window.initial with loss := w.loss } := by
  simp [Window.result, Window.next, h, Window.initial]

/-- Edges with a reference: the rate over their span, and the last edge the next reference (R5). -/
theorem Window.close_edges {last ref : Stamp} (ho : w.overrun = false) (hn : w.n ≠ 0) (hl : w.tLast = some last)
    (hr : w.tRef = some ref) :
    w.result now validity value = (some (value w.n (span last ref)), some .valid) ∧
    w.next now = { w with n := 0, tLast := none, tRef := some last, pPrev := some (span last ref / w.n) } := by
  simp [Window.result, Window.next, ho, hn, hl, hr]

/-- The first edges without a reference: the value kept, FAULT cleared, and the last edge the next reference (R5). -/
theorem Window.close_firstEdges {last : Stamp} (ho : w.overrun = false) (hn : w.n ≠ 0) (hl : w.tLast = some last)
    (hr : w.tRef = none) :
    w.result now validity value = (none, if validity = .fault then some .valid else none) ∧
    w.next now = { w with n := 0, tLast := none, tRef := some last } := by
  simp [Window.result, Window.next, ho, hn, hl, hr]

/-- No edge and no reference: 0 (R6). -/
theorem Window.close_still (ho : w.overrun = false) (hn : w.n = 0) (hr : w.tRef = none) :
    w.result now validity value = (some 0, some .valid) ∧ w.next now = { w with pPrev := none } := by
  simp [Window.result, Window.next, ho, hn, hr]

/-- No edge for longer than the loss timeout: 0, and the reference gone (R6). -/
theorem Window.close_lost {ref : Stamp} (ho : w.overrun = false) (hn : w.n = 0) (hr : w.tRef = some ref)
    (h : w.loss < span now ref) :
    w.result now validity value = (some 0, some .valid) ∧ w.next now = { w with tRef := none, pPrev := none } := by
  simp [Window.result, Window.next, ho, hn, hr, h]

/-- No edge within the loss timeout: the decay estimate once the last period has passed, and the window kept (R6). -/
theorem Window.close_decay {ref : Stamp} (ho : w.overrun = false) (hn : w.n = 0) (hr : w.tRef = some ref)
    (h : span now ref ≤ w.loss) :
    (∀ p, w.pPrev = some p → p < span now ref →
      w.result now validity value = (some (value 1 (span now ref)), some .valid)) ∧
    ((∀ p, w.pPrev = some p → span now ref ≤ p) → w.result now validity value = (none, none)) ∧
    w.next now = w := by
  have hl : ¬ w.loss < span now ref := Nat.not_lt.mpr h
  refine ⟨fun p hp hlt => ?_, fun hkept => ?_, ?_⟩
  · simp [Window.result, ho, hn, hr, hl, hp, hlt]
  · cases hp : w.pPrev with
    | none => simp [Window.result, ho, hn, hr, hl, hp]
    | some p => simp [Window.result, ho, hn, hr, hl, hp, Nat.not_lt.mpr (hkept p hp)]
  · simp [Window.next, ho, hn, hr, hl]

end

/-- The model's close meets R5 to R8, for a value that is the rate at its channel's top over every span but 0. -/
theorem Window.closes (w : Window) (now : Stamp) (r : Channel) (c : Fin 16) (value rate : Nat → Nat → Nat)
    (hvalue : ∀ n span, 0 < span → value n span = min (rate n span) (channelTop c)) :
    let result := w.result now r.validity value
    closesBy now w (w.next now) r (r.written c result.1 result.2) (channelTop c) rate := by
  have clamp : ∀ n span, 0 < span → min (value n span) (channelTop c) = min (rate n span) (channelTop c) := by
    intro n span h
    rw [hvalue n span h, min_assoc, min_self]
  refine ⟨rfl, fun ho => ?_, fun ho hn last hlast => ?_, fun ho hn => ⟨fun href => ?_, fun ref href => ?_⟩⟩
  · obtain ⟨result, next⟩ := Window.close_overrun now r.validity value ho
    rw [result, next]
    exact ⟨rfl, rfl, rfl⟩
  · have hn' : w.n ≠ 0 := Nat.pos_iff_ne_zero.mp hn
    cases href : w.tRef with
    | none =>
      obtain ⟨result, next⟩ := Window.close_firstEdges now r.validity value ho hn' hlast href
      rw [result, next]
      refine ⟨rfl, ho, rfl, rfl, rfl, nofun, fun _ => ⟨rfl, ?_, rfl⟩⟩
      split <;> rfl
    | some ref =>
      obtain ⟨result, next⟩ := Window.close_edges now r.validity value ho hn' hlast href
      rw [result, next]
      refine ⟨rfl, ho, rfl, rfl, rfl, fun ref' e h => ?_, nofun⟩
      cases e
      exact ⟨clamp _ _ h, rfl, rfl⟩
  · obtain ⟨result, next⟩ := Window.close_still now r.validity value ho hn href
    rw [result, next]
    exact ⟨Nat.zero_min _, rfl, rfl⟩
  · refine ⟨fun h => ?_, fun h => ?_, fun h hp => ?_, fun p h hp hle => ?_, fun p h hp hlt => ?_⟩
    · obtain ⟨result, next⟩ := Window.close_lost now r.validity value ho hn href h
      rw [result, next]
      exact ⟨Nat.zero_min _, rfl, rfl⟩
    all_goals
      obtain ⟨decay, kept, next⟩ := Window.close_decay now r.validity value ho hn href h
    · exact next
    · rw [kept fun p e => by cases hp.symm.trans e]
      exact ⟨rfl, rfl⟩
    · rw [kept fun q e => by cases hp.symm.trans e; exact hle]
      exact ⟨rfl, rfl⟩
    · rw [decay p hp hlt]
      exact ⟨clamp _ _ (Nat.zero_lt_of_lt hlt), rfl⟩

/-! ## The two windows, and the Trip Computer's writes beside them -/

/-- Of a positive divisor, a rate is the rounded quotient (R8). -/
theorem rate_of_pos {num den : Nat} (h : 0 < den) : rate num den = (2 * num + den) / (2 * den) :=
  if_neg (Nat.pos_iff_ne_zero.mp h)

theorem channelNotices_refl (s : State) : channelNotices s s := fun _ h => absurd rfl h

/-- SPEED and ENGINE as the PIU writes them at a close (R5 to R8). -/
theorem State.closeWindows_speed (s : State) :
    s.closeWindows.channels.records[(0 : Fin 16)] =
      (let result := s.pulse.spdWindow.result s.now s.channels.records[(0 : Fin 16)].validity (speedOf s.consts.kvss)
       s.channels.records[(0 : Fin 16)].written 0 result.1 result.2) :=
  (State.writeChannel_record_of_ne (s.writeSpeed s.now) (by decide) _ _).trans (State.writeChannel_record_same s 0 _ _)

theorem State.closeWindows_engine (s : State) :
    s.closeWindows.channels.records[(1 : Fin 16)] =
      (let result := s.pulse.tacWindow.result s.now s.channels.records[(1 : Fin 16)].validity (engineOf s.consts.ppr)
       s.channels.records[(1 : Fin 16)].written 1 result.1 result.2) := by
  have other : (s.writeSpeed s.now).channels.records[(1 : Fin 16)] = s.channels.records[(1 : Fin 16)] :=
    State.writeChannel_record_of_ne s (by decide) _ _
  have windows : (s.writeSpeed s.now).pulse = s.pulse := by simp [State.writeSpeed]
  have constants : (s.writeSpeed s.now).consts = s.consts := by simp [State.writeSpeed]
  refine (State.writeChannel_record_same (s.writeSpeed s.now) 1 _ _).trans ?_
  simp only [State.measured, other, windows, constants]

/-- A close of the PIU's windows writes no other channel. -/
theorem State.closeWindows_record_of_ne (s : State) ⦃k : Fin 16⦄ (h0 : k ≠ 0) (h1 : k ≠ 1) :
    s.closeWindows.channels.records[k] = s.channels.records[k] :=
  (State.writeChannel_record_of_ne (s.writeSpeed s.now) h1 _ _).trans (State.writeChannel_record_of_ne s h0 _ _)

/-- INST_CONSUMPTION is written once (R73). -/
theorem State.writeConsumption_eq (s : State) : ∃ v w, s.writeConsumption = s.writeChannel 9 v w := by
  unfold State.writeConsumption
  dsimp only
  split
  · exact ⟨_, _, rfl⟩
  · exact ⟨_, _, rfl⟩

/-- FUEL_FLOW and then INST_CONSUMPTION are written (R72, R73). -/
theorem State.tripWindow_eq (s : State) (c : Nat) : ∃ v w v' w',
    s.tripWindow c =
      (State.writeChannel { s with trip := { s.trip with history := pushFlow s.trip.history c } } 8 v w).writeChannel
        9 v' w' := by
  obtain ⟨v', w', h⟩ := (State.writeChannel { s with trip := { s.trip with history := pushFlow s.trip.history c } } 8
    (some (fuelFlow (pushFlow s.trip.history c) s.consts.cinj)) (some .valid)).writeConsumption_eq
  exact ⟨_, _, v', w', h⟩

/-- The Trip Computer's handling of a window writes no other channel. -/
theorem State.tripWindow_record_of_ne (s : State) (c : Nat) ⦃k : Fin 16⦄ (h8 : k ≠ 8) (h9 : k ≠ 9) :
    (s.tripWindow c).channels.records[k] = s.channels.records[k] := by
  obtain ⟨v, w, v', w', h⟩ := s.tripWindow_eq c
  rw [h, State.writeChannel_record_of_ne _ h9, State.writeChannel_record_of_ne _ h8]

/-- SPEED and ENGINE, unchanged before, are written with their CHANNEL notices (R25). -/
theorem channelNotices_closeWindows {s t : State} (h : channelNotices s t)
    (h0 : t.channels.records[(0 : Fin 16)] = s.channels.records[(0 : Fin 16)])
    (h1 : t.channels.records[(1 : Fin 16)] = s.channels.records[(1 : Fin 16)]) : channelNotices s t.closeWindows := by
  have speed : channelNotices s (t.writeSpeed t.now) := channelNotices_writeChannel h 0 (by rw [h0]) _ _
  refine channelNotices_writeChannel speed 1 ?_ _ _
  rw [State.writeSpeed, State.writeChannel_record_of_ne _ (by decide), h1]

/-- FUEL_FLOW and INST_CONSUMPTION, unchanged before, are written with their CHANNEL notices (R25). -/
theorem channelNotices_tripWindow {s t : State} (h : channelNotices s t) (c : Nat)
    (h8 : t.channels.records[(8 : Fin 16)] = s.channels.records[(8 : Fin 16)])
    (h9 : t.channels.records[(9 : Fin 16)] = s.channels.records[(9 : Fin 16)]) :
    channelNotices s (t.tripWindow c) := by
  obtain ⟨v, w, v', w', e⟩ := t.tripWindow_eq c
  have flow : channelNotices s
      (State.writeChannel { t with trip := { t.trip with history := pushFlow t.trip.history c } } 8 v w) :=
    channelNotices_writeChannel (t := { t with trip := { t.trip with history := pushFlow t.trip.history c } }) h 8
      (by rw [h8]) v w
  rw [e]
  refine channelNotices_writeChannel flow 9 ?_ v' w'
  rw [State.writeChannel_record_of_ne _ (by decide), h9]

/-- The boundary of a window leaves the channels, their notices and the windows of SPD and TAC (R9, R10). -/
theorem State.openWindow_keeps (s v : State) :
    v.openWindow.channels = v.channels ∧ v.openWindow.pulse.spdWindow = v.pulse.spdWindow ∧
    v.openWindow.pulse.tacWindow = v.pulse.tacWindow ∧ (channelNotices s v → channelNotices s v.openWindow) :=
  ⟨rfl, rfl, rfl, id⟩

/-- What the close of the windows from `s`, which leaves `t`, does to SPEED and ENGINE: the state `u` in which the PIU
closes its windows has the windows, the time, the constants and both channels of `s`, and what it writes stands. -/
structure ClosedFrom (s u t : State) : Prop where
  pulse : u.pulse = s.pulse
  time : u.time = s.time
  consts : u.consts = s.consts
  before : ∀ k : Fin 16, k = 0 ∨ k = 1 → u.channels.records[k] = s.channels.records[k]
  after : ∀ k : Fin 16, k = 0 ∨ k = 1 → t.channels.records[k] = u.closeWindows.channels.records[k]
  spdWindow : t.pulse.spdWindow = u.closeWindows.pulse.spdWindow
  tacWindow : t.pulse.tacWindow = u.closeWindows.pulse.tacWindow
  notices : channelNotices s t

/-- The close of the windows, on whichever side of the Trip Computer's handling the PIU's comes (R73). -/
theorem State.closeWindow_closed (s : State) (tripFirst : Bool) :
    ∃ u : State, ClosedFrom s u (s.closeWindow tripFirst) := by
  generalize hc : s.pulse.onTimeAt s.now = c
  have apart : ∀ k : Fin 16, k = 0 ∨ k = 1 → k ≠ 8 ∧ k ≠ 9 := by decide
  have start : channelNotices s (s.addOnTime c) := channelNotices_refl s
  cases tripFirst
  · have e : s.closeWindow false = ((s.addOnTime c).closeWindows.tripWindow c).openWindow := by rw [← hc]; rfl
    have piu := (s.addOnTime c).closeWindows_record_of_ne
    have trip := (s.addOnTime c).closeWindows.tripWindow_record_of_ne c
    have pulse : ((s.addOnTime c).closeWindows.tripWindow c).pulse = (s.addOnTime c).closeWindows.pulse := by simp
    have notices := channelNotices_tripWindow (channelNotices_closeWindows start rfl rfl) c
      (piu (by decide) (by decide)) (piu (by decide) (by decide))
    obtain ⟨channels, spd, tac, keeps⟩ := s.openWindow_keeps ((s.addOnTime c).closeWindows.tripWindow c)
    rw [e]
    refine ⟨s.addOnTime c, rfl, rfl, rfl, fun k _ => rfl, fun k hk => ?_, ?_, ?_, keeps notices⟩
    · rw [channels, trip (apart k hk).1 (apart k hk).2]
    · rw [spd, pulse]
    · rw [tac, pulse]
  · have e : s.closeWindow true = ((s.addOnTime c).tripWindow c).closeWindows.openWindow := by rw [← hc]; rfl
    have trip := (s.addOnTime c).tripWindow_record_of_ne c
    have notices := channelNotices_closeWindows (channelNotices_tripWindow start c rfl rfl)
      (trip (by decide) (by decide)) (trip (by decide) (by decide))
    obtain ⟨channels, spd, tac, keeps⟩ := s.openWindow_keeps ((s.addOnTime c).tripWindow c).closeWindows
    rw [e]
    exact ⟨(s.addOnTime c).tripWindow c, by simp, by simp, by simp, fun k hk => trip (apart k hk).1 (apart k hk).2,
      fun k _ => by rw [channels], spd, tac, keeps notices⟩

/-- Settles O30: the PIU's close of each window meets R5 to R8, and the Trip Computer's handling leaves SPEED and
ENGINE as the PIU wrote them. -/
theorem windowCloseSpeeds : Obligations.WindowCloseSpeeds := by
  intro s tripFirst hrun hclock
  have hs : s.power.state ≠ .held := by simp [hrun]
  have due : s.windowDue = true := by simp [State.windowDue, State.inRun, hrun, hclock]
  obtain ⟨u, pulse, time, consts, before, after, spd, tac, notices⟩ := s.closeWindow_closed tripFirst
  have now : u.now = s.now := by rw [State.now, time]; rfl
  refine ⟨s.closeWindow tripFirst, (exec_windowClose hs tripFirst).trans (congrArg _ (if_pos due)), notices, ?_⟩
  intro rule hkvss hppr
  have speed := after 0 (.inl rfl)
  have engine := after 1 (.inr rfl)
  rw [State.closeWindows_speed, pulse, now, consts, before 0 (.inl rfl)] at speed
  rw [State.closeWindows_engine, pulse, now, consts, before 1 (.inr rfl)] at engine
  have spd' : (s.closeWindow tripFirst).pulse.spdWindow = s.pulse.spdWindow.next s.now := by
    rw [spd, ← now, ← pulse]
    rfl
  have tac' : (s.closeWindow tripFirst).pulse.tacWindow = s.pulse.tacWindow.next s.now := by
    rw [tac, ← now, ← pulse]
    rfl
  generalize s.closeWindow tripFirst = t at spd' tac' speed engine ⊢
  constructor
  · have h := s.pulse.spdWindow.closes s.now s.channels.records[(0 : Fin 16)] 0 (speedOf s.consts.kvss)
      (fun n span => (2 * (n * 9216000000) + span * s.consts.kvss) / (2 * (span * s.consts.kvss)))
      fun n span h => congrArg (min · 3000) (rate_of_pos (Nat.mul_pos h hkvss))
    dsimp only at h
    rw [← speed, ← spd'] at h
    exact h
  · have h := s.pulse.tacWindow.closes s.now s.channels.records[(1 : Fin 16)] 1 (engineOf s.consts.ppr)
      (fun n span => (2 * (n * 15360000) + span * s.consts.ppr) / (2 * (span * s.consts.ppr)))
      fun n span h => congrArg (min · 9999) (rate_of_pos (Nat.mul_pos h hppr))
    dsimp only at h
    rw [← engine, ← tac'] at h
    exact h

end Sys2Proof.Machine
end

section
/-!
SUPPORT and proof: the requests of the inputs, served at once (R3, R17, R21, R22).
-/
namespace Sys2Proof.Machine

/-! ## Requests served at once -/

section
variable {c : Instr} {k : Byte} {p : List Byte} {f : Service} {s : State}

/-- A request that is refused for its arguments changes nothing but the link (R174). -/
theorem exec_badArgument (h : s.ready) (hf : frame? c = some (k, p)) (hs : service? c = some f)
    (hr : f (atCommand s c).frameActivity = refuse (atCommand s c).frameActivity .badArgument) :
    exec c s = .next ((atCommand s c).frameActivity.replied k 3 []) := by
  rw [exec_ready h hf hs, hr]
  rfl

/-- A request that is carried out replies with its result alone (R174, R182). -/
theorem exec_accepted (h : s.ready) (hf : frame? c = some (k, p)) (hs : service? c = some f) {u : State}
    (hr : f (atCommand s c).frameActivity = accepted u) : exec c s = .next (u.replied k 0 []) := by
  rw [exec_ready h hf hs, hr]
  rfl

/-- A request that reads replies with its data (R174, R182). -/
theorem exec_reading (h : s.ready) (hf : frame? c = some (k, p)) (hs : service? c = some f) {u : State}
    {data : List Byte} (hr : f (atCommand s c).frameActivity = reading u data) :
    exec c s = .next (u.replied k 0 data) := by
  rw [exec_ready h hf hs, hr]
  rfl

end

/-- A frame's arrival changes Power Control, and the clocks that ASLEEP stops: it leaves these blocks alone (R162,
R164). -/
theorem State.frameActivity_inputs (s : State) :
    s.frameActivity.discretes = s.discretes ∧ s.frameActivity.sampler = s.sampler ∧
    (s.frameActivity.power.state = .run ↔ s.power.state = .run) := by
  unfold State.frameActivity
  split
  · next h => exact ⟨rfl, rfl, by simp [h, State.wake, State.notifyPower]⟩
  · unfold State.restartLinger
    split
    · next h => exact ⟨rfl, rfl, by simp [h]⟩
    · exact ⟨rfl, rfl, Iff.rfl⟩

/-! ## Pulse Input Configure -/

theorem PulseInput.restarts_iff (p : PulseInput) (on sel : Bool) :
    p.restarts on sel = true ↔ ¬ (p.filterOn = on ∧ p.selection = sel) := by
  simp only [PulseInput.restarts, Bool.not_eq_true', Bool.eq_false_iff, ne_eq, Bool.and_eq_true, beq_iff_eq]

/-- The settings of a pulse input put in force: a filter that restarts takes the present pin level (R3). -/
theorem PulseInput.configure_eq (p : PulseInput) (t : Stamp) (on sel : Bool) :
    p.configure t on sel =
      if p.filterOn = on ∧ p.selection = sel then p
      else { p with filterOn := on, selection := sel, accepted := p.pin, pending := none, stood := some t } := by
  unfold PulseInput.configure
  simp only [PulseInput.restarts_iff, ite_not]
  rfl

/-- A window under its input's new settings: cleared when the filter restarts, but for its timeout (R3). -/
theorem Window.configure_eq (w : Window) (p : PulseInput) (on sel : Bool) (loss : Nat) :
    w.configure (p.restarts on sel) loss =
      if p.filterOn = on ∧ p.selection = sel then { w with loss := loss }
      else { Window.initial with loss := loss } := by
  unfold Window.configure
  simp only [PulseInput.restarts_iff, ite_not]
  rfl

/-- INJ under new settings: in RUN the on-time counted so far is kept (R3). -/
theorem PulseUnit.configureInj_eq (u : PulseUnit) (run : Bool) (t : Stamp) (on sel : Bool) :
    u.configureInj run t on sel = { u with
      inj := u.inj.configure t on sel, onTime := if run then u.onTimeAt t else u.onTime,
      injMark := if run then t else u.injMark } := by
  cases run <;> rfl

/-- A pulse configuration of a bad index or loss code is refused (R3). -/
theorem servePulse_bad {input loss : Byte} (filter selection : Byte) (s : State)
    (h : 3 < input.toNat ∨ 3 < loss.toNat) :
    servePulseInputConfigure input filter selection loss s = refuse s .badArgument := by
  unfold servePulseInputConfigure
  by_cases hl : loss.toNat > 3
  · rw [if_pos hl]
  · obtain ⟨n, hn⟩ : ∃ n, input.toNat = n + 4 := ⟨input.toNat - 4, by omega⟩
    simp only [hl, if_false, hn]

/-- A pulse configuration of a good index and loss code puts the input's settings in force (R3). -/
theorem servePulse_good {input loss : Byte} (filter selection : Byte) (s : State) (h : loss.toNat ≤ 3) :
    let on := decide (filter ≠ 0)
    let sel := decide (selection ≠ 0)
    let served := servePulseInputConfigure input filter selection loss s
    (input = 0 → served = accepted { s with pulse := s.pulse.configureSpd s.now on sel (lossOf loss.toNat) }) ∧
    (input = 1 → served = accepted { s with pulse := s.pulse.configureTac s.now on sel (lossOf loss.toNat) }) ∧
    (input = 2 → served = accepted { s with pulse := s.pulse.configureInj s.inRun s.now on sel }) ∧
    (input = 3 → served = accepted { s with pulse := s.pulse.configureIdx s.now on sel }) := by
  intro on sel served
  have within : served = _ := if_neg (Nat.not_lt.mpr h)
  rw [within]
  refine ⟨?_, ?_, ?_, ?_⟩ <;> (rintro rfl; rfl)

/-! ## Analog Input Configure -/

theorem index?_some {n k : Nat} (i : Fin n) (h : k = i.val) : index? n k = some i := by
  subst h
  exact dif_pos i.isLt

theorem index?_none {n k : Nat} (h : n ≤ k) : index? n k = none := dif_neg (Nat.not_lt.mpr h)

theorem optionalIndex_indexByte (c : Option (Fin 12)) : optionalIndex 12 (indexByte c) = some c := by
  revert c
  decide

theorem optionalIndex_none {b : Byte} (h : 12 ≤ b.toNat ∧ b.toNat ≤ 254) : optionalIndex 12 b = none := by
  have hb : b ≠ 255 := by
    rintro rfl
    simp at h
  rw [optionalIndex, if_neg hb, index?_none h.1]
  rfl

/-- An analog configuration of a bad index, curve or setting is refused (R17). -/
theorem serveAnalog_bad {input curve d shift : Byte} {low high : Word} (threshold : Word) (s : State)
    (h : 5 < input.toNat ∨ (12 ≤ curve.toNat ∧ curve.toNat ≤ 254) ∨ high.toNat ≤ low.toNat ∨ d.toNat = 0 ∨
      50 < d.toNat ∨ 10 < shift.toNat) :
    serveAnalogInputConfigure input curve low high d shift threshold s = refuse s .badArgument := by
  unfold serveAnalogInputConfigure
  split
  · next i c hi hc =>
    refine if_pos ?_
    rcases h with h | h | h | h | h | h
    · rw [index?_none h] at hi
      cases hi
    · rw [optionalIndex_none h] at hc
      cases hc
    · exact .inl h
    · exact .inr (.inl (BitVec.eq_of_toNat_eq h))
    · exact .inr (.inr (.inl h))
    · exact .inr (.inr (.inr h))
  · rfl

/-- An analog configuration of sound settings stores them and empties the sum (R17). -/
theorem serveAnalog_good {input d shift : Byte} {low high : Word} (threshold : Word) (s : State) (i : Fin 6)
    (c : Option (Fin 12)) (hi : input.toNat = i.val)
    (h : ¬ (high.toNat ≤ low.toNat ∨ d.toNat = 0 ∨ 50 < d.toNat ∨ 10 < shift.toNat)) :
    serveAnalogInputConfigure input (indexByte c) low high d shift threshold s =
      accepted (s.setAnalog i { s.sampler.inputs[i] with
        curve := c, low := low.toNat, high := high.toNat, decimation := d.toNat, shift := shift.toNat,
        threshold := threshold.toNat, sum := 0, count := 0 }) := by
  have hd : d = 0 → d.toNat = 0 := by rintro rfl; rfl
  simp only [serveAnalogInputConfigure, index?_some i hi, optionalIndex_indexByte]
  exact if_neg fun g => h (g.imp_right (Or.imp_left hd))

/-! ## Discrete Input Configure -/

/-- A part that has taken a frame in one of its power states is awake, and its linger timer stands at its full time
(R162, R164). -/
theorem State.frameActivity_awake {s : State} (h : s.powered = true) :
    s.frameActivity.power.state = .run ∨
    (s.frameActivity.power.state = .awakeOff ∧ s.frameActivity.power.linger = .running 30000) := by
  unfold State.frameActivity
  split
  · exact .inr ⟨rfl, rfl⟩
  · next hasleep =>
    by_cases ha : s.power.state = .awakeOff
    · rw [State.restartLinger_awakeOff ha]
      exact .inr ⟨ha, rfl⟩
    · rw [State.restartLinger, if_neg ha]
      refine .inl ?_
      simpa [State.powered, State.awake, ha, hasleep] using h

/-- A report to a part that has just taken a frame finds nothing to do: it is awake, its linger timer full. -/
theorem State.reportDiscrete_full {s : State}
    (h : s.power.state = .run ∨ (s.power.state = .awakeOff ∧ s.power.linger = .running 30000)) (d : Discrete) :
    s.reportDiscrete d = s := by
  rcases h with h | ⟨h, hl⟩
  · exact State.reportDiscrete_other (by simp [h]) (by simp [h]) d
  · rw [State.reportDiscrete_awakeOff h, ← hl]

/-- A discrete configuration of a bad index or debounce time is refused (R21). -/
theorem serveDiscrete_bad {input debounce : Byte} (polarity wake : Byte) (s : State)
    (h : 11 < input.toNat ∨ debounce.toNat < 5) :
    serveDiscreteInputConfigure input polarity debounce wake s = refuse s .badArgument := by
  unfold serveDiscreteInputConfigure
  split
  · rfl
  · next k hk =>
    refine if_pos (h.resolve_left fun g => ?_)
    rw [index?_none g] at hk
    cases hk

/-- A discrete configuration of sound settings stores them; a change of active state it brings finds the linger timer
already full (R21, R162). -/
theorem serveDiscrete_good {input debounce : Byte} (polarity wake : Byte) {s : State} (k : Fin 12)
    (hs : s.power.state = .run ∨ (s.power.state = .awakeOff ∧ s.power.linger = .running 30000))
    (hk : input.toNat = k.val) (h : ¬ debounce.toNat < 5) :
    serveDiscreteInputConfigure input polarity debounce wake s =
      accepted (s.setDiscrete k { s.discretes.inputs[k] with
        activeHigh := decide (polarity ≠ 0), debounce := debounce.toNat, wake := decide (wake ≠ 0) }) := by
  have change : ∀ d : Discrete, s.changeDiscrete k d = s.setDiscrete k d := by
    intro d
    unfold State.changeDiscrete
    split
    · rfl
    · exact State.reportDiscrete_full (s := s.setDiscrete k d) hs d
  simp only [serveDiscreteInputConfigure, index?_some k hk, h, if_false, change]

/-! ## Bits -/

/-- Bits gathered from the first on are the sum of their weights. -/
theorem foldr_bits (f : Nat → Bool) (n : Nat) :
    ((List.range n).map f).foldr (fun b acc => (if b then 1 else 0) + 2 * acc) 0 =
      ((List.range n).map fun k => if f k then 2 ^ k else 0).sum := by
  induction n generalizing f with
  | zero => rfl
  | succ n ih =>
    rw [List.range_succ_eq_map]
    simp only [List.map_cons, List.map_map, List.foldr_cons, List.sum_cons, pow_zero]
    rw [show (f ∘ Nat.succ) = fun k => f (k + 1) from rfl, ih, ← List.sum_map_mul_left]
    congr 3
    funext k
    simp only [Function.comp, Nat.succ_eq_add_one, pow_succ]
    split <;> omega

/-- Thirteen bits in two bytes, the discrete inputs' and then IGN's (R182). -/
theorem flagBytes2_inputs (u : DiscreteUnit) (f : Discrete → Bool) (ign : Bool) :
    flagBytes2 (u.inputs.toList.map f ++ [ign]) =
      bytes2 ((List.range 13).map fun k =>
        if (if h : k < 12 then f u.inputs[k] else k == 12 && ign) then 2 ^ k else 0).sum := by
  rw [← foldr_bits fun k => if h : k < 12 then f u.inputs[k] else k == 12 && ign]
  refine congrArg (fun l : List Bool => bytes2 (l.foldr (fun b acc => (if b then 1 else 0) + 2 * acc) 0)) ?_
  refine List.ext_getElem (by simp) fun k h _ => ?_
  simp only [List.length_append, List.length_map, Vector.length_toList, List.length_singleton] at h
  by_cases hk : k < 12
  · simp [List.getElem_append_left, hk]
  · obtain rfl : k = 12 := by omega
    simp

/-- Settles O54: each request is served at once, refused or carried out by its service's lemmas. -/
theorem inputRequests : Obligations.InputRequests := by
  intro s hs t
  obtain ⟨hdiscretes, hsampler, -⟩ := s.frameActivity_inputs
  have awake := State.frameActivity_awake hs.1
  refine ⟨?_, ?_, ?_, ?_⟩
  · intro input filter selection loss m t bad on sel same set timeout win done
    have run : t.inRun = true ↔ s.power.state = .run := by
      rw [State.inRun, beq_iff_eq]
      exact (atMoment s m).frameActivity_inputs.2.2
    refine ⟨fun h => exec_badArgument hs rfl rfl (servePulse_bad filter selection t h), fun h hi => ?_, fun h hi => ?_,
      fun h hi => ?_, fun h hi => ?_⟩
    all_goals
      obtain ⟨spd, tac, inj, idx⟩ := servePulse_good (input := input) filter selection t
        (Nat.not_lt.mp fun g => h (.inr g))
    · have served := spd hi
      rw [PulseUnit.configureSpd, PulseInput.configure_eq, Window.configure_eq] at served
      exact exec_accepted hs rfl rfl served
    · have served := tac hi
      rw [PulseUnit.configureTac, PulseInput.configure_eq, Window.configure_eq] at served
      exact exec_accepted hs rfl rfl served
    · have served := inj hi
      simp only [PulseUnit.configureInj_eq, PulseInput.configure_eq, run] at served
      exact exec_accepted hs rfl rfl served
    · have served := idx hi
      rw [PulseUnit.configureIdx, PulseInput.configure_eq] at served
      exact exec_accepted hs rfl rfl served
  · intro input curve low high d shift threshold bad
    refine ⟨fun h => exec_badArgument hs rfl rfl (serveAnalog_bad threshold t h), fun i c h hi hc => ?_⟩
    subst hc
    have sound := serveAnalog_good threshold t i c hi fun g => h (.inr (.inr g))
    rw [State.setAnalog, hsampler] at sound
    exact exec_accepted hs rfl rfl sound
  · intro input polarity debounce wake bad
    refine ⟨fun h => exec_badArgument hs rfl rfl (serveDiscrete_bad polarity wake t h), fun k h hk => ?_⟩
    have sound := serveDiscrete_good polarity wake k awake hk fun g => h (.inr g)
    rw [State.setDiscrete, hdiscretes] at sound
    exact exec_accepted hs rfl rfl sound
  · intro active pins word
    have data : serveDiscreteRead t = reading t (word active ++ word pins) := by
      rw [serveDiscreteRead, hdiscretes, flagBytes2_inputs, flagBytes2_inputs]
      rfl
    exact exec_reading hs rfl rfl data

end Sys2Proof.Machine
end

section
/-!
SUPPORT and proof: a curve of rising points evaluated at `v` (R35 to R37).
-/
namespace Sys2Proof.Machine

/-- A rising curve's x form a strictly increasing list (R37). -/
theorem rising_iff (c : Curve) : rising c = true ↔ (c.map Prod.fst).Pairwise (· < ·) := by
  rw [← List.isChain_iff_pairwise]
  induction c with
  | nil => simp [rising]
  | cons p c ih =>
    cases c with
    | nil => simp [rising]
    | cons q c =>
      rw [rising, Bool.and_eq_true, decide_eq_true_eq, ih]
      simp

/-- A quotient of `roundDiv` is the nearest one, an exact half up (00_scope section 8). -/
theorem roundDiv_bounds (a : Nat) {b : Nat} (hb : 0 < b) :
    2 * (roundDiv a b * b) ≤ 2 * a + b ∧ 2 * a + b < 2 * ((roundDiv a b + 1) * b) := by
  have lower := Nat.div_mul_le_self (2 * a + b) (2 * b)
  have upper := Nat.lt_div_mul_add (a := 2 * a + b) (b := 2 * b) (by omega)
  unfold roundDiv
  constructor
  · calc _ = (2 * a + b) / (2 * b) * (2 * b) := by ring
      _ ≤ _ := lower
  · calc _ < (2 * a + b) / (2 * b) * (2 * b) + 2 * b := upper
      _ = _ := by ring

/-- A multiple rounds to its quotient. -/
theorem roundDiv_mul (y : Nat) {b : Nat} (hb : 0 < b) : roundDiv (y * b) b = y := by
  rw [roundDiv, show 2 * (y * b) + b = b + y * (2 * b) by ring, Nat.add_mul_div_right _ _ (by omega),
    Nat.div_eq_of_lt (by omega), Nat.zero_add]

theorem roundDiv_mono {a a' : Nat} (h : a ≤ a') (b : Nat) : roundDiv a b ≤ roundDiv a' b :=
  Nat.div_le_div_right (by omega)

/-- The weighed mean of two values lies between them (R36). -/
theorem roundDiv_mean_between (y y' p q : Nat) (h : 0 < p + q) :
    min y y' ≤ roundDiv (y * p + y' * q) (p + q) ∧ roundDiv (y * p + y' * q) (p + q) ≤ max y y' := by
  have low : min y y' * (p + q) ≤ y * p + y' * q := by
    rw [Nat.mul_add]
    gcongr
    exacts [min_le_left _ _, min_le_right _ _]
  have high : y * p + y' * q ≤ max y y' * (p + q) := by
    rw [Nat.mul_add]
    gcongr
    exacts [le_max_left _ _, le_max_right _ _]
  exact ⟨(roundDiv_mul _ h).ge.trans (roundDiv_mono low _), (roundDiv_mono high _).trans (roundDiv_mul _ h).le⟩

/-- From a point on, the curve has the point's y at the point's x. -/
theorem curveFrom_self {p : Nat × Nat} {rest : Curve} (h : ∀ q ∈ rest, p.1 < q.1) : curveFrom p rest p.1 = p.2 := by
  cases rest with
  | nil => rfl
  | cons q rest =>
    have hq : p.1 < q.1 := h q (by simp)
    rw [curveFrom, if_pos hq, Nat.sub_self, Nat.mul_zero, Nat.add_zero, roundDiv_mul _ (by omega)]

/-- Points whose successor lies at or below `v` are passed over. -/
theorem curveFrom_append {v : Nat} {q : Nat × Nat} (rest : Curve) (hq : q.1 ≤ v) (front : Curve)
    (hfront : ∀ p ∈ front, p.1 < q.1) (first : Nat × Nat) :
    curveFrom first (front ++ q :: rest) v = curveFrom q rest v := by
  induction front generalizing first with
  | nil => exact if_neg (Nat.not_lt.mpr hq)
  | cons p front ih =>
    have hp : p.1 < q.1 := hfront p (by simp)
    refine (if_neg (by omega)).trans (ih (fun r hr => hfront r (by simp [hr])) p)

/-- A rising curve at or above the x of one of its points is the curve from that point on (R36). -/
theorem curveAt_append {front rest : Curve} {q : Nat × Nat} {v : Nat} (hr : rising (front ++ q :: rest) = true)
    (hq : q.1 ≤ v) : curveAt (front ++ q :: rest) v = some (curveFrom q rest v) := by
  obtain ⟨-, after, before⟩ := List.pairwise_append.mp (List.pairwise_map.mp ((rising_iff _).mp hr))
  have above : ∀ p ∈ rest, q.1 < p.1 := fun p hp => List.rel_of_pairwise_cons after hp
  cases front with
  | nil =>
    refine congrArg some ?_
    split
    · next h => rw [le_antisymm h hq, curveFrom_self above]
    · rfl
  | cons p front =>
    have below : ∀ r ∈ p :: front, r.1 < q.1 := fun r h => before r h q (by simp)
    have hp : p.1 < q.1 := below p (by simp)
    exact congrArg some ((if_neg (by omega)).trans
      (curveFrom_append rest hq front (fun r h => below r (by simp [h])) p))

/-- Settles O34: the curve at `v` is the curve from the last point that `v` has reached, and on the segment after it the
weighed mean. -/
theorem curveEvaluation : Obligations.CurveEvaluation := by
  refine ⟨fun _ => rfl, fun curve v hr _ => ⟨?_, ?_, ?_⟩⟩
  · rintro x y rest rfl hv
    exact congrArg some (if_pos hv)
  · rintro x y front rfl hv
    exact curveAt_append hr hv
  · rintro front x0 y0 x1 y1 rest rfl hv hlt
    have mean : curveFrom (x0, y0) ((x1, y1) :: rest) v =
        roundDiv (y0 * (x1 - v) + y1 * (v - x0)) (x1 - x0) := if_pos hlt
    have width : x1 - x0 = (x1 - v) + (v - x0) := by omega
    obtain ⟨lower, upper⟩ := roundDiv_bounds (y0 * (x1 - v) + y1 * (v - x0)) (b := x1 - x0) (by omega)
    obtain ⟨low, high⟩ := roundDiv_mean_between y0 y1 (x1 - v) (v - x0) (by omega)
    rw [← width] at low high
    refine ⟨_, (curveAt_append hr hv).trans (congrArg some mean), lower, upper, low, high, ?_⟩
    rintro rfl
    simpa using roundDiv_mul y0 (b := x1 - v) (by omega)

end Sys2Proof.Machine
end

section
/-!
SUPPORT and proof: what becomes of an external channel and its freshness timer together (R30 to R32), and the timers
that have run out (R31, R162, R164).
-/
namespace Sys2Proof.Machine

/-! ## An external channel and its freshness timer -/

/-- An EXT channel's record and its freshness timer replaced, with no notice. -/
def State.setExt (s : State) (e : Fin 5) (r : Channel) (f : Freshness) : State :=
  { s with channels := { records := s.channels.records.set (extChannel e) r,
                         freshness := s.channels.freshness.set e f } }

/-- A write that gives an EXT channel a validity, with its freshness timer set: the CHANNEL notice comes of a change of
the validity alone (R25, R30 to R32). -/
theorem State.writeExt_eq (s : State) (e : Fin 5) (v : Option Nat) (w : Validity) (f : Freshness) :
    (s.writeChannel (extChannel e) v (some w)).setFreshness e f =
      (let r := s.channels.records[extChannel e]
       let u := s.setExt e (r.written (extChannel e) v (some w)) f
       if r.validity = w then u else u.notify (.channel (extChannel e)) (BitVec.ofNat 16 (validityCode w))) := by
  rw [State.writeChannel_eq]
  dsimp only [Channel.written, Option.getD_some]
  simp only [eq_comm (a := w)]
  split <;> rfl

/-! ## The expiries -/

/-- A freshness timer at 0 makes its channel STALE and stops (R31). -/
theorem State.expireFreshness_due {s : State} {e : Fin 5} (h : s.channels.freshness[e].timer = some 0) :
    s.expireFreshness e =
      (s.writeChannel (extChannel e) none (some .stale)).setFreshness e { s.channels.freshness[e] with timer := none } :=
  if_pos h

/-- A test of every entry of a table, entry by entry. -/
theorem toList_all_iff {α : Type} {n : Nat} (v : Vector α n) (p : α → Bool) :
    v.toList.all p = true ↔ ∀ k : Fin n, p v[k] = true := by
  rw [Vector.all_toList, Vector.all_eq_true, Fin.forall_iff]
  rfl

/-- An input that does not both wake the part and stand at its active level (R162). -/
theorem Discrete.not_waking_iff (d : Discrete) :
    (d.wake && d.active) = false ↔ (d.wake = true → d.level ≠ d.activeHigh) := by
  simp [Discrete.active, imp_iff_not_or]

/-- A part may sleep exactly under the conditions of R162. -/
theorem State.maySleep_iff (s : State) : s.maySleep = true ↔ sleepConditions s := by
  simp only [State.maySleep, sleepConditions, Bool.and_eq_true, Bool.or_eq_true, toList_all_iff,
    Discrete.not_waking_iff, beq_iff_eq, and_assoc, or_assoc, Bool.not_eq_true', List.isEmpty_iff,
    Option.isNone_iff_eq_none]

/-- Settles O25: each expiry by its own case, the sleep by `State.maySleep_iff`. -/
theorem timersRunOut : Obligations.TimersRunOut := by
  intro s hs
  refine ⟨fun e => ?_, fun h => ?_, fun h => ?_, fun h => ?_, fun h => ?_⟩
  · intro c r u
    rw [exec_freshnessExpiry hs]
    refine ⟨fun h => congrArg _ (if_neg h), fun h hr => ?_, fun h hr => ?_⟩
    · rw [State.expireFreshness_due h, State.writeExt_eq]
      exact congrArg _ (if_neg hr)
    · rw [State.expireFreshness_due h, State.writeExt_eq]
      exact congrArg _ (if_pos hr)
  · rw [exec_lingerExpiry hs, State.lingerExpiry, if_pos h, State.setPower, ← h.1]
  · rw [exec_lingerExpiry hs, State.lingerExpiry, if_neg fun g => h.elim (· g.1) (· g.2)]
  · refine ⟨s.fallAsleep, ?_, fun i => vmap_get _ _ i, rfl, rfl⟩
    rw [exec_asleepEntry hs, State.asleepEntry, if_pos (s.maySleep_iff.mpr h)]
  · rw [exec_asleepEntry hs, State.asleepEntry, if_neg fun g => h (s.maySleep_iff.mp g)]

end Sys2Proof.Machine
end

section
/-!
SUPPORT and proof: the requests of the Channel Table, served at once (R27, R28, R30, R32, R34).
-/
namespace Sys2Proof.Machine

/-- A request that is refused changes nothing but the link (R174). -/
theorem exec_refused {c : Instr} {k : Byte} {p : List Byte} {f : Service} {s : State} (h : s.ready)
    (hf : frame? c = some (k, p)) (hs : service? c = some f) {r : Result}
    (hr : f (atCommand s c).frameActivity = refuse (atCommand s c).frameActivity r) :
    exec c s = .next ((atCommand s c).frameActivity.replied k r.code []) := by
  rw [exec_ready h hf hs, hr]
  split <;> rfl

/-! ## Holds -/

theorem serveChannelHold_bad {channel : Byte} (value : Word) (s : State) (h : 15 < channel.toNat) :
    serveChannelHold channel value s = refuse s .badArgument := by
  rw [serveChannelHold, index?_none h]

theorem serveChannelHold_good {channel : Byte} (value : Word) (s : State) {c : Fin 16} (h : channel.toNat = c.val) :
    serveChannelHold channel value s =
      if s.inRun then accepted (s.setHold c (some (min value.toNat (channelTop c)))) else refuse s .conditions := by
  simp only [serveChannelHold, index?_some c h]

theorem serveChannelRelease_bad {channel : Byte} (s : State) (h : 15 < channel.toNat) :
    serveChannelRelease channel s = refuse s .badArgument := by
  rw [serveChannelRelease, index?_none h]

theorem serveChannelRelease_good {channel : Byte} (s : State) {c : Fin 16} (h : channel.toNat = c.val) :
    serveChannelRelease channel s = accepted (s.setHold c none) := by
  simp only [serveChannelRelease, index?_some c h]

/-! ## The external channels -/

theorem ext?_none {channel : Byte} (h : channel.toNat < 11 ∨ 15 < channel.toNat) : ext? channel = none := by
  unfold ext?
  split
  · exact index?_none (by omega)
  · rfl

theorem ext?_some {channel : Byte} {e : Fin 5} (h : channel.toNat = 11 + e.val) : ext? channel = some e := by
  rw [ext?, if_pos (by omega), index?_some e (by omega)]

/-- An EXT channel holds any word (00_scope section 5.1). -/
theorem channelTop_ext (e : Fin 5) : channelTop (extChannel e) = 65535 := by
  revert e
  decide

/-- A word put into an EXT channel is taken as it is (R30). -/
theorem Channel.written_word (r : Channel) (e : Fin 5) (value : Word) (w : Validity) :
    r.written (extChannel e) (some value.toNat) (some w) = { r with value := value.toNat, validity := w } := by
  simp only [Channel.written, Option.map_some, Option.getD_some, channelTop_ext,
    min_eq_left (Nat.le_of_lt_succ value.isLt)]

theorem serveChannelPut_bad {channel : Byte} (value : Word) (s : State) (h : channel.toNat < 11 ∨ 15 < channel.toNat) :
    serveChannelPut channel value s = refuse s .badArgument := by
  rw [serveChannelPut, ext?_none h]

/-- A put makes the channel VALID at the value, and its timer starts from the setting it has (R30). -/
theorem serveChannelPut_good {channel : Byte} (value : Word) (s : State) {e : Fin 5} (h : channel.toNat = 11 + e.val) :
    serveChannelPut channel value s =
      (let f := s.channels.freshness[e]
       let r := s.channels.records[extChannel e]
       let u := s.setExt e { r with value := value.toNat, validity := .valid }
         { f with timer := freshnessStart f.setting }
       accepted (if r.validity = .valid then u else u.notify (.channel (extChannel e)) 0)) := by
  simp only [serveChannelPut, ext?_some h, State.writeExt_eq, Channel.written_word]
  rfl

theorem serveExternalConfigure_bad {channel : Byte} (freshness withdraw : Byte) (s : State)
    (h : channel.toNat < 11 ∨ 15 < channel.toNat) :
    serveExternalChannelConfigure channel freshness withdraw s = refuse s .badArgument := by
  rw [serveExternalChannelConfigure, ext?_none h]

/-- A withdrawal makes the channel ABSENT with its timer stopped (R32). -/
theorem serveExternalConfigure_withdraw {channel withdraw : Byte} (freshness : Byte) (s : State) {e : Fin 5}
    (h : channel.toNat = 11 + e.val) (hw : withdraw ≠ 0) :
    serveExternalChannelConfigure channel freshness withdraw s =
      (let r := s.channels.records[extChannel e]
       let u := s.setExt e { r with validity := .absent } { setting := freshness.toNat, timer := none }
       accepted (if r.validity = .absent then u else u.notify (.channel (extChannel e)) 3)) := by
  simp only [serveExternalChannelConfigure, ext?_some h, if_pos hw, State.writeExt_eq]
  rfl

/-- A freshness timer set alone leaves its channel's record (R32). -/
theorem State.setFreshness_eq (s : State) (e : Fin 5) (f : Freshness) :
    s.setFreshness e f = s.setExt e s.channels.records[extChannel e] f := by
  unfold State.setFreshness State.setExt
  rw [Fin.getElem_fin, Vector.set_getElem_self]

/-- Without a withdrawal the setting alone is new, and the timer of a VALID channel starts from it (R32). -/
theorem serveExternalConfigure_keep {channel withdraw : Byte} (freshness : Byte) (s : State) {e : Fin 5}
    (h : channel.toNat = 11 + e.val) (hw : withdraw = 0) :
    serveExternalChannelConfigure channel freshness withdraw s =
      (let r := s.channels.records[extChannel e]
       accepted (s.setExt e r { setting := freshness.toNat, timer :=
         if r.validity = .valid ∧ freshness.toNat ≠ 0 then some (freshness.toNat * 100) else none })) := by
  simp only [serveExternalChannelConfigure, ext?_some h, if_neg (not_not.mpr hw), freshnessStart, ite_and, ne_eq,
    ite_not, State.setFreshness_eq]
  split <;> rfl

/-! ## Channel Read -/

theorem toNat_eq_zero_iff {n : Nat} (b : BitVec n) : b.toNat = 0 ↔ b = 0 := by
  simp [← BitVec.toNat_inj]

theorem serveChannelRead_bad {first count : Byte} (s : State)
    (h : 15 < first.toNat ∨ count.toNat = 0 ∨ 5 < count.toNat ∨ 16 < first.toNat + count.toNat) :
    serveChannelRead first count s = refuse s .badArgument := by
  rw [toNat_eq_zero_iff] at h
  exact if_pos h

theorem serveChannelRead_good {first count : Byte} (s : State)
    (h : ¬ (15 < first.toNat ∨ count.toNat = 0 ∨ 5 < count.toNat ∨ 16 < first.toNat + count.toNat)) :
    serveChannelRead first count s = reading s (((List.finRange 16).filter fun c =>
      decide (first.toNat ≤ c.val ∧ c.val < first.toNat + count.toNat)).flatMap (channelRecord s)) := by
  rw [toNat_eq_zero_iff] at h
  exact if_neg h

/-- A channel's record: its number, its measured face and its presented one (R23, R34). -/
theorem channelRecord_eq (s : State) :
    channelRecord s = fun c =>
      let r := s.channels.records[c]
      let face := fun p : Nat × Validity => bytes2 p.1 ++ [byte (validityCode p.2)]
      byte c.val :: face (r.value, r.validity) ++ face r.presented := rfl

/-- Settles O55: each request is served at once, refused or carried out by its service's lemmas. -/
theorem channelRequests : Obligations.ChannelRequests := by
  intro s hs t records
  have hchannels : t.channels = s.channels := by simp [t]
  have run : t.inRun = true ↔ s.power.state = .run := by
    rw [State.inRun, beq_iff_eq]
    exact s.frameActivity_inputs.2.2
  have hold : ∀ (c : Fin 16) (h : Option Nat),
      t.setHold c h = records c { s.channels.records[c] with hold := h } := by
    intro c h
    simp only [State.setHold, hchannels, records]
    rfl
  refine ⟨fun channel value => ⟨fun h => ?_, fun c h => ⟨fun hrun => ?_, fun hrun => ?_⟩⟩,
    fun channel => ⟨fun h => ?_, fun c h => ?_⟩, fun channel value => ⟨fun h => ?_, fun e h => ?_⟩,
    fun channel freshness withdraw => ⟨fun h => ?_, fun e h => ?_⟩, fun first count => ⟨fun h => ?_, fun h => ?_⟩⟩
  · exact exec_badArgument hs rfl rfl (serveChannelHold_bad value t h)
  · have refused := (serveChannelHold_good value t h).trans (if_neg fun g => hrun (run.mp g))
    exact exec_refused (r := .conditions) hs rfl rfl refused
  · have served := (serveChannelHold_good value t h).trans (if_pos (run.mpr hrun))
    rw [hold] at served
    exact exec_accepted hs rfl rfl served
  · exact exec_badArgument hs rfl rfl (serveChannelRelease_bad t h)
  · exact exec_accepted hs rfl rfl ((serveChannelRelease_good t h).trans (congrArg accepted (hold c none)))
  · exact exec_badArgument hs rfl rfl (serveChannelPut_bad value t h)
  · have served := serveChannelPut_good value t h
    simp only [hchannels, State.setExt] at served
    exact exec_accepted hs rfl rfl served
  · exact exec_badArgument hs rfl rfl (serveExternalConfigure_bad freshness withdraw t h)
  · intro c r set
    refine ⟨fun hw => ?_, fun hw => ?_⟩
    · have served := serveExternalConfigure_withdraw freshness t h hw
      simp only [hchannels, State.setExt] at served
      exact exec_accepted hs rfl rfl served
    · have served := serveExternalConfigure_keep freshness t h hw
      simp only [hchannels, State.setExt] at served
      exact exec_accepted hs rfl rfl served
  · exact exec_badArgument hs rfl rfl (serveChannelRead_bad t h)
  · have served := serveChannelRead_good t h
    simp only [channelRecord_eq, hchannels] at served
    exact exec_reading hs rfl rfl served

end Sys2Proof.Machine
end

section
/-!
SUPPORT and proof: the requests of the Curve Store and the Gauge Unit, served at once (R37, R39, R92, R95 to R98).
-/
namespace Sys2Proof.Machine

/-! ## Curve Load and Curve Read -/

theorem serveCurveLoad_length {count : Byte} {points : List (Word × Word)} (curve : Byte) (s : State)
    (h : points.length ≠ count.toNat) : serveCurveLoad curve count points s = refuse s .length := if_pos h

theorem serveCurveLoad_bad {curve count : Byte} {points : List (Word × Word)} (s : State)
    (hl : points.length = count.toNat)
    (h : 11 < curve.toNat ∨ count.toNat < 2 ∨ 8 < count.toNat ∨ ¬ ((pointsOf points).map Prod.fst).Pairwise (· < ·)) :
    serveCurveLoad curve count points s = refuse s .badArgument := by
  refine (if_neg (not_not.mpr hl)).trans ?_
  rw [← rising_iff, Bool.not_eq_true] at h
  by_cases hc : 11 < curve.toNat
  · rw [index?_none hc]
  · rw [index?_some ⟨curve.toNat, Nat.lt_of_not_le hc⟩ rfl]
    exact if_pos (h.resolve_left hc)

theorem serveCurveLoad_good {curve count : Byte} {points : List (Word × Word)} (s : State) {c : Fin 12}
    (hl : points.length = count.toNat) (hc : curve.toNat = c.val) (low : 2 ≤ count.toNat) (high : count.toNat ≤ 8)
    (h : ((pointsOf points).map Prod.fst).Pairwise (· < ·)) :
    serveCurveLoad curve count points s = accepted { s with curves := s.curves.set c (pointsOf points) } := by
  refine (if_neg (not_not.mpr hl)).trans ?_
  rw [index?_some c hc]
  refine if_neg ?_
  rw [(rising_iff _).mpr h]
  simp only [Bool.true_eq_false, or_false]
  omega

theorem serveCurveRead_bad {curve : Byte} (s : State) (h : 11 < curve.toNat) :
    serveCurveRead curve s = refuse s .badArgument := by
  rw [serveCurveRead, index?_none h]

theorem serveCurveRead_good {curve : Byte} (s : State) {c : Fin 12} (h : curve.toNat = c.val) :
    serveCurveRead curve s =
      reading s (byte s.curves[c].length :: s.curves[c].flatMap fun p => bytes2 p.1 ++ bytes2 p.2) := by
  simp only [serveCurveRead, index?_some c h]
  rfl

/-! ## The sweep -/

theorem Gauge.not_inSweep_iff (g : Gauge) :
    (!g.inSweep) = true ↔ g.mode ≠ .armed ∧ g.mode ≠ .sweepUp ∧ g.mode ≠ .sweepDown := by
  simp [Gauge.inSweep, and_assoc]

/-- An open sweep with no gauge left in it closes, its timers stopped and its SWEEP notice posted (R92). -/
theorem State.checkSweep_eq (s : State) :
    s.checkSweep =
      (let w := s.gauge.sweep
       if w.isOpen = true ∧ ∀ k : Fin 6, s.gauge.gauges[k].mode ≠ .armed ∧ s.gauge.gauges[k].mode ≠ .sweepUp ∧
           s.gauge.gauges[k].mode ≠ .sweepDown then
         (s.setSweep { w with isOpen := false, delayTimer := none, timeout := none }).notify .sweep (sweepValue w)
       else s) := by
  unfold State.checkSweep
  simp only [Bool.and_eq_true, toList_all_iff, Gauge.not_inSweep_iff, Sweep.noticeWord_eq]
  rfl

/-- A gauge is ARMED (R88). -/
theorem State.anyArmed_iff (s : State) : s.anyArmed = true ↔ ∃ k : Fin 6, s.gauge.gauges[k].mode = .armed := by
  rw [State.anyArmed, Vector.any_toList, Vector.any_eq_true, Fin.exists_iff]
  simp

theorem PulseInput.pull_eq (s : State) : s.gauge.sync.pull s.inRun s.now = syncPulled s := by
  unfold PulseInput.pull syncPulled
  simp only [PulseInput.watch_eq, State.inRun, beq_iff_eq]
  split <;> rfl

/-- A start by request: the ARMED gauges set out under its cause, and SYNC is driven low for 1 ms (R88, R97). -/
theorem State.startSweep_request {s : State} (h : s.anyArmed = true) :
    s.startSweep .request =
      { s with gauge := { s.gauge with
        gauges := vmap (fun g : Gauge => if g.mode = .armed then { g with mode := .sweepUp } else g) s.gauge.gauges,
        sweep := { s.gauge.sweep with cause := .request }, syncPulse := some 1, sync := syncPulled s } } := by
  rw [← PulseInput.pull_eq]
  exact if_pos h

/-! ## Gauge Configure -/

theorem optionalIndex_indexByte16 (c : Option (Fin 16)) : optionalIndex 16 (indexByte c) = some c := by
  revert c
  decide

/-- An index field is refused when it is neither an index below `n` nor 255 (R180). -/
theorem optionalIndex_isNone (n : Nat) (b : Byte) :
    (optionalIndex n b).isNone = true ↔ n ≤ b.toNat ∧ b.toNat ≤ 254 := by
  unfold optionalIndex index?
  by_cases hb : b = 255
  · subst hb
    simp
  · have ne : b.toNat ≠ 255 := fun e => hb (BitVec.eq_of_toNat_eq e)
    have := b.isLt
    rw [if_neg hb]
    split <;> simp <;> omega

/-- The settings that Gauge Configure refuses (R95). -/
theorem gaugeRefused_iff (f : GaugeFields) (delay : Word) :
    gaugeRefused f delay = true ↔
      (16 ≤ f.source.toNat ∧ f.source.toNat ≤ 254) ∨ (12 ≤ f.curve.toNat ∧ f.curve.toNat ≤ 254) ∨
      1023 < f.rest.toNat ∨ 1 < f.faultMode.toNat ∨ 1 < f.sweep.toNat ∨ f.rLo.toNat = 0 ∨ f.accel.toNat = 0 ∨
      f.rHi.toNat = 0 ∨ 1023 < f.rHi.toNat ∨ 63 < f.deadband.toNat ∨ (256 ≤ delay.toNat ∧ delay.toNat ≤ 65534) := by
  simp only [gaugeRefused, Bool.or_eq_true, decide_eq_true_eq, optionalIndex_isNone, toNat_eq_zero_iff,
    or_assoc, gt_iff_lt]

/-- The settings as stored, for a source and a curve that are named or none (R95). -/
theorem gaugeConfigOf_eq {f : GaugeFields} {source : Option (Fin 16)} {curve : Option (Fin 12)}
    (hs : f.source = indexByte source) (hc : f.curve = indexByte curve) :
    gaugeConfigOf f =
      { source := source, curve := curve, rest := f.rest.toNat, faultRest := decide (f.faultMode = 1),
        rLo := f.rLo.toNat, rHi := if f.rHi.toNat < f.rLo.toNat then f.rLo.toNat else f.rHi.toNat,
        accel := f.accel.toNat, deadband := f.deadband.toNat, sweep := decide (f.sweep = 1) } := by
  have hmax : max f.rHi.toNat f.rLo.toNat = if f.rHi.toNat < f.rLo.toNat then f.rLo.toNat else f.rHi.toNat := by
    split <;> omega
  simp only [gaugeConfigOf, hs, hc, optionalIndex_indexByte16, optionalIndex_indexByte, Option.getD_some, hmax]

theorem delayAfter_eq (delay : Word) (old : Nat) :
    delayAfter delay old = if delay.toNat = 65535 then old else delay.toNat := by
  unfold delayAfter
  simp only [← BitVec.toNat_inj]
  rfl

theorem serveGaugeConfigure_bad {gauge : Byte} {f : GaugeFields} {delay : Word} (s : State)
    (h : 5 < gauge.toNat ∨ gaugeRefused f delay = true) :
    serveGaugeConfigure gauge f delay s = refuse s .badArgument := by
  unfold serveGaugeConfigure
  split
  · rfl
  · next k hk =>
    refine if_pos (h.resolve_left fun g => ?_)
    rw [index?_none g] at hk
    cases hk

/-- Sound settings are stored and the delay set, and a sweep left empty closes (R92, R95, R96). -/
theorem serveGaugeConfigure_good {gauge : Byte} {f : GaugeFields} {delay : Word} (s : State) {k : Fin 6}
    (hk : gauge.toNat = k.val) (h : ¬ gaugeRefused f delay = true) :
    serveGaugeConfigure gauge f delay s =
      accepted (State.checkSweep { s with gauge := { s.gauge with
        gauges := s.gauge.gauges.set k (s.gauge.gauges[k].configure (gaugeConfigOf f)),
        sweep := { s.gauge.sweep with
          delay := if delay.toNat = 65535 then s.gauge.sweep.delay else delay.toNat } } }) := by
  rw [← delayAfter_eq]
  simp only [serveGaugeConfigure, index?_some k hk, h]
  rfl

/-! ## Gauge Read -/

/-- The completed mask, the first gauge lowest (R92, R182). -/
theorem Sweep.mask_eq (w : Sweep) :
    w.mask = BitVec.ofNat 8 ((List.finRange 6).map fun k => if w.completed[k] then 2 ^ k.val else 0).sum := by
  have word : ∀ a b c d e f : Bool, flagByte [a, b, c, d, e, f] =
      BitVec.ofNat 8 ((if a then 1 else 0) + ((if b then 2 else 0) + ((if c then 4 else 0) + ((if d then 8 else 0) +
        ((if e then 16 else 0) + ((if f then 32 else 0) + 0)))))) := by decide
  obtain ⟨_, _, _, _, ⟨⟨l⟩, hl⟩, _⟩ := w
  match l, hl with
  | [a, b, c, d, e, f], _ => exact word a b c d e f

theorem flagByte_pair (a b : Bool) :
    flagByte [a, b] = BitVec.ofNat 8 ((if a then 1 else 0) + (if b then 2 else 0)) := by
  revert a b
  decide

theorem causeByte_eq (c : SweepCause) :
    byte (causeCode c) = match c with | .none => 0 | .request => 1 | .delay => 2 | .sync => 3 := by
  cases c <;> rfl

theorem serveGaugeRead_bad {gauge : Byte} (s : State) (h : 5 < gauge.toNat) :
    serveGaugeRead gauge s = refuse s .badArgument := by
  rw [serveGaugeRead, index?_none h]

/-- Settles O56: each request is served at once, refused or carried out by its service's lemmas. -/
theorem curveAndGaugeRequests : Obligations.CurveAndGaugeRequests := by
  intro s hs t
  have hcurves : t.curves = s.curves := by simp [t]
  have hgauge : t.gauge = s.gauge := by simp [t]
  refine ⟨?_, ?_, ?_, ?_, ?_⟩
  · intro curve count points loaded
    refine ⟨fun h => ?_, fun hl h => ?_, fun c hl hc low high h => ?_⟩
    · exact exec_refused (r := .length) hs rfl rfl (serveCurveLoad_length curve t h)
    · exact exec_badArgument hs rfl rfl (serveCurveLoad_bad t hl h)
    · have served := serveCurveLoad_good t hl hc low high h
      rw [hcurves] at served
      exact exec_accepted hs rfl rfl served
  · refine fun curve => ⟨fun h => exec_badArgument hs rfl rfl (serveCurveRead_bad t h), fun c h => ?_⟩
    have served := serveCurveRead_good t h
    rw [hcurves] at served
    exact exec_reading hs rfl rfl served
  · intro gauge f delay bad
    refine ⟨fun h => ?_, fun k source curve h hk hsource hcurve => ?_⟩
    · exact exec_badArgument hs rfl rfl (serveGaugeConfigure_bad t (h.imp_right (gaugeRefused_iff f delay).mpr))
    · intro g config g' gs w closes u
      have served := serveGaugeConfigure_good t hk fun e => h (.inr ((gaugeRefused_iff f delay).mp e))
      rw [gaugeConfigOf_eq hsource hcurve, hgauge] at served
      have checked : serveGaugeConfigure gauge f delay t = accepted u.checkSweep := served
      rw [State.checkSweep_eq] at checked
      exact ⟨fun hc => exec_accepted hs rfl rfl (checked.trans (congrArg accepted (if_neg hc))),
        fun hc => exec_accepted hs rfl rfl (checked.trans (congrArg accepted (if_pos hc)))⟩
  · refine fun gauge => ⟨fun h => exec_badArgument hs rfl rfl (serveGaugeRead_bad t h), fun k h => ?_⟩
    refine exec_reading hs rfl rfl ?_
    change serveGaugeRead gauge t = reading t _
    simp only [serveGaugeRead, index?_some k h, hgauge, Sweep.mask_eq, flagByte_pair, causeByte_eq]
    rfl
  · intro armed
    have armed_iff : t.anyArmed = true ↔ armed := by rw [State.anyArmed_iff, hgauge]
    refine ⟨fun h => ?_, fun h => ?_⟩
    · exact exec_refused (r := .conditions) hs rfl rfl (if_neg fun g => h (armed_iff.mp g))
    · have start := State.startSweep_request (armed_iff.mpr h)
      rw [hgauge] at start
      refine ⟨t.startSweep .request, exec_accepted hs rfl rfl (if_pos (armed_iff.mpr h)), fun k => ?_, ?_⟩
      · rw [start]
        refine (vmap_get _ _ k).trans ?_
        split <;> rfl
      · rw [start]

end Sys2Proof.Machine
end

section
/-!
SUPPORT and proof: the records of the odometer ring, which are valid and which is the newest (R48, R49).
-/
namespace Sys2Proof.Machine

/-! ## Records -/

theorem readRun_three (m : Memory) (a : Nat) :
    readRun m a 3 = [(readWord m a).toNat, (readWord m (a + 1)).toNat, (readWord m (a + 2)).toNat] := rfl

/-- A slot's record is valid when its three words sum to 0xA5A5 and its value lies below the modulus (R48). -/
theorem ringRecord_eq_some (m : Memory) (slot : Fin 8) (value : Nat) :
    ringRecord m slot = some value ↔
      ((readWord m (7 + 3 * slot.val)).toNat + (readWord m (8 + 3 * slot.val)).toNat +
          (readWord m (9 + 3 * slot.val)).toNat) % 65536 = 0xA5A5 ∧
        value = (readWord m (7 + 3 * slot.val)).toNat * 65536 + (readWord m (8 + 3 * slot.val)).toNat ∧
        value ≤ 99999999 := by
  have low : 7 + 3 * slot.val + 1 = 8 + 3 * slot.val := by omega
  have check : 7 + 3 * slot.val + 2 = 9 + 3 * slot.val := by omega
  unfold ringRecord
  rw [readRun_three, low, check]
  generalize (readWord m (7 + 3 * slot.val)).toNat = hi
  generalize (readWord m (8 + 3 * slot.val)).toNat = lo
  generalize (readWord m (9 + 3 * slot.val)).toNat = check
  have sum : checks [hi, lo, check] = true ↔ (hi + lo + check) % 65536 = 0xA5A5 := by
    simp [checks, sum16, Config.checkSum, Nat.add_assoc]
  simp only [sum, Config.odometerModulus]
  split
  · next h => simp only [Option.some.injEq]; omega
  · next h =>
    refine iff_of_false nofun ?_
    rintro ⟨sums, rfl, le⟩
    exact h ⟨sums, Nat.lt_succ_of_le le⟩

theorem ringRecord_le {m : Memory} {slot : Fin 8} {value : Nat} (h : ringRecord m slot = some value) :
    value ≤ 99999999 := ((ringRecord_eq_some m slot value).mp h).2.2

/-- Settles O18: the record's rule is `ringRecord_eq_some`, and the value's bound is one of its two words. -/
theorem ringRecordValidity : Obligations.RingRecordValidity := by
  intro m slot value hi lo check
  have word : lo < 65536 := (readWord m (8 + 3 * slot.val)).isLt
  exact ⟨ringRecord_eq_some m slot value, by omega⟩

/-! ## The newest record -/

/-- Of two valid records, the newer is ahead by 1 to 49,999,999 modulo 100,000,000 (R49). -/
theorem newer_iff {a b : Nat} (ha : a ≤ 99999999) (hb : b ≤ 99999999) :
    newer a b = true ↔ 1 ≤ ((a : Int) - b) % 100000000 ∧ ((a : Int) - b) % 100000000 ≤ 49999999 := by
  unfold newer Config.odometerModulus
  dsimp only
  rw [decide_eq_true_iff]
  omega

theorem mem_ringRecords {m : Memory} {r : Fin 8 × Nat} : r ∈ ringRecords m ↔ ringRecord m r.1 = some r.2 := by
  obtain ⟨k, v⟩ := r
  simp [ringRecords]

/-- The ring's records stand in the order of their slots. -/
theorem ringRecords_sorted (m : Memory) : (ringRecords m).Pairwise (·.1 < ·.1) := by
  refine (List.pairwise_lt_finRange 8).filterMap _ fun a b hab x hx y hy => ?_
  obtain ⟨v, -, rfl⟩ := Option.map_eq_some_iff.mp hx
  obtain ⟨w, -, rfl⟩ := Option.map_eq_some_iff.mp hy
  exact hab

/-- In a list in the order of its keys the first member with a property is found. -/
theorem find?_of_first {l : List (Fin 8 × Nat)} (sorted : l.Pairwise (·.1 < ·.1)) {p : Fin 8 × Nat → Bool}
    {r : Fin 8 × Nat} (hr : r ∈ l) (hp : p r = true) (first : ∀ x ∈ l, x.1 < r.1 → ¬ p x = true) :
    l.find? p = some r := by
  induction l with
  | nil => cases hr
  | cons x l ih =>
    obtain ⟨least, sorted⟩ := List.pairwise_cons.mp sorted
    rcases List.mem_cons.mp hr with rfl | hr
    · exact List.find?_cons_of_pos hp
    · rw [List.find?_cons_of_neg (first x List.mem_cons_self (least r hr))]
      exact ih sorted hr fun y hy => first y (List.mem_cons_of_mem x hy)

theorem head?_eq_find? {α : Type} (l : List α) : l.head? = l.find? fun _ => true := by
  cases l <;> rfl

/-- A record that no valid record is newer than (R49). -/
abbrev candidateRecord (m : Memory) (k : Fin 8) (v : Nat) : Prop :=
  ringRecord m k = some v ∧ ∀ (j : Fin 8) (w : Nat), ringRecord m j = some w → newer w v = false

theorem candidateRecord_iff {m : Memory} {r : Fin 8 × Nat} (hr : r ∈ ringRecords m) :
    ((ringRecords m).all fun o => !newer o.2 r.2) = true ↔ candidateRecord m r.1 r.2 := by
  rw [List.all_eq_true]
  simp only [candidateRecord, mem_ringRecords.mp hr, true_and, Bool.not_eq_true', mem_ringRecords, Prod.forall]

theorem newestRecord_eq (m : Memory) :
    newestRecord m = ((ringRecords m).find? fun r => (ringRecords m).all fun o => !newer o.2 r.2).or
      (ringRecords m).head? := rfl

/-- The first candidate is the newest record (R49). -/
theorem newestRecord_of_candidate {m : Memory} {k : Fin 8} {v : Nat} (h : candidateRecord m k v)
    (first : ∀ (j : Fin 8) (w : Nat), j < k → ¬ candidateRecord m j w) : newestRecord m = some (k, v) := by
  have hr : (k, v) ∈ ringRecords m := mem_ringRecords.mpr h.1
  have found := find?_of_first (ringRecords_sorted m) hr ((candidateRecord_iff hr).mpr h)
    fun x hx hlt hp => first x.1 x.2 hlt ((candidateRecord_iff hx).mp hp)
  rw [newestRecord_eq, found]
  rfl

/-- With no candidate the record of the lowest slot is the newest (R49). -/
theorem newestRecord_of_not_candidate {m : Memory} {k : Fin 8} {v : Nat}
    (h : ∀ (j : Fin 8) (w : Nat), ¬ candidateRecord m j w) (hr : ringRecord m k = some v)
    (lowest : ∀ j : Fin 8, j < k → ringRecord m j = none) : newestRecord m = some (k, v) := by
  have found : ((ringRecords m).find? fun r => (ringRecords m).all fun o => !newer o.2 r.2) = none :=
    List.find?_eq_none.mpr fun r hr hp => h r.1 r.2 ((candidateRecord_iff hr).mp hp)
  have first := find?_of_first (p := fun _ => true) (ringRecords_sorted m) (r := (k, v)) (mem_ringRecords.mpr hr) rfl
    fun x hx hlt _ => absurd ((lowest x.1 hlt).symm.trans (mem_ringRecords.mp hx)) nofun
  rw [newestRecord_eq, found, head?_eq_find?, first]
  rfl

/-- The newest record is one of the ring's (R49). -/
theorem ringRecord_of_newestRecord {m : Memory} {r : Fin 8 × Nat} (h : newestRecord m = some r) :
    ringRecord m r.1 = some r.2 := by
  rw [newestRecord_eq] at h
  refine mem_ringRecords.mp ?_
  rcases Option.or_eq_some_iff.mp h with found | ⟨-, head⟩
  · exact List.mem_of_find?_eq_some found
  · exact List.mem_of_mem_head? head

theorem newestRecord_eq_none (m : Memory) : newestRecord m = none ↔ ∀ k : Fin 8, ringRecord m k = none := by
  constructor
  · intro h k
    rw [newestRecord_eq] at h
    obtain ⟨-, head⟩ := Option.or_eq_none_iff.mp h
    rcases hv : ringRecord m k with _ | v
    · rfl
    · have hr : (k, v) ∈ ringRecords m := mem_ringRecords.mpr hv
      rw [List.head?_eq_none_iff.mp head] at hr
      cases hr
  · intro h
    rcases hr : newestRecord m with _ | r
    · rfl
    · cases (h r.1).symm.trans (ringRecord_of_newestRecord hr)

/-- Settles O19: the newest record is the first candidate, or the lowest record where there is none. -/
theorem newestRingRecord : Obligations.NewestRingRecord :=
  ⟨fun _ _ ha hb => newer_iff ha hb, fun m => ⟨newestRecord_eq_none m,
    fun _ _ h first => newestRecord_of_candidate h first,
    fun _ _ h hr lowest => newestRecord_of_not_candidate h hr lowest⟩⟩

end Sys2Proof.Machine
end

section
/-!
SUPPORT: the drum by itself: what is sound, and what its operations keep (3.7, R55 to R60).
-/
namespace Sys2Proof.Machine

/-! ## The drum by itself -/

/-- What the law of the drum says of the drum alone (3.7, R55 to R59). -/
structure Drum.Sound (d : Drum) : Prop where
  debt : d.debt ≤ 65535
  p : d.p < 20
  sinceIndex : d.sinceIndex < 24
  missCount : d.missCount ≤ 2
  phase : d.phase < 4
  idle : d.state = .idle → d.debt = 0
  stepping : d.state = .stepping → 0 < d.debt ∧ d.coils = true
  absent : d.state = .absent → d = Drum.initial false

theorem State.drumSound_iff (s : State) :
    s.drumSound ↔ s.drum.Sound ∧ s.accum.rs < 5 ∧ (s.drum.state = .absent → s.accum.rs = 0) := by
  constructor
  · rintro ⟨debt, rs, p, sinceIndex, missCount, phase, idle, stepping, absent⟩
    exact ⟨⟨debt, p, sinceIndex, missCount, phase, idle, stepping, fun h => (absent h).2⟩, rs,
      fun h => (absent h).1⟩
  · rintro ⟨h, rs, absent⟩
    exact ⟨h.debt, rs, h.p, h.sinceIndex, h.missCount, h.phase, h.idle, h.stepping,
      fun g => ⟨absent g, h.absent g⟩⟩

/-- A drum whose debt, phase and lost flag stand, that is fitted as it was, and sound if it was. -/
structure DrumKept (d e : Drum) : Prop where
  debt : e.debt = d.debt
  phase : e.phase = d.phase
  lost : e.lost = d.lost
  fitted : e.state = .absent ↔ d.state = .absent
  sound : d.Sound → e.Sound

theorem DrumKept.refl (d : Drum) : DrumKept d d := ⟨rfl, rfl, rfl, Iff.rfl, id⟩

theorem DrumKept.of_eq {d e : Drum} (h : e = d) : DrumKept d e := h ▸ .refl d

theorem DrumKept.trans {d e f : Drum} (h : DrumKept d e) (g : DrumKept e f) : DrumKept d f :=
  ⟨g.debt.trans h.debt, g.phase.trans h.phase, g.lost.trans h.lost, g.fitted.trans h.fitted, g.sound ∘ h.sound⟩

theorem Drum.tick_kept (d : Drum) : DrumKept d d.tick := by
  unfold Drum.tick
  split
  · next coils =>
    refine ⟨rfl, rfl, rfl, Iff.rfl, fun h => { h with absent := fun e => ?_ }⟩
    simp [h.absent e, Drum.initial] at coils
  · exact .refl d

/-- The coils go off in a drum that owes no steps or takes none (R57). -/
theorem State.releaseCoils_kept (s : State) : DrumKept s.drum s.releaseCoils.drum := by
  unfold State.releaseCoils
  split
  · next h =>
    simp only [Bool.and_eq_true, Bool.or_eq_true, beq_iff_eq] at h
    refine ⟨rfl, rfl, rfl, Iff.rfl, fun k => { k with stepping := fun e => ?_, absent := fun e => ?_ }⟩
    · simp [show s.drum.state = .stepping from e] at h
    · simp [show s.drum.state = .absent from e] at h
  · exact .refl _

/-- A miss counted in a drum that is watched (R58, R59). -/
theorem State.countMiss_kept {s : State} (h : s.drum.state = .idle ∨ s.drum.state = .stepping) :
    DrumKept s.drum s.countMiss.drum := by
  have fitted : s.drum.state ≠ .absent := by rcases h with h | h <;> simp [h]
  unfold State.countMiss
  split
  · next count =>
    exact ⟨rfl, rfl, rfl, Iff.rfl, fun k => { k with
      missCount := Nat.le_of_lt_succ count, absent := fun e => absurd e fitted }⟩
  · exact ⟨rfl, rfl, rfl, by simp [State.notifyDrum, fitted], fun k => { k with
      missCount := Nat.le_refl 2, idle := nofun, stepping := nofun, absent := nofun }⟩

theorem State.indexEdge_kept (s : State) : DrumKept s.drum s.indexEdge.drum := by
  unfold State.indexEdge
  split
  · next h =>
    simp only [Bool.and_eq_true, Bool.or_eq_true, beq_iff_eq] at h
    obtain ⟨-, watched⟩ := h
    have fitted : s.drum.state ≠ .absent := by rcases watched with h | h <;> simp [h]
    have found {n : Nat} (hn : n ≤ s.drum.missCount) :
        DrumKept s.drum { s.drum with p := 0, indexKnown := true, sinceIndex := 0, missCount := n } :=
      ⟨rfl, rfl, rfl, Iff.rfl, fun k => { k with
        p := Nat.zero_lt_succ _, sinceIndex := Nat.zero_lt_succ _, missCount := hn.trans k.missCount,
        absent := fun e => absurd e fitted }⟩
    dsimp only
    split
    · exact found (Nat.le_refl _)
    split
    · exact found (Nat.zero_le _)
    · exact (found (Nat.le_refl _)).trans (State.countMiss_kept
        (s := { s with drum := { s.drum with p := 0, indexKnown := true, sinceIndex := 0 } }) watched)
  · exact .refl _

theorem State.missIndex_kept (s : State) : DrumKept s.drum s.missIndex.drum := by
  unfold State.missIndex
  split
  · next due =>
    have taken : DrumKept s.drum { s.drum with missDue := false } :=
      ⟨rfl, rfl, rfl, Iff.rfl, fun k => { k with absent := fun e => by simp [k.absent e, Drum.initial] at due }⟩
    dsimp only
    split
    · next watched =>
      exact taken.trans (State.countMiss_kept (s := { s with drum := { s.drum with missDue := false } }) watched)
    · exact taken
  · exact .refl _

/-- A drum that owes steps sets out with its coils energised (R57). -/
theorem Drum.start_sound {d : Drum} (h : d.Sound) (hd : 0 < d.debt) : d.start.Sound := by
  unfold Drum.start
  split
  · next coils => exact { h with idle := nofun, stepping := fun _ => ⟨hd, coils⟩, absent := nofun }
  · exact { h with idle := nofun, stepping := fun _ => ⟨hd, rfl⟩, absent := nofun }

/-- What a start leaves of the debt, the phase and the lost flag. -/
theorem Drum.start_keeps (d : Drum) :
    d.start.debt = d.debt ∧ d.start.phase = d.phase ∧ d.start.lost = d.lost ∧ d.start.state = .stepping := by
  unfold Drum.start
  split <;> exact ⟨rfl, rfl, rfl, rfl⟩

/-- The drum as Drum Restart clears it (R60). -/
def Drum.cleared (d : Drum) : Drum := { d with missCount := 0, indexKnown := false, sinceIndex := 0 }

theorem Drum.cleared_sound {d : Drum} (h : d.Sound) : d.cleared.Sound :=
  { h with missCount := Nat.zero_le _, sinceIndex := Nat.zero_lt_succ _,
           absent := fun e => by
            have := h.absent e
            subst this
            rfl }

theorem serveDrumRestart_absent {s : State} (h : s.drum.state = .absent) :
    serveDrumRestart s = refuse s .conditions := by
  simp only [serveDrumRestart, h]

theorem serveDrumRestart_fault {s : State} (h : s.drum.state = .fault) :
    serveDrumRestart s = accepted (State.notifyDrum { s with
      drum := if s.drum.debt = 0 then { s.drum.cleared with state := .idle } else s.drum.cleared.start }) := by
  simp only [serveDrumRestart, h]
  rfl

theorem serveDrumRestart_watched {s : State} (h : s.drum.state = .idle ∨ s.drum.state = .stepping) :
    serveDrumRestart s = accepted { s with drum := s.drum.cleared } := by
  unfold serveDrumRestart
  dsimp only
  split
  · next e => simp [e] at h
  · next e => simp [e] at h
  · rfl

theorem serveDrumRestart_kept (s : State) : DrumKept s.drum (serveDrumRestart s).state.drum := by
  have cleared : DrumKept s.drum s.drum.cleared := ⟨rfl, rfl, rfl, Iff.rfl, Drum.cleared_sound⟩
  cases h : s.drum.state with
  | absent => rw [serveDrumRestart_absent h]; exact .refl _
  | idle => rw [serveDrumRestart_watched (.inl h)]; exact cleared
  | stepping => rw [serveDrumRestart_watched (.inr h)]; exact cleared
  | fault =>
    rw [serveDrumRestart_fault h]
    simp only [accepted_state, State.notifyDrum, State.notify_frame]
    by_cases owes : s.drum.debt = 0
    · rw [if_pos owes]
      exact ⟨rfl, rfl, rfl, by simp [h], fun k => { Drum.cleared_sound k with
        idle := fun _ => owes, stepping := nofun, absent := nofun }⟩
    · rw [if_neg owes]
      obtain ⟨debt, phase, lost, state⟩ := s.drum.cleared.start_keeps
      exact ⟨debt, phase, lost, by simp [state, h], fun k =>
        Drum.start_sound (Drum.cleared_sound k) (Nat.pos_of_ne_zero owes)⟩

/-! ## A step taken and a step owed -/

/-- A step taken leaves the drum in STEPPING or brings it to IDLE (R57). -/
theorem Drum.step_state {d : Drum} (hd : d.state = .stepping) :
    (d.debt ≤ 1 ∧ d.step.state = .idle) ∨ (1 < d.debt ∧ d.step.state = .stepping) := by
  unfold Drum.step
  dsimp only
  split
  · exact .inl ⟨by omega, rfl⟩
  · exact .inr ⟨by omega, hd⟩

theorem Drum.step_fitted {d : Drum} (hd : d.state = .stepping) : d.step.state ≠ .absent := by
  rcases Drum.step_state hd with ⟨-, e⟩ | ⟨-, e⟩ <;> simp [e]

/-- A step taken leaves a sound drum (R57, R59). -/
theorem Drum.step_sound {d : Drum} (h : d.Sound) (hd : d.state = .stepping) : d.step.Sound where
  debt := (Nat.sub_le _ _).trans h.debt
  p := Nat.mod_lt _ (by decide)
  sinceIndex := by unfold Drum.step; dsimp only; split <;> omega
  missCount := h.missCount
  phase := Nat.mod_lt _ (by decide)
  idle e := by
    rcases Drum.step_state hd with ⟨last, -⟩ | ⟨-, g⟩
    · exact Nat.sub_eq_zero_of_le last
    · cases g.symm.trans e
  stepping e := by
    rcases Drum.step_state hd with ⟨-, g⟩ | ⟨owes, -⟩
    · cases g.symm.trans e
    · exact ⟨Nat.sub_pos_of_lt owes, (h.stepping hd).2⟩
  absent e := absurd e (Drum.step_fitted hd)

/-- A step turns the phase (R57). -/
theorem Drum.step_phase_ne (d : Drum) : d.step.phase ≠ d.phase := by
  unfold Drum.step
  dsimp only
  omega

/-- A step owed leaves a sound drum (R56, R57). -/
theorem Drum.owe_sound {d : Drum} (h : d.Sound) (hd : d.state ≠ .absent) : d.owe.Sound := by
  rw [Drum.owe_eq]
  split
  · exact { h with absent := fun e => absurd e hd }
  · next room =>
    have owed : d.debt + 1 ≤ 65535 := Nat.lt_of_le_of_ne h.debt room
    split
    · exact { h with debt := owed, idle := nofun, stepping := fun _ => ⟨Nat.succ_pos _, rfl⟩, absent := nofun }
    · next idle =>
      exact { h with debt := owed, idle := fun e => absurd e idle,
                     stepping := fun e => ⟨Nat.succ_pos _, (h.stepping e).2⟩, absent := fun e => absurd e hd }

theorem Drum.owe_keeps (d : Drum) :
    d.owe.phase = d.phase ∧ (d.state ≠ .absent → d.owe.state ≠ .absent) ∧
    (d.debt = 65535 → d.owe.debt = 65535 ∧ d.owe.lost = true) ∧
    (d.debt ≠ 65535 → d.owe.debt = d.debt + 1 ∧ d.owe.lost = d.lost) := by
  rw [Drum.owe_eq]
  split
  · next full => exact ⟨rfl, id, fun _ => ⟨full, rfl⟩, fun h => absurd full h⟩
  · next room =>
    split
    · exact ⟨rfl, fun _ => nofun, fun h => absurd h room, fun _ => ⟨rfl, rfl⟩⟩
    · exact ⟨rfl, id, fun h => absurd h room, fun _ => ⟨rfl, rfl⟩⟩

end Sys2Proof.Machine
end

section
/-!
SUPPORT: what a command can do to the constants, the accumulators and the drum, said once (R40 to R47, R55 to R60).
-/
namespace Sys2Proof.Machine

/-! ## The meters -/

/-- The accumulators but for the ring's position. -/
def Accumulators.counts (a : Accumulators) : Nat × Nat × Nat × Nat × Nat := (a.rd, a.rf, a.rr, a.total, a.rs)

theorem Accumulators.counts_inj {a b : Accumulators} :
    a.counts = b.counts ↔ a.rd = b.rd ∧ a.rf = b.rf ∧ a.rr = b.rr ∧ a.total = b.total ∧ a.rs = b.rs := by
  simp only [Accumulators.counts, Prod.mk.injEq]

/-- A completed write leaves the accumulators but for the ring's position (R52). -/
theorem Accumulators.stored_counts (a : Accumulators) (k : FlightKind) : (a.stored k).counts = a.counts := by
  cases k <;> rfl

theorem State.completeWord_counts (s : State) : s.completeWord.accum.counts = s.accum.counts := by
  unfold State.completeWord
  repeat' split
  · exact s.accum.stored_counts _
  all_goals rfl

/-- No DU, KR or mL, no step of the drum and no new constants: the constants and the accumulators stand, the drum is
kept, and a part is held in reset only where it was. -/
structure MetersKept (s t : State) : Prop where
  consts : t.consts = s.consts
  counts : t.accum.counts = s.accum.counts
  drum : DrumKept s.drum t.drum
  held : HeldBefore s t

theorem MetersKept.refl (s : State) : MetersKept s s := ⟨rfl, rfl, .refl _, id⟩

theorem MetersKept.trans {s t u : State} (h : MetersKept s t) (g : MetersKept t u) : MetersKept s u :=
  ⟨g.consts.trans h.consts, g.counts.trans h.counts, h.drum.trans g.drum, h.held.trans g.held⟩

/-- What leaves the blocks of the meters alone keeps the meters. -/
theorem MetersKept.of_eq {s t : State} (h : t.consts = s.consts ∧ t.accum = s.accum ∧ t.drum = s.drum)
    (held : HeldBefore s t) : MetersKept s t :=
  ⟨h.1, congrArg _ h.2.1, .of_eq h.2.2, held⟩

/-- What keeps the drum, and leaves the other blocks of the meters alone, keeps the meters. -/
theorem MetersKept.of_drum {s t : State} (h : t.consts = s.consts ∧ t.accum = s.accum ∧ t.power = s.power)
    (drum : DrumKept s.drum t.drum) : MetersKept s t :=
  ⟨h.1, congrArg _ h.2.1, drum, .of_eq h.2.2⟩

theorem State.reach_meters (s : State) (m : Moment) : MetersKept s (s.reach m) :=
  .of_eq (by simp) (.of_eq (by simp))

theorem State.frameActivity_meters (s : State) : MetersKept s s.frameActivity :=
  .of_eq (by simp) s.frameActivity_held

theorem State.takeInitEnd_meters (s : State) (m : Moment) : MetersKept s (s.takeInitEnd m) := by
  unfold State.takeInitEnd
  split
  · exact (s.reach_meters m).trans (.of_eq (by simp) (State.endInit_held _))
  · exact .refl s

theorem State.takeRunEntry_meters (s : State) (m : Moment) : MetersKept s (s.takeRunEntry m) := by
  unfold State.takeRunEntry
  split
  · split
    · exact (s.reach_meters m).trans (.of_eq (by simp) (State.runEntry_held _))
    · exact .refl s
  · exact .refl s

theorem State.tick_meters (s : State) (di : BitVec 12) (ign : Bool) (pulse : BitVec 5) :
    MetersKept s (s.tick di ign pulse) := by
  refine ⟨by simp, by simp, ?_, s.tick_held di ign pulse⟩
  unfold State.tick State.tickTimers
  split
  · exact .refl _
  · have drum : ((s.samplePins di ign pulse).tickFreshness).drum = s.drum := by simp
    dsimp only
    split
    · exact drum.symm ▸ s.drum.tick_kept
    · exact .of_eq drum

theorem State.takeIdx_meters (s : State) : MetersKept s s.takeIdx := by
  unfold State.takeIdx
  dsimp only
  split
  · exact .of_drum (by simp) (State.indexEdge_kept (s.idxInput _))
  · exact .refl s

theorem State.completeWord_meters (s : State) : MetersKept s s.completeWord :=
  ⟨by simp, s.completeWord_counts, .of_eq (by simp), .of_eq (by simp)⟩

/-- A service leaves the meters, but for the write of the constants. -/
theorem service_meters {c : Instr} {f : Service} (hc : service? c = some f) (s : State) :
    MetersKept s (f s).state ∨ ∃ kvss cinj ppr consumption reserve,
      f = serveVehicleConstantsWrite kvss cinj ppr consumption reserve := by
  cases c <;> simp only [service?, reduceCtorEq, Option.some.injEq] at hc <;> subst hc
  case vehicleConstantsWrite => exact .inr ⟨_, _, _, _, _, rfl⟩
  case drumRestart => exact .inl (.of_drum (by simp) (serveDrumRestart_kept s))
  case softRestart =>
    have power : (serveSoftRestart s).state.power = s.restore.power := by rw [serveSoftRestart, accepted_state]
    exact .inl (.of_eq (by simp) (s.restore_held.trans (.of_eq power)))
  case discreteInputConfigure input polarity debounce wake =>
    refine .inl (.of_eq (by simp) ?_)
    unfold serveDiscreteInputConfigure
    split
    · exact id
    · split
      · exact id
      · exact s.changeDiscrete_held _ _
  all_goals exact .inl (.of_eq (by simp) (.of_eq (by simp)))

/-- A property that the meters decide is kept by the link when the write of the constants keeps it. -/
theorem LinkKeeps.of_meters {P : State → Prop} (kept : ∀ s t, MetersKept s t → P s → P t)
    (write : ∀ kvss cinj ppr consumption reserve s, P s →
      P (serveVehicleConstantsWrite kvss cinj ppr consumption reserve s).state) : LinkKeeps P where
  link s _ := kept _ _ (.of_eq ⟨rfl, rfl, rfl⟩ id)
  reach s m := kept _ _ (s.reach_meters m)
  wake s := kept _ _ s.frameActivity_meters
  serve c f s hc hs := by
    rcases service_meters hc s with h | ⟨kvss, cinj, ppr, consumption, reserve, rfl⟩
    · exact kept _ _ h hs
    · exact write kvss cinj ppr consumption reserve s hs

/-! ## What a command can do to the meters -/

/-- A command keeps the meters, or is one of the few that move them; the link's commands do what the services do. -/
inductive MeterStep (c : Instr) (s t : State) : Prop
  | kept (h : MetersKept s t)
  | link (h : ∀ P : State → Prop, LinkKeeps P → P s → P t)
  | reset (di : BitVec 12) (ign : Bool) (pulse : BitVec 5) (lrate drumfit : Bool)
      (hc : c = .powerOnReset di ign pulse lrate drumfit) (h : t = s.powerOnReset di ign pulse lrate drumfit)
  | release (hc : c = .resetnRelease) (h : t = s.release)
  | distance (sub : BitVec 8) (hc : c = .spdEdge sub) (u : State) (hu : MetersKept s u)
      (hrun : u.power.state = .run) (h : t = u.addDistance)
  | revolution (u : State) (hu : MetersKept s u) (hrun : u.power.state = .run) (h : t = u.addRevolution)
  | window (tripFirst : Bool) (hrun : s.power.state = .run) (h : t = s.closeWindow tripFirst)
  | drumStep (hd : s.drum.state = .stepping) (h : t = { s with drum := s.drum.step })

/-- What the link keeps is kept by every request row (R172 to R174). -/
theorem LinkKeeps.exec_request {P : State → Prop} (h : LinkKeeps P) {c : Instr} {f : Service}
    (hc : service? c = some f) {s t : State} (hs : P s) (he : exec c s = .next t) : P t := by
  rcases hq : frame? c with _ | ⟨k, p⟩
  · exact absurd (frame?_isSome c) (by simp [hq, hc])
  · by_cases g : s.power.state = .held
    · obtain rfl := Host.Outcome.next.inj ((exec_request_held (by simp [hq]) g).symm.trans he)
      exact hs
    · obtain rfl := Host.Outcome.next.inj ((Machine.exec_request s hq hc g).symm.trans he)
      exact h.request (h.atCommand hs c) hc k p

theorem State.takeSpd_meters (s : State) (sub : BitVec 8) : MeterStep (.spdEdge sub) s (s.takeSpd sub) := by
  rw [State.takeSpd_eq]
  split
  · next h => exact .distance sub rfl (broughtTo s sub).spdEdge (.of_eq ⟨rfl, rfl, rfl⟩ id) h.1 rfl
  · exact .kept (.refl s)

theorem State.takeTac_meters (s : State) {c : Instr} (sub : BitVec 8) : MeterStep c s (s.takeTac sub) := by
  rw [State.takeTac_eq]
  split
  · next h => exact .revolution (broughtTo s sub).tacEdge (.of_eq ⟨rfl, rfl, rfl⟩ id) h.1 rfl
  · exact .kept (.refl s)

theorem State.takeWindowClose_meters (s : State) {c : Instr} (tripFirst : Bool) :
    MeterStep c s (s.takeWindowClose tripFirst) := by
  unfold State.takeWindowClose
  split
  · next h =>
    simp only [State.windowDue, State.inRun, Bool.and_eq_true, beq_iff_eq] at h
    exact .window tripFirst h.1 rfl
  · exact .kept (.refl s)

theorem State.stepDrum_meters (s : State) {c : Instr} : MeterStep c s s.stepDrum := by
  unfold State.stepDrum
  split
  · next h =>
    simp only [Bool.and_eq_true, beq_iff_eq] at h
    exact .drumStep h.1.2 rfl
  · exact .kept (.refl s)

/-- Every command is one of the cases: a request row by its service, an event row not at all in a part held in reset,
and else by its operation. -/
theorem exec_meterStep {c : Instr} {s t : State} (he : exec c s = .next t) : MeterStep c s t := by
  rcases hc : service? c with _ | f
  case some => exact .link fun P h hs => h.exec_request hc hs he
  by_cases hs : s.power.state = .held
  · cases c <;> simp only [service?, reduceCtorEq] at hc
    case powerOnReset => exact .reset _ _ _ _ _ rfl (Host.Outcome.next.inj he).symm
    case resetnRelease => exact .release rfl (Host.Outcome.next.inj he).symm
    all_goals
      obtain rfl := (Host.Outcome.next.inj he).symm.trans (if_pos hs)
      exact .kept (.refl _)
  have of {u : State} (h : exec c s = .next u) : t = u := Host.Outcome.next.inj (he.symm.trans h)
  have kept {u : State} (h : exec c s = .next u) (k : MetersKept s u) : MeterStep c s t := of h ▸ .kept k
  have same {u : State} (h : exec c s = .next u)
      (k : (u.consts = s.consts ∧ u.accum = s.accum ∧ u.drum = s.drum) ∧ u.power = s.power) : MeterStep c s t :=
    kept h (.of_eq k.1 (.of_eq k.2))
  cases c <;> simp only [service?, reduceCtorEq] at hc
  case powerOnReset => exact .reset _ _ _ _ _ rfl (Host.Outcome.next.inj he).symm
  case resetnRelease => exact .release rfl (Host.Outcome.next.inj he).symm
  case initEnd m => exact kept (exec_initEnd hs m) (s.takeInitEnd_meters m)
  case tick di ign pulse => exact kept (exec_tick hs di ign pulse) (s.tick_meters di ign pulse)
  case discreteChange k => exact kept (exec_discreteChange hs k) (.of_eq (by simp) (s.discreteChange_held k))
  case runEntry m => exact kept (exec_runEntry hs m) (s.takeRunEntry_meters m)
  case runExit b => exact kept (exec_runExit hs b) (.of_eq (by simp) (s.runExit_held b))
  case secondEnd => exact kept (exec_secondEnd hs) (.of_eq (by simp) s.secondEnd_held)
  case dayEnd => exact same (exec_dayEnd hs) (by simp)
  case freshnessExpiry e => exact same (exec_freshnessExpiry hs e) (by simp)
  case lingerExpiry => exact kept (exec_lingerExpiry hs) (.of_eq (by simp) s.lingerExpiry_held)
  case asleepEntry => exact kept (exec_asleepEntry hs) (.of_eq (by simp) s.asleepEntry_held)
  case spdEdge sub => exact of (exec_spdEdge hs sub) ▸ s.takeSpd_meters sub
  case tacEdge sub => exact of (exec_tacEdge hs sub) ▸ s.takeTac_meters sub
  case injLevelChange sub => exact same (exec_injLevelChange hs sub) (by simp)
  case idxEdge => exact kept (exec_idxEdge hs) s.takeIdx_meters
  case windowClose tripFirst => exact of (exec_windowClose hs tripFirst) ▸ s.takeWindowClose_meters tripFirst
  case analogSample i raw => exact same (exec_analogSample hs i raw) (by simp)
  case tripSecond => exact same (exec_tripSecond hs) (by simp)
  case gaugeMotionStep => exact same (exec_gaugeMotionStep hs) (by simp)
  case sweepDelayExpiry => exact same (exec_sweepDelayExpiry hs) (by simp)
  case sweepTimeoutExpiry => exact same (exec_sweepTimeoutExpiry hs) (by simp)
  case syncFallingEdge => exact same (exec_syncFallingEdge hs) (by simp)
  case syncPulseEnd => exact same (exec_syncPulseEnd hs) (by simp)
  case monitorEvaluation i => exact same (exec_monitorEvaluation hs i) (by simp)
  case assertTimerExpiry i => exact same (exec_assertTimerExpiry hs i) (by simp)
  case releaseTimerExpiry i => exact same (exec_releaseTimerExpiry hs i) (by simp)
  case reminderExpiry i => exact same (exec_reminderExpiry hs i) (by simp)
  case chimeStepEnd => exact same (exec_chimeStepEnd hs) ⟨⟨rfl, rfl, rfl⟩, rfl⟩
  case gapEnd => exact same (exec_gapEnd hs) ⟨⟨rfl, rfl, rfl⟩, rfl⟩
  case bulbCheckEnd => exact same (exec_bulbCheckEnd hs) (by simp)
  case flashHalfChange => exact same (exec_flashHalfChange hs) (by simp)
  case dutySetting => exact same (exec_dutySetting hs) (by simp)
  case drumStep => exact of (exec_drumStep hs) ▸ s.stepDrum_meters
  case drumIndexMiss => exact kept (exec_drumIndexMiss hs) (.of_drum (by simp) s.missIndex_kept)
  case drumCoilOff => exact kept (exec_drumCoilOff hs) (.of_drum (by simp) s.releaseCoils_kept)
  case eepromWriteBegin => exact same (exec_eepromWriteBegin hs) (by simp)
  case eepromWordComplete => exact kept (exec_eepromWordComplete hs) s.completeWord_meters
  case eepromWordFail => exact same (exec_eepromWordFail hs) (by simp)
  case characterReceived b stop m =>
    exact .link fun P h hP => of (exec_characterReceived hs b stop m) ▸ h.receive hP b stop m
  case characterGapTimeout => exact .link fun P h hP => of (exec_characterGapTimeout hs) ▸ h.gapTimeout hP
  case replyEnd m => exact .link fun P h hP => of (exec_replyEnd hs m) ▸ h.replyEnd hP m

end Sys2Proof.Machine
end

section
/-!
SUPPORT and proof: every step keeps each residue below its modulus (R40 to R42, R45, R46).
-/
namespace Sys2Proof.Machine

/-! ## The residues -/

theorem MetersKept.residuesSound {s t : State} (h : MetersKept s t) (hs : s.residuesSound) : t.residuesSound := by
  obtain ⟨rd, rf, rr, -⟩ := Accumulators.counts_inj.mp h.counts
  unfold State.residuesSound State.constantsSound at *
  rw [h.consts, rd, rf, rr]
  obtain ⟨consts, below, below', below'', held⟩ := hs
  exact ⟨consts, below, below', below'', held ∘ h.held⟩

/-- Sound constants are positive, and a DU takes more than one edge of the distance residue. -/
theorem State.constantsSound_bounds {s : State} (h : s.constantsSound) :
    500 ≤ s.consts.kvss ∧ 256 ≤ s.consts.cinj ∧ 1 ≤ s.consts.ppr := by
  simp only [State.constantsSound, constantsInRange, Bool.and_eq_true, decide_eq_true_eq] at h
  omega

/-- New constants in force rescale each residue below its new modulus (R45). -/
theorem State.putConstants_residuesSound {s : State} (hs : s.residuesSound) {c : Constants}
    (hc : constantsInRange c.kvss c.cinj c.ppr c.consumption c.reserve = true) :
    (s.putConstants c).residuesSound := by
  obtain ⟨-, rd, rf, rr, held⟩ := hs
  obtain ⟨kvss, cinj, ppr⟩ := State.constantsSound_bounds (s := s.putConstants c) hc
  have below {r old new : Nat} (h : r < old) (hn : 0 < new) : rescale r old new < new := by
    simpa using rescale_lt (k := 1) (by simpa using h) hn
  refine ⟨hc, below rd (Nat.zero_lt_of_lt kvss), below rf (Nat.zero_lt_of_lt cinj), rescale_lt rr ppr, fun h => ?_⟩
  obtain ⟨rd, rf, rr⟩ := held h
  simp [State.putConstants, rd, rf, rr]

theorem serveVehicleConstantsWrite_residuesSound (kvss cinj : Word) (ppr : Byte) (consumption : Word) (reserve : Byte)
    {s : State} (hs : s.residuesSound) :
    (serveVehicleConstantsWrite kvss cinj ppr consumption reserve s).state.residuesSound := by
  unfold serveVehicleConstantsWrite
  split
  · exact hs
  · next h =>
    rw [Bool.not_eq_false] at h
    split
    · exact hs
    · exact State.putConstants_residuesSound hs h

/-- A close leaves in the fuel residue what is left of the on-time modulo C_inj (R41). -/
theorem State.closeWindow_accum (s : State) (b : Bool) :
    (s.closeWindow b).accum = { s.accum with rf := (s.accum.rf + s.pulse.onTimeAt s.now) % s.consts.cinj } := by
  cases b <;> simp [State.closeWindow, State.addOnTime]

/-- A residue is kept by what leaves the constants, the residues and Power Control. -/
theorem State.residuesSound_of_eq {s t : State} (hs : s.residuesSound) (hconsts : t.consts = s.consts)
    (hpower : t.power = s.power)
    (hres : t.accum.rd = s.accum.rd ∧ t.accum.rf = s.accum.rf ∧ t.accum.rr = s.accum.rr) : t.residuesSound := by
  obtain ⟨hrd, hrf, hrr⟩ := hres
  unfold State.residuesSound State.constantsSound at *
  rw [hconsts, hpower, hrd, hrf, hrr]
  exact hs

/-- An SPD edge in a part not held in reset: the residue stays below K_vss, a DU taking its K_vss from it (R40). -/
theorem State.addDistance_residuesSound {s : State} (hs : s.residuesSound) (hh : s.power.state ≠ .held) :
    s.addDistance.residuesSound := by
  obtain ⟨consts, rd, rf, rr, -⟩ := hs
  obtain ⟨kvss, -, -⟩ := State.constantsSound_bounds consts
  have edge (n : Nat) (h : n < s.consts.kvss) :
      ({ s with accum := { s.accum with rd := n } } : State).residuesSound :=
    ⟨consts, h, rf, rr, fun h => absurd h hh⟩
  unfold State.addDistance
  split
  · exact State.residuesSound_of_eq (edge (s.accum.rd + 100 - s.consts.kvss) (by omega)) (by simp) (by simp) (by simp)
  · exact edge _ (by omega)

/-- A TAC edge in a part not held in reset: the residue stays below ppr × 1000 (R42). -/
theorem State.addRevolution_residuesSound {s : State} (hs : s.residuesSound) (hh : s.power.state ≠ .held) :
    s.addRevolution.residuesSound := by
  obtain ⟨consts, rd, rf, rr, -⟩ := hs
  have edge (n : Nat) (h : n < s.consts.ppr * 1000) :
      ({ s with accum := { s.accum with rr := n } } : State).residuesSound :=
    ⟨consts, rd, rf, h, fun h => absurd h hh⟩
  unfold State.addRevolution
  split
  · exact State.residuesSound_of_eq (edge 0 (Nat.zero_lt_of_lt rr)) (by simp) (by simp) (by simp)
  · exact edge _ (by omega)

/-- A window close in a part not held in reset: the residue is what is left of the on-time modulo C_inj (R41). -/
theorem State.closeWindow_residuesSound {s : State} (hs : s.residuesSound) (hh : s.power.state ≠ .held) (b : Bool) :
    (s.closeWindow b).residuesSound := by
  obtain ⟨consts, rd, rf, rr, -⟩ := hs
  have close : ({ s with accum := (s.closeWindow b).accum } : State).residuesSound := by
    rw [State.closeWindow_accum]
    exact ⟨consts, rd, Nat.mod_lt _ (Nat.zero_lt_of_lt rf), rr, fun h => absurd h hh⟩
  exact State.residuesSound_of_eq close (by simp) (by simp) ⟨rfl, rfl, rfl⟩

/-- A power-on reset leaves the default constants and no residue (R46). -/
theorem State.powerOnReset_residuesSound (s : State) (di : BitVec 12) (ign : Bool) (pulse : BitVec 5)
    (lrate drumfit : Bool) : (s.powerOnReset di ign pulse lrate drumfit).residuesSound :=
  ⟨(by decide : constantsInRange 5000 9000 6 150 60 = true), (by decide : 0 < 5000), (by decide : 0 < 9000),
    (by decide : 0 < 6 * 1000), fun _ => ⟨rfl, rfl, rfl⟩⟩

/-- The release of RESETN puts the header's constants in force over residues of 0 (R46, R157). -/
theorem State.release_residuesSound {s : State} (hs : s.residuesSound) : s.release.residuesSound := by
  unfold State.release
  split
  · next h =>
    obtain ⟨-, -, -, -, held⟩ := hs
    obtain ⟨rd, rf, rr⟩ := held h
    have loaded : (s.loadHeader.loadRing.loadService).constantsSound := loaded_inRange s.eeprom.memory
    obtain ⟨kvss, cinj, ppr⟩ := State.constantsSound_bounds loaded
    refine ⟨loaded, ?_, ?_, ?_, fun h => nomatch h⟩
    · exact rd ▸ Nat.zero_lt_of_lt kvss
    · exact rf ▸ Nat.zero_lt_of_lt cinj
    · exact rr ▸ Nat.mul_pos ppr (by decide)
  · exact hs

theorem residuesSound_link : LinkKeeps State.residuesSound :=
  .of_meters (fun _ _ h => h.residuesSound) fun kvss cinj ppr consumption reserve _ =>
    serveVehicleConstantsWrite_residuesSound kvss cinj ppr consumption reserve

/-- Every command keeps the first law of the accumulators. -/
theorem exec_residuesSound {c : Instr} {s t : State} (hs : s.residuesSound) (he : exec c s = .next t) :
    t.residuesSound := by
  have awake {u : State} (h : u.power.state = .run) : u.power.state ≠ .held := by simp [h]
  cases exec_meterStep he with
  | kept h => exact h.residuesSound hs
  | link h => exact h _ residuesSound_link hs
  | reset di ign pulse lrate drumfit hc h => exact h ▸ s.powerOnReset_residuesSound di ign pulse lrate drumfit
  | release hc h => exact h ▸ State.release_residuesSound hs
  | distance sub hc u hu hrun h => exact h ▸ State.addDistance_residuesSound (hu.residuesSound hs) (awake hrun)
  | revolution u hu hrun h => exact h ▸ State.addRevolution_residuesSound (hu.residuesSound hs) (awake hrun)
  | window tripFirst hrun h => exact h ▸ State.closeWindow_residuesSound hs (awake hrun) tripFirst
  | drumStep hd h => exact h ▸ hs

/-- A step takes no command, or the one at the front with the queue's rest. -/
theorem step_cases {s t : State} (he : step s = .next t) :
    (s.pending = [] ∧ t = s) ∨ ∃ c rest, s.pending = c :: rest ∧ exec c (s.setPending rest) = .next t := by
  unfold step at he
  split at he
  · next h => exact .inl ⟨h, (Host.Outcome.next.inj he).symm⟩
  · next c rest h => exact .inr ⟨c, rest, h, he⟩

/-- Settles O5: what each command can do to the meters keeps each residue below its modulus. -/
theorem residueLaw : Obligations.ResidueLaw := by
  intro s t hs he
  obtain ⟨-, rfl⟩ | ⟨c, rest, -, he⟩ := step_cases he
  · exact hs
  · exact exec_residuesSound (s := s.setPending rest) hs he

end Sys2Proof.Machine
end

section
/-!
SUPPORT and proof: every step keeps the laws of the odometer total and of the drum debt (R43, R47, R50, R55 to R59).
-/
namespace Sys2Proof.Machine

/-! ## The total and the drum -/

/-- What a command leaves that brings no DU and no step of the drum: the total, the drum step residue, a kept drum. -/
structure DrumStands (s t : State) : Prop where
  total : t.accum.total = s.accum.total
  rs : t.accum.rs = s.accum.rs
  drum : DrumKept s.drum t.drum

theorem MetersKept.drumStands {s t : State} (h : MetersKept s t) : DrumStands s t := by
  obtain ⟨-, -, -, total, rs⟩ := Accumulators.counts_inj.mp h.counts
  exact ⟨total, rs, h.drum⟩

theorem DrumStands.trans {s t u : State} (h : DrumStands s t) (g : DrumStands t u) : DrumStands s u :=
  ⟨g.total.trans h.total, g.rs.trans h.rs, h.drum.trans g.drum⟩

theorem serveVehicleConstantsWrite_drumStands (kvss cinj : Word) (ppr : Byte) (consumption : Word) (reserve : Byte)
    (s : State) : DrumStands s (serveVehicleConstantsWrite kvss cinj ppr consumption reserve s).state := by
  unfold serveVehicleConstantsWrite
  repeat' split
  all_goals exact ⟨rfl, rfl, .refl _⟩

theorem drumStands_link (s : State) : LinkKeeps (DrumStands s) :=
  .of_meters (fun _ _ h g => g.trans h.drumStands) fun kvss cinj ppr consumption reserve u g =>
    g.trans (serveVehicleConstantsWrite_drumStands kvss cinj ppr consumption reserve u)

/-- A DU reaches the total and, at a fitted drum, the drum step residue and with the fifth the debt (R43, R47, R56). -/
structure DuTaken (s t : State) : Prop where
  total : t.accum.total = totalAfter s.accum.total
  absent : s.drum.state = .absent → t.accum.rs = s.accum.rs ∧ DrumKept s.drum t.drum
  counted : s.drum.state ≠ .absent → s.accum.rs + 1 < 5 → t.accum.rs = s.accum.rs + 1 ∧ DrumKept s.drum t.drum
  owed : s.drum.state ≠ .absent → 5 ≤ s.accum.rs + 1 →
    t.accum.rs = 0 ∧ ∃ d, DrumKept s.drum d ∧ t.drum = d.owe

theorem State.emitDu_taken (s : State) : DuTaken s s.emitDu where
  total := s.emitDu_accum.2.2.2.1
  absent h := by simp [State.emitDu_eq, State.fifthDu, h, DrumKept.refl]
  counted h lt := by simp [State.emitDu_eq, State.fifthDu, h, Nat.not_le.mpr lt, DrumKept.refl]
  owed h le := by
    have fifth : s.fifthDu := ⟨h, le⟩
    rw [State.emitDu_eq]
    exact ⟨by simp [h, le], s.drum, .refl _, if_pos fifth⟩

theorem DrumStands.du {s u t : State} (h : DrumStands s u) (g : DuTaken u t) : DuTaken s t where
  total := h.total ▸ g.total
  absent e := by
    obtain ⟨rs, drum⟩ := g.absent (h.drum.fitted.mpr e)
    exact ⟨rs.trans h.rs, h.drum.trans drum⟩
  counted e lt := by
    obtain ⟨rs, drum⟩ := g.counted (h.drum.fitted.not.mpr e) (h.rs ▸ lt)
    exact ⟨h.rs ▸ rs, h.drum.trans drum⟩
  owed e le := by
    obtain ⟨rs, d, drum, owe⟩ := g.owed (h.drum.fitted.not.mpr e) (h.rs ▸ le)
    exact ⟨rs, d, h.drum.trans drum, owe⟩

/-- What a command can do to the total, the drum step residue and the drum: nothing, a DU, a step of the drum, a reset
or the reading of the ring. -/
inductive DrumChange (c : Instr) (s t : State) : Prop
  | stands (h : DrumStands s t)
  | du (sub : BitVec 8) (hc : c = .spdEdge sub) (h : DuTaken s t)
  | step (hd : s.drum.state = .stepping) (h : t = { s with drum := s.drum.step })
  | reset (di : BitVec 12) (ign : Bool) (pulse : BitVec 5) (lrate drumfit : Bool)
      (hc : c = .powerOnReset di ign pulse lrate drumfit) (h : t = s.powerOnReset di ign pulse lrate drumfit)
  | release (hc : c = .resetnRelease) (h : t = s.release)

theorem State.addDistance_change {s u : State} (hu : MetersKept s u) {c : Instr} {sub : BitVec 8}
    (hc : c = .spdEdge sub) : DrumChange c s u.addDistance := by
  have h := hu.drumStands
  unfold State.addDistance
  split
  · have edge : DrumStands s { u with accum := { u.accum with rd := u.accum.rd + 100 - u.consts.kvss } } :=
      ⟨h.total, h.rs, h.drum⟩
    exact .du sub hc (edge.du (State.emitDu_taken _))
  · exact .stands ⟨h.total, h.rs, h.drum⟩

theorem State.addRevolution_stands (s : State) : DrumStands s s.addRevolution := by
  refine ⟨?_, ?_, .of_eq (by simp)⟩ <;> (unfold State.addRevolution; split <;> simp)

theorem State.closeWindow_stands (s : State) (b : Bool) : DrumStands s (s.closeWindow b) := by
  refine ⟨?_, ?_, .of_eq (by simp)⟩ <;> rw [State.closeWindow_accum]

theorem exec_drumChange {c : Instr} {s t : State} (he : exec c s = .next t) : DrumChange c s t := by
  cases exec_meterStep he with
  | kept h => exact .stands h.drumStands
  | link h => exact .stands (h _ (drumStands_link s) ⟨rfl, rfl, .refl _⟩)
  | reset di ign pulse lrate drumfit hc h => exact .reset di ign pulse lrate drumfit hc h
  | release hc h => exact .release hc h
  | distance sub hc u hu hrun h => exact h ▸ State.addDistance_change hu hc
  | revolution u hu hrun h => exact h ▸ .stands (hu.drumStands.trans u.addRevolution_stands)
  | window tripFirst hrun h => exact h ▸ .stands (s.closeWindow_stands tripFirst)
  | drumStep hd h => exact .step hd h

theorem totalAfter_eq (total : Nat) : totalAfter total = if total = 99999999 then 0 else total + 1 := rfl

theorem totalAfter_ne (total : Nat) : totalAfter total ≠ total := by
  rw [totalAfter_eq]
  split <;> omega

theorem totalAfter_le {total : Nat} (h : total ≤ 99999999) : totalAfter total ≤ 99999999 := by
  rw [totalAfter_eq]
  split <;> omega

/-- The total that the release of RESETN reads is the newest record's, or 0 (R50). -/
theorem State.release_total_le {s : State} (h : s.accum.total ≤ 99999999) : s.release.accum.total ≤ 99999999 := by
  unfold State.release
  split
  · show ((newestRecord s.eeprom.memory).map Prod.snd).getD 0 ≤ 99999999
    rcases hr : newestRecord s.eeprom.memory with _ | r
    · exact Nat.zero_le _
    · exact ringRecord_le (ringRecord_of_newestRecord hr)
  · exact h

/-- Settles O6: of what a command can do to the total only a DU, a reset and the reading of the ring change it. -/
theorem odometerLaw : Obligations.OdometerLaw := by
  intro s t hs he
  obtain ⟨-, rfl⟩ | ⟨c, rest, pending, he⟩ := step_cases he
  · exact ⟨hs, fun _ _ => .inl rfl⟩
  rw [pending]
  cases exec_drumChange he with
  | stands h => exact ⟨h.total ▸ hs, fun _ _ => .inl h.total⟩
  | du sub hc h => exact ⟨h.total ▸ totalAfter_le hs, fun _ _ => .inr h.total⟩
  | step hd h => exact ⟨h ▸ hs, fun _ _ => .inl (h ▸ rfl)⟩
  | reset di ign pulse lrate drumfit hc h =>
    exact ⟨h ▸ Nat.zero_le _, fun noReset _ => absurd (congrArg some hc) (noReset di ign pulse lrate drumfit)⟩
  | release hc h => exact ⟨h ▸ State.release_total_le hs, fun _ noRelease => absurd (congrArg some hc) noRelease⟩

/-! ## The law of the drum -/

theorem DuTaken.fitted {s t : State} (h : DuTaken s t) : t.drum.state = .absent ↔ s.drum.state = .absent := by
  by_cases absent : s.drum.state = .absent
  · exact (h.absent absent).2.fitted
  by_cases lt : s.accum.rs + 1 < 5
  · exact (h.counted absent lt).2.fitted
  · obtain ⟨-, d, kept, owe⟩ := h.owed absent (Nat.le_of_not_lt lt)
    exact iff_of_false (owe ▸ d.owe_keeps.2.1 (kept.fitted.not.mpr absent)) absent

theorem DuTaken.drumSound {s t : State} (h : DuTaken s t) (hs : s.drumSound) : t.drumSound := by
  obtain ⟨sound, rs, unfitted⟩ := s.drumSound_iff.mp hs
  rw [State.drumSound_iff, h.fitted]
  by_cases absent : s.drum.state = .absent
  · obtain ⟨same, kept⟩ := h.absent absent
    exact ⟨kept.sound sound, same ▸ rs, fun e => same.trans (unfitted e)⟩
  by_cases lt : s.accum.rs + 1 < 5
  · obtain ⟨count, kept⟩ := h.counted absent lt
    exact ⟨kept.sound sound, count ▸ lt, fun e => absurd e absent⟩
  · obtain ⟨zero, d, kept, owe⟩ := h.owed absent (Nat.le_of_not_lt lt)
    have sound := Drum.owe_sound (kept.sound sound) (kept.fitted.not.mpr absent)
    exact ⟨owe ▸ sound, zero ▸ by decide, fun _ => zero⟩

/-- Debt and steps keep pace with `du` DU from `s` to `t`, but for a step lost with the debt and r_s full (R43, R55 to
R57). -/
def drumPace (s t : State) (du : Nat) : Prop :=
  let taken := if t.drum.phase = s.drum.phase then 0 else 1
  let full := du = 1 ∧ s.accum.rs = 4 ∧ s.drum.debt = 65535
  (¬ full → t.accum.rs + 5 * (t.drum.debt + taken) = s.accum.rs + 5 * s.drum.debt + du ∧
    t.drum.lost = s.drum.lost) ∧
  (full → t.accum.rs = 0 ∧ t.drum.debt = 65535 ∧ taken = 0 ∧ t.drum.lost = true)

/-- A kept drum keeps pace with the DU that its residue counts. -/
theorem DrumKept.pace {s t : State} (h : DrumKept s.drum t.drum) {du : Nat} (rs : t.accum.rs = s.accum.rs + du)
    (room : du = 0 ∨ t.accum.rs < 5) : drumPace s t du := by
  unfold drumPace
  rw [if_pos h.phase, h.debt, h.lost]
  refine ⟨fun _ => ⟨by omega, rfl⟩, fun full => ?_⟩
  omega

theorem DuTaken.pace {s t : State} (h : DuTaken s t) (hs : s.drumSound) (fitted : s.drum.state ≠ .absent) :
    drumPace s t 1 := by
  obtain ⟨-, rs, -⟩ := s.drumSound_iff.mp hs
  by_cases lt : s.accum.rs + 1 < 5
  · obtain ⟨count, kept⟩ := h.counted fitted lt
    exact kept.pace count (.inr (count ▸ lt))
  · obtain ⟨zero, d, kept, owe⟩ := h.owed fitted (Nat.le_of_not_lt lt)
    obtain ⟨phase, -, cap, below⟩ := d.owe_keeps
    unfold drumPace
    rw [owe, zero, if_pos (phase.trans kept.phase)]
    rw [kept.debt] at cap below
    by_cases full : s.drum.debt = 65535
    · obtain ⟨debt, lost⟩ := cap full
      exact ⟨fun h => absurd ⟨rfl, by omega, full⟩ h, fun _ => ⟨rfl, debt, rfl, lost⟩⟩
    · obtain ⟨debt, lost⟩ := below full
      exact ⟨fun _ => ⟨by omega, lost.trans kept.lost⟩, fun h => absurd h.2.2 full⟩

/-- A step taken: one debt less and the phase turned (R57). -/
theorem Drum.step_pace {s : State} (hs : s.drumSound) (hd : s.drum.state = .stepping) :
    drumPace s { s with drum := s.drum.step } 0 := by
  obtain ⟨sound, -, -⟩ := s.drumSound_iff.mp hs
  have owes := (sound.stepping hd).1
  unfold drumPace
  dsimp only
  rw [if_neg s.drum.step_phase_ne, show s.drum.step.debt = s.drum.debt - 1 from rfl]
  exact ⟨fun _ => ⟨by omega, rfl⟩, fun h => absurd h.1 (by decide)⟩

theorem Drum.step_drumSound {s : State} (hs : s.drumSound) (hd : s.drum.state = .stepping) :
    ({ s with drum := s.drum.step } : State).drumSound := by
  obtain ⟨sound, rs, -⟩ := s.drumSound_iff.mp hs
  exact (State.drumSound_iff _).mpr ⟨Drum.step_sound sound hd, rs, fun e => absurd e (Drum.step_fitted hd)⟩

/-- The release of RESETN leaves the drum and its residue (R155). -/
theorem State.release_drum (s : State) : s.release.drum = s.drum ∧ s.release.accum.rs = s.accum.rs := by
  unfold State.release
  split <;> exact ⟨rfl, rfl⟩

/-- A power-on reset leaves a sound drum (R55). -/
theorem State.powerOnReset_drumSound (s : State) (di : BitVec 12) (ign : Bool) (pulse : BitVec 5)
    (lrate drumfit : Bool) : (s.powerOnReset di ign pulse lrate drumfit).drumSound := by
  have initial : (Drum.initial drumfit).Sound := by
    cases drumfit <;> constructor <;> simp [Drum.initial]
  exact (State.drumSound_iff _).mpr ⟨initial, Nat.zero_lt_succ _, fun _ => rfl⟩

/-- What leaves the drum kept and its residue as it was keeps the law of the drum, without a DU. -/
theorem DrumKept.law {s t : State} (h : DrumKept s.drum t.drum) (rs : t.accum.rs = s.accum.rs) (hs : s.drumSound) :
    t.drumSound ∧ (t.drum.state = .absent ↔ s.drum.state = .absent) ∧ drumPace s t 0 := by
  obtain ⟨sound, below, absent⟩ := s.drumSound_iff.mp hs
  exact ⟨t.drumSound_iff.mpr ⟨h.sound sound, rs ▸ below, fun e => rs.trans (absent (h.fitted.mp e))⟩, h.fitted,
    h.pace rs (.inl rfl)⟩

/-- Settles O12: of what a command can do to the drum, a DU and a step keep pace with each other, and the rest changes
neither debt, residue nor phase. -/
theorem drumLaw : Obligations.DrumLaw := by
  intro s t hs he
  obtain ⟨-, rfl⟩ | ⟨c, rest, pending, he⟩ := step_cases he
  · obtain ⟨sound, fitted, pace⟩ := (DrumKept.refl t.drum).law rfl hs
    refine ⟨sound, fun _ => ⟨fitted, fun _ => ?_⟩⟩
    rw [if_pos (.inr rfl)]
    exact pace
  rw [pending]
  cases exec_drumChange he with
  | stands h =>
    obtain ⟨sound, fitted, pace⟩ := h.drum.law h.rs hs
    refine ⟨sound, fun _ => ⟨fitted, fun _ => ?_⟩⟩
    rw [if_pos (.inr h.total)]
    exact pace
  | du sub hc h =>
    refine ⟨h.drumSound hs, fun _ => ⟨h.fitted, fun fitted => ?_⟩⟩
    have emitted : ¬ ((c :: rest).head? = some .resetnRelease ∨ t.accum.total = s.accum.total) := by
      rw [hc]
      rintro (e | e)
      · cases e
      · exact totalAfter_ne _ (h.total.symm.trans e)
    rw [if_neg emitted]
    exact h.pace hs fitted
  | step hd h =>
    subst h
    refine ⟨Drum.step_drumSound hs hd, fun _ => ⟨?_, fun _ => ?_⟩⟩
    · exact iff_of_false (Drum.step_fitted hd) (by simp [show s.drum.state = .stepping from hd])
    · rw [if_pos (.inr rfl)]
      exact Drum.step_pace hs hd
  | reset di ign pulse lrate drumfit hc h =>
    exact ⟨h ▸ State.powerOnReset_drumSound _ di ign pulse lrate drumfit,
      fun noReset => absurd (congrArg some hc) (noReset di ign pulse lrate drumfit)⟩
  | release hc h =>
    subst h
    obtain ⟨drum, rs⟩ := (s.setPending rest).release_drum
    obtain ⟨sound, fitted, pace⟩ := (DrumKept.of_eq drum).law rs hs
    refine ⟨sound, fun _ => ⟨fitted, fun _ => ?_⟩⟩
    rw [if_pos (.inl (congrArg some hc))]
    exact pace

end Sys2Proof.Machine
end

section
/-!
SUPPORT and proof: what a window close hands on of the on-time (R41, R44, R64, R71 to R74).
-/
namespace Sys2Proof.Machine

/-! ## Channel writes one after another -/

/-- What writes of channels leave: the holds, the freshness timers, and every notice but the CHANNEL notices of the
channels whose validity they change (R24, R25). -/
structure ChannelsWritten (s t : State) : Prop where
  hold : ∀ c : Fin 16, t.channels.records[c].hold = s.channels.records[c].hold
  freshness : t.channels.freshness = s.channels.freshness
  notices : ∀ p : Notice → Bool,
    (∀ c : Fin 16, validityChanged s t c → ∀ n : Notice, n.key = .channel c → p n = false) →
    t.notices.filter p = s.notices.filter p

theorem ChannelsWritten.refl (s : State) : ChannelsWritten s s := ⟨fun _ => rfl, rfl, fun _ _ => rfl⟩

/-- A change of other blocks comes between two writes. -/
theorem ChannelsWritten.of_eq {s t u : State} (h : ChannelsWritten s t) (hc : u.channels = t.channels)
    (hn : u.notices = t.notices) : ChannelsWritten s u := by
  obtain ⟨hold, freshness, notices⟩ := h
  constructor <;> simp only [validityChanged, hc, hn]
  · exact hold
  · exact freshness
  · exact notices

/-- One more write, of a channel whose validity stands as at first. -/
theorem ChannelsWritten.writeChannel {s t : State} (h : ChannelsWritten s t) {c : Fin 16}
    (hc : t.channels.records[c].validity = s.channels.records[c].validity) (v : Option Nat) (w : Option Validity) :
    ChannelsWritten s (t.writeChannel c v w) := by
  have record := t.writeChannel_record c v w
  refine ⟨fun k => ?_, ?_, fun p hp => ?_⟩
  · rw [record, ← h.hold k]
    split
    · next e => rw [e]; rfl
    · rfl
  · rw [State.writeChannel_channels, ← h.freshness]
  · have before : t.notices.filter p = s.notices.filter p := by
      refine h.notices p fun k hk => hp k ?_
      rw [validityChanged, record]
      split
      · next e => exact absurd (e ▸ hc) hk
      · exact hk
    rw [← before, State.writeChannel_eq]
    split
    · rfl
    · next changed =>
      refine filter_postNotice (hp c ?_) _ _
      rw [validityChanged, record, if_pos rfl, ← hc]
      exact changed

/-- SPEED and ENGINE, not written before. -/
theorem ChannelsWritten.closeWindows {s t : State} (h : ChannelsWritten s t)
    (h0 : t.channels.records[(0 : Fin 16)] = s.channels.records[(0 : Fin 16)])
    (h1 : t.channels.records[(1 : Fin 16)] = s.channels.records[(1 : Fin 16)]) : ChannelsWritten s t.closeWindows := by
  have speed : ChannelsWritten s (t.writeSpeed t.now) := h.writeChannel (congrArg Channel.validity h0) _ _
  have engine : ChannelsWritten s ((t.writeSpeed t.now).writeEngine t.now) := by
    refine speed.writeChannel ?_ _ _
    rw [State.writeSpeed, State.writeChannel_record_of_ne _ (by decide), h1]
  exact engine.of_eq rfl rfl

/-- FUEL_FLOW and INST_CONSUMPTION, not written before. -/
theorem ChannelsWritten.tripWindow {s t : State} (h : ChannelsWritten s t) (c : Nat)
    (h8 : t.channels.records[(8 : Fin 16)] = s.channels.records[(8 : Fin 16)])
    (h9 : t.channels.records[(9 : Fin 16)] = s.channels.records[(9 : Fin 16)]) :
    ChannelsWritten s (t.tripWindow c) := by
  obtain ⟨v, w, v', w', e⟩ := t.tripWindow_eq c
  have pushed : ChannelsWritten s { t with trip := { t.trip with history := pushFlow t.trip.history c } } :=
    h.of_eq rfl rfl
  rw [e]
  refine (pushed.writeChannel (congrArg Channel.validity h8) v w).writeChannel ?_ v' w'
  rw [State.writeChannel_record_of_ne _ (by decide), h9]

/-- The window's on-time is handed on, with the Trip Computer's handling after the PIU's writes or before them (R73). -/
theorem State.closeWindow_piuFirst (s : State) :
    s.closeWindow false =
      (let c := s.pulse.onTimeAt s.now
       (((s.addOnTime c).closeWindows).tripWindow c).openWindow) := rfl

theorem State.closeWindow_tripFirst (s : State) :
    s.closeWindow true =
      (let c := s.pulse.onTimeAt s.now
       (((s.addOnTime c).tripWindow c).closeWindows).openWindow) := rfl

/-- The hand-on of the on-time writes no channel (R41, R44). -/
theorem State.addOnTime_written (s : State) (c : Nat) : ChannelsWritten s (s.addOnTime c) :=
  (ChannelsWritten.refl s).of_eq rfl rfl

theorem ChannelsWritten.openWindow {s t : State} (h : ChannelsWritten s t) : ChannelsWritten s t.openWindow :=
  h.of_eq rfl rfl

theorem State.closeWindow_written (s : State) (b : Bool) : ChannelsWritten s (s.closeWindow b) := by
  have start := s.addOnTime_written (s.pulse.onTimeAt s.now)
  cases b
  · rw [State.closeWindow_piuFirst]
    have piu := (s.addOnTime (s.pulse.onTimeAt s.now)).closeWindows_record_of_ne
    exact ((start.closeWindows rfl rfl).tripWindow _ (piu (by decide) (by decide))
      (piu (by decide) (by decide))).openWindow
  · rw [State.closeWindow_tripFirst]
    have trip := (s.addOnTime (s.pulse.onTimeAt s.now)).tripWindow_record_of_ne (s.pulse.onTimeAt s.now)
    exact ((start.tripWindow _ rfl rfl).closeWindows (trip (by decide) (by decide))
      (trip (by decide) (by decide))).openWindow

/-! ## What the Trip Computer writes -/

/-- A written value that its channel's range holds (R24). -/
theorem Channel.written_le (r : Channel) {c : Fin 16} {x : Nat} (h : x ≤ channelTop c) (w : Validity) :
    r.written c (some x) (some w) = { r with value := x, validity := w } := by
  simp [Channel.written, h]

/-- INST_CONSUMPTION at a VALID FUEL_FLOW (R73). -/
theorem State.writeConsumption_record {s : State} (h : s.channels.records[(8 : Fin 16)].validity = .valid) :
    s.writeConsumption.channels.records[(9 : Fin 16)] =
      (let speed := s.measured 0
       let r := s.channels.records[(9 : Fin 16)]
       if speed.1 < 100 ∨ speed.2 ≠ .valid then { r with validity := .absent }
       else { r with value := min (roundDiv (s.channels.records[(8 : Fin 16)].value * 1000) speed.1) 999,
                     validity := .valid }) := by
  have flow : (s.measured 8).2 = .valid := h
  unfold State.writeConsumption
  simp only [flow, ne_eq, not_true_eq_false, or_false]
  split
  · rw [State.writeChannel_record_same]
    rfl
  · rw [State.writeChannel_record_same]
    exact Channel.written_le _ (c := 9) (Nat.min_le_right _ _) _

/-- FUEL_FLOW written at `flow`, and then INST_CONSUMPTION by it and a measured SPEED (R72, R73). -/
def flowWritten (s t : State) (flow : Nat) (speed : Nat × Validity) : Prop :=
  t.channels.records[(8 : Fin 16)] = { s.channels.records[(8 : Fin 16)] with value := flow, validity := .valid } ∧
  t.channels.records[(9 : Fin 16)] =
    (let r := s.channels.records[(9 : Fin 16)]
     if speed.1 < 100 ∨ speed.2 ≠ .valid then { r with validity := .absent }
     else { r with value := min (roundDiv (flow * 1000) speed.1) 999, validity := .valid })

/-- What is written is read from the two channels' records alone. -/
theorem flowWritten_congr {s t s' t' : State} {flow : Nat} {speed : Nat × Validity} (h : flowWritten s t flow speed)
    (before : ∀ c : Fin 16, c = 8 ∨ c = 9 → s'.channels.records[c] = s.channels.records[c])
    (after : ∀ c : Fin 16, c = 8 ∨ c = 9 → t'.channels.records[c] = t.channels.records[c]) :
    flowWritten s' t' flow speed := by
  unfold flowWritten at *
  rw [before 8 (.inl rfl), before 9 (.inr rfl), after 8 (.inl rfl), after 9 (.inr rfl)]
  exact h

/-- FUEL_FLOW is written from the history with the window's on-time at its newest end (R71 to R73). -/
theorem State.tripWindow_written (s : State) (c : Nat) :
    flowWritten s (s.tripWindow c) (fuelFlow (pushFlow s.trip.history c) s.consts.cinj) (s.measured 0) := by
  let flow := fuelFlow (pushFlow s.trip.history c) s.consts.cinj
  have top : flow ≤ 9999 := Nat.min_le_right _ _
  let v := State.writeChannel { s with trip := { s.trip with history := pushFlow s.trip.history c } } 8 (some flow)
    (some .valid)
  have record : v.channels.records[(8 : Fin 16)] =
      { s.channels.records[(8 : Fin 16)] with value := flow, validity := .valid } :=
    (State.writeChannel_record_same _ 8 _ _).trans (Channel.written_le _ (c := 8) top _)
  have other {k : Fin 16} (h : k ≠ 8) : v.channels.records[k] = s.channels.records[k] :=
    State.writeChannel_record_of_ne _ h _ _
  have written : s.tripWindow c = v.writeConsumption := rfl
  have speed : v.measured 0 = s.measured 0 := by rw [State.measured, other (by decide)]; rfl
  rw [written]
  constructor
  · obtain ⟨x, w, e⟩ := v.writeConsumption_eq
    rw [e, State.writeChannel_record_of_ne _ (by decide), record]
  · rw [State.writeConsumption_record (by rw [record]), record, other (by decide), speed]

theorem State.openWindow_trip (s : State) : s.openWindow.trip = s.trip := rfl

theorem State.closeWindows_trip (s : State) : s.closeWindows.trip = s.trip := by simp

theorem State.tripWindow_trip (s : State) (c : Nat) :
    (s.tripWindow c).trip = { s.trip with history := pushFlow s.trip.history c } := by
  simp [State.tripWindow]

/-- A batch of fuel reaches a trip that counts, in RUN, up to its ceiling (R63, R64). -/
theorem Trip.addFuel_run (t : Trip) (k : Nat) :
    t.addFuel true k =
      if t.paused = true ∨ t.saturated = true then t
      else if 16777215 < t.fuel + k then { t with fuel := 16777215, saturated := true }
      else { t with fuel := t.fuel + k } := by
  have counting : t.counting true = true ↔ ¬ (t.paused = true ∨ t.saturated = true) := by simp [Trip.counting]
  unfold Trip.addFuel
  simp only [counting, ite_not]
  rfl

/-- The flow history keeps its newest nine and takes one more (R71). -/
theorem pushFlow_eq (history : List Nat) (c : Nat) :
    pushFlow history c = (if 10 ≤ history.length then history.drop (history.length - 9) else history) ++ [c] := by
  unfold pushFlow
  rw [← ite_not]
  simp only [Nat.not_lt]

/-- The on-time of the open window counts on while INJ is open, to a window's length (R9). -/
theorem PulseUnit.onTimeAt_eq (u : PulseUnit) (t : Stamp) :
    u.onTimeAt t =
      min (if u.inj.accepted = u.inj.selection then u.onTime + (t - u.injMark).toNat else u.onTime) 25600 := by
  unfold PulseUnit.onTimeAt PulseUnit.injOpen
  simp only [beq_iff_eq]
  rfl

/-! ## The close -/

/-- The on-time of a window and the whole mL it makes, at the trips, the range basis and the history (R44, R71, R74). -/
theorem State.closeWindow_trip {s : State} {c k : Nat} (hc : s.pulse.onTimeAt s.now = c)
    (hk : (s.accum.rf + c) / s.consts.cinj = k) (b : Bool) :
    (s.closeWindow b).trip = { s.trip with
      a := s.trip.a.addFuel s.inRun k, b := s.trip.b.addFuel s.inRun k, rbFuel := min (s.trip.rbFuel + k) 16777215,
      history := pushFlow s.trip.history c } := by
  subst hk hc
  cases b
  · rw [State.closeWindow_piuFirst, State.openWindow_trip, State.tripWindow_trip, State.closeWindows_trip]
    rfl
  · rw [State.closeWindow_tripFirst, State.openWindow_trip, State.closeWindows_trip, State.tripWindow_trip]
    rfl

theorem State.openWindow_channels (s : State) : s.openWindow.channels = s.channels := rfl

theorem State.closeWindows_pulse (s : State) :
    s.closeWindows.pulse = { s.pulse with
      spdWindow := s.closeWindows.pulse.spdWindow, tacWindow := s.closeWindows.pulse.tacWindow } := by
  simp [State.closeWindows, State.writeSpeed, State.writeEngine]

/-- The boundary of a window, from a state of the same time whose unit differs in the windows alone (R9, R10). -/
theorem State.openWindow_pulse {s t : State} (time : t.time = s.time)
    (pulse : t.pulse = { s.pulse with spdWindow := t.pulse.spdWindow, tacWindow := t.pulse.tacWindow }) :
    t.openWindow.pulse = { s.pulse with
      spdWindow := t.openWindow.pulse.spdWindow, tacWindow := t.openWindow.pulse.tacWindow, onTime := 0,
      injMark := s.now, windowClock := s.pulse.windowClock - 100 } := by
  have now : t.now = s.now := by rw [State.now, time]; rfl
  unfold State.openWindow PulseUnit.restartOnTime
  rw [now, pulse]

theorem State.closeWindow_pulse (s : State) (b : Bool) :
    (s.closeWindow b).pulse = { s.pulse with
      spdWindow := (s.closeWindow b).pulse.spdWindow, tacWindow := (s.closeWindow b).pulse.tacWindow, onTime := 0,
      injMark := s.now, windowClock := s.pulse.windowClock - 100 } := by
  cases b
  · rw [State.closeWindow_piuFirst]
    refine State.openWindow_pulse (by simp) ?_
    simp only [State.tripWindow_frame]
    exact (s.addOnTime _).closeWindows_pulse
  · rw [State.closeWindow_tripFirst]
    refine State.openWindow_pulse (by simp) ?_
    have pulse := ((s.addOnTime (s.pulse.onTimeAt s.now)).tripWindow (s.pulse.onTimeAt s.now)).closeWindows_pulse
    simp only [State.tripWindow_frame] at pulse
    exact pulse

/-- A close of the PIU's windows writes SPEED and ENGINE alone. -/
theorem State.closeWindows_keeps (s : State) : ∀ c : Fin 16, c = 8 ∨ c = 9 →
    s.closeWindows.channels.records[c] = s.channels.records[c] := by
  rintro c (rfl | rfl) <;> exact s.closeWindows_record_of_ne (by decide) (by decide)

/-- FUEL_FLOW and INST_CONSUMPTION at a close, by SPEED as it stands when the Trip Computer has its turn (R73). -/
theorem State.closeWindow_flow (s : State) (b : Bool) :
    flowWritten s (s.closeWindow b) (fuelFlow (pushFlow s.trip.history (s.pulse.onTimeAt s.now)) s.consts.cinj)
      (if b then s.measured 0 else (s.closeWindow b).measured 0) := by
  generalize hc : s.pulse.onTimeAt s.now = c
  have history : (s.addOnTime c).trip.history = s.trip.history := rfl
  cases b
  · have e : s.closeWindow false = ((s.addOnTime c).closeWindows.tripWindow c).openWindow := by
      rw [← hc, State.closeWindow_piuFirst]
    have written := (s.addOnTime c).closeWindows.tripWindow_written c
    have trip := (s.addOnTime c).closeWindows.tripWindow_record_of_ne c
    simp only [State.closeWindows_frame, State.addOnTime_frame, history] at written
    have speed : (s.closeWindow false).measured 0 = (s.addOnTime c).closeWindows.measured 0 := by
      rw [e, State.measured, State.openWindow_channels, trip (by decide) (by decide)]
      rfl
    rw [if_neg (by decide), speed]
    refine flowWritten_congr written (fun k hk => ((s.addOnTime c).closeWindows_keeps k hk).symm) fun k _ => ?_
    rw [e, State.openWindow_channels]
  · have e : s.closeWindow true = ((s.addOnTime c).tripWindow c).closeWindows.openWindow := by
      rw [← hc, State.closeWindow_tripFirst]
    refine flowWritten_congr ((s.addOnTime c).tripWindow_written c) (fun _ _ => rfl) fun k hk => ?_
    rw [e, State.openWindow_channels, State.closeWindows_keeps _ k hk]

/-- A close writes four channels. -/
theorem State.closeWindow_record_of_ne (s : State) (b : Bool) {c : Fin 16} (h0 : c ≠ 0) (h1 : c ≠ 1) (h8 : c ≠ 8)
    (h9 : c ≠ 9) : (s.closeWindow b).channels.records[c] = s.channels.records[c] := by
  cases b
  · rw [State.closeWindow_piuFirst, State.openWindow_channels, State.tripWindow_record_of_ne _ _ h8 h9,
      State.closeWindows_record_of_ne _ h0 h1]
    rfl
  · rw [State.closeWindow_tripFirst, State.openWindow_channels, State.closeWindows_record_of_ne _ h0 h1,
      State.tripWindow_record_of_ne _ _ h8 h9]
    rfl

theorem State.closeWindow_eq (s : State) (b : Bool) :
    s.closeWindow b = { s with
      accum := (s.closeWindow b).accum, trip := (s.closeWindow b).trip, channels := (s.closeWindow b).channels,
      pulse := (s.closeWindow b).pulse, notices := (s.closeWindow b).notices } := by
  apply State.ext_fields <;> simp

theorem State.windowDue_iff (s : State) :
    s.windowDue = true ↔ s.power.state = .run ∧ 100 ≤ s.pulse.windowClock := by
  simp [State.windowDue, State.inRun]

/-- Settles O31: what a close hands on to each block it reaches, and that it reaches no other. -/
theorem windowCloseFuel : Obligations.WindowCloseFuel := by
  intro s tripFirst hs
  rw [exec_windowClose hs]
  refine ⟨fun h => congrArg _ (if_neg fun due => ?_), fun hrun hclock => ?_⟩
  · obtain ⟨run, clock⟩ := s.windowDue_iff.mp due
    exact h.elim (absurd run) (Nat.not_lt.mpr clock)
  refine ⟨s.closeWindow tripFirst, congrArg _ (if_pos (s.windowDue_iff.mpr ⟨hrun, hclock⟩)), ?_⟩
  intro c k fuel history j flow speed r
  have hc : s.pulse.onTimeAt s.now = c := s.pulse.onTimeAt_eq s.now
  have run : s.inRun = true := by simp [State.inRun, hrun]
  obtain ⟨u, closed⟩ := s.closeWindow_closed tripFirst
  obtain ⟨hold, freshness, notices⟩ := s.closeWindow_written tripFirst
  have trip := State.closeWindow_trip hc (k := k) rfl tripFirst
  have accum := s.closeWindow_accum tripFirst
  obtain ⟨flow, consumption⟩ := s.closeWindow_flow tripFirst
  rw [hc, pushFlow_eq] at flow consumption
  rw [run, pushFlow_eq, Trip.addFuel_run, Trip.addFuel_run] at trip
  rw [hc] at accum
  refine ⟨accum, trip, flow, consumption, fun ch h0 h1 h8 h9 => s.closeWindow_record_of_ne tripFirst h0 h1 h8 h9,
    hold, closed.notices, freshness, s.closeWindow_pulse tripFirst, ?_, s.closeWindow_eq tripFirst⟩
  exact notices _ fun ch changed n key => decide_eq_false fun h => h ch changed key

end Sys2Proof.Machine
end

section
/-!
SUPPORT and proof: the drum's events and its phase outputs (R57, R59, R61).
-/
namespace Sys2Proof.Machine

/-- A step is taken 20 ms after the last, in STEPPING in RUN and AWAKE_OFF (R57). -/
theorem State.stepDrum_eq (s : State) :
    s.stepDrum = if s.awake = true ∧ s.drum.state = .stepping ∧ 20 ≤ s.drum.clock then
      { s with drum := s.drum.step } else s := by
  unfold State.stepDrum
  simp only [Bool.and_eq_true, beq_iff_eq, decide_eq_true_eq, and_assoc]

/-- A step of the drum in STEPPING, field by field (R57, R59). -/
theorem Drum.step_eq {d : Drum} (hd : d.state = .stepping) :
    d.step = { d with
      phase := (d.phase + 1) % 4, debt := d.debt - 1, p := (d.p + 1) % 20, clock := 0, stepped := true,
      sinceIndex := if 24 ≤ d.sinceIndex + 1 then 0 else d.sinceIndex + 1,
      missDue := d.missDue || (decide (24 ≤ d.sinceIndex + 1) && d.indexKnown),
      state := if d.debt ≤ 1 then .idle else .stepping } := by
  have count : (if d.sinceIndex + 1 < 24 then d.sinceIndex + 1 else 0) =
      if 24 ≤ d.sinceIndex + 1 then 0 else d.sinceIndex + 1 := by
    split <;> split <;> omega
  have last : d.debt - 1 = 0 ↔ d.debt ≤ 1 := by omega
  simp only [Drum.step, count, last, hd]

/-- A miss that is due is taken, and counted in a drum that is watched (R59). -/
theorem State.missIndex_eq (s : State) :
    s.missIndex =
      if s.drum.missDue = true then
        if s.drum.state = .idle ∨ s.drum.state = .stepping then
          State.countMiss { s with drum := { s.drum with missDue := false } }
        else { s with drum := { s.drum with missDue := false } }
      else s := rfl

/-- The coils go off in IDLE and FAULT when their hold has run out (R57). -/
theorem State.releaseCoils_eq (s : State) :
    s.releaseCoils = if s.drum.coils = true ∧ (s.drum.state = .idle ∨ s.drum.state = .fault) ∧
        (s.drum.stepped = true → 100 ≤ s.drum.clock) then
      { s with drum := { s.drum with coils := false } } else s := by
  unfold State.releaseCoils Drum.holdOver
  simp only [Bool.and_eq_true, Bool.or_eq_true, beq_iff_eq, decide_eq_true_eq, and_assoc, Bool.not_eq_true',
    ← imp_iff_not_or, ← Bool.not_eq_true]

/-- The phase outputs energise the phase and the one after it (3.7). -/
theorem Drum.phases_eq (d : Drum) :
    d.phases = if d.coils = true then [d.phase + 1, (d.phase + 1) % 4 + 1] else [] := rfl

/-- Settles O45: each event is taken when it is due and changes nothing else, and the phase outputs follow the phase. -/
theorem drumEvents : Obligations.DrumEvents := by
  intro s hs d steps watched coilsDue
  rw [exec_drumStep hs, exec_drumIndexMiss hs, exec_drumCoilOff hs, State.stepDrum_eq, State.missIndex_eq,
    State.releaseCoils_eq]
  refine ⟨fun h => ?_, fun h => ?_, fun h => ?_, fun h hw => ?_, fun h hw hc => ?_, fun h hw hc => ?_, fun h => ?_,
    fun h => ?_, fun h => ?_, fun h => ?_⟩
  · rw [if_neg h]
  · rw [if_pos h, Drum.step_eq h.2.1]
  · rw [if_neg (Bool.eq_false_iff.mp h)]
  · rw [if_pos h, if_neg hw]
  · rw [if_pos h, if_pos hw, State.countMiss_eq]
    exact congrArg Host.Outcome.next (if_pos hc)
  · rw [if_pos h, if_pos hw, State.countMiss_eq]
    exact congrArg Host.Outcome.next (if_neg (Nat.not_lt.mpr hc))
  · rw [if_neg h]
  · rw [if_pos h]
  · exact if_neg (Bool.eq_false_iff.mp h)
  · rw [Drum.phases_eq, if_pos h]
    refine ⟨fun e => ?_, fun e => ?_, fun e => ?_, fun e => ?_⟩ <;> rw [e]

end Sys2Proof.Machine
end

section
/-!
SUPPORT and proof: the vehicle constants, odometer and EEPROM requests, served at once (R45, R54, R158, R159, R167,
R168).
-/
namespace Sys2Proof.Machine

/-! ## Vehicle Constants Write -/

/-- The five ranges of R158; a word holds C_inj's upper bound. -/
theorem constantsInRange_words (kvss cinj : Word) (ppr : Byte) (consumption : Word) (reserve : Byte) :
    constantsInRange kvss.toNat cinj.toNat ppr.toNat consumption.toNat reserve.toNat = true ↔
      (500 ≤ kvss.toNat ∧ kvss.toNat ≤ 25000) ∧ 256 ≤ cinj.toNat ∧ (1 ≤ ppr.toNat ∧ ppr.toNat ≤ 8) ∧
      (20 ≤ consumption.toNat ∧ consumption.toNat ≤ 500) ∧ reserve.toNat ≤ 200 := by
  have word : cinj.toNat ≤ 65535 := Nat.le_of_lt_succ cinj.isLt
  simp only [constantsInRange, Bool.and_eq_true, decide_eq_true_eq, word, and_true, and_assoc]

/-- The car stands: measured SPEED is 0 and VALID (R158). -/
theorem State.standing_iff (s : State) :
    s.standing = true ↔
      s.channels.records[(0 : Fin 16)].value = 0 ∧ s.channels.records[(0 : Fin 16)].validity = .valid := by
  rw [State.standing, beq_iff_eq, State.measured, Prod.mk.injEq]

theorem serveVehicleConstantsWrite_bad {kvss cinj : Word} {ppr : Byte} {consumption : Word} {reserve : Byte} (s : State)
    (h : ¬ constantsInRange kvss.toNat cinj.toNat ppr.toNat consumption.toNat reserve.toNat = true) :
    serveVehicleConstantsWrite kvss cinj ppr consumption reserve s = refuse s .badArgument :=
  if_pos (Bool.eq_false_iff.mpr h)

/-- Constants in range are put in force, unless the part is in RUN and the car moves (R158). -/
theorem serveVehicleConstantsWrite_good {kvss cinj : Word} {ppr : Byte} {consumption : Word} {reserve : Byte}
    (s : State) (h : constantsInRange kvss.toNat cinj.toNat ppr.toNat consumption.toNat reserve.toNat = true) :
    serveVehicleConstantsWrite kvss cinj ppr consumption reserve s =
      if s.inRun = true ∧ ¬ s.standing = true then refuse s .conditions
      else accepted (s.putConstants
        { kvss := kvss.toNat, cinj := cinj.toNat, ppr := ppr.toNat, consumption := consumption.toNat,
          reserve := reserve.toNat, origin := .written }).postHeader :=
  if_neg (by rw [h]; decide)

/-! ## The EEPROM requests -/

/-- A word's two bytes are those of its number (R179). -/
theorem bytes2_toNat (w : Word) : bytes2 w.toNat = wordBytes w := by
  have high : byte (w.toNat / 256) = w.extractLsb' 8 8 := by
    apply BitVec.eq_of_toNat_eq
    simp [byte, BitVec.extractLsb'_toNat, Nat.shiftRight_eq_div_pow]
  have low : byte w.toNat = w.extractLsb' 0 8 := by
    apply BitVec.eq_of_toNat_eq
    simp [byte, BitVec.extractLsb'_toNat]
  rw [bytes2, wordBytes, high, low]

theorem serveEepromRead_bad {first count : Byte} (s : State)
    (h : 127 < first.toNat ∨ count.toNat = 0 ∨ 16 < count.toNat ∨ 128 < first.toNat + count.toNat) :
    serveEepromRead first count s = refuse s .badArgument := by
  rw [toNat_eq_zero_iff] at h
  exact if_pos h

theorem serveEepromRead_good {first count : Byte} (s : State)
    (h : ¬ (127 < first.toNat ∨ count.toNat = 0 ∨ 16 < count.toNat ∨ 128 < first.toNat + count.toNat)) :
    serveEepromRead first count s =
      if s.eeprom.flight.isSome then refuse s .busy
      else reading s ((List.range count.toNat).flatMap fun k =>
        wordBytes (readWord s.eeprom.memory (first.toNat + k))) := by
  rw [toNat_eq_zero_iff] at h
  refine (if_neg h).trans ?_
  simp only [readRun, List.flatMap_map, bytes2_toNat]

theorem serveEepromWrite_bad {address : Byte} (value : Word) (s : State)
    (h : ¬ (50 ≤ address.toNat ∧ address.toNat ≤ 127)) :
    serveEepromWrite address value s = refuse s .badArgument := if_pos (by omega)

theorem serveEepromWrite_good {address : Byte} (value : Word) (s : State)
    (h : 50 ≤ address.toNat ∧ address.toNat ≤ 127) :
    serveEepromWrite address value s =
      if 4 ≤ hostWaiting s.eeprom.queue then refuse s .busy
      else accepted { s with eeprom := { s.eeprom with
        queue := s.eeprom.queue ++ [.host address.toNat value] } } := if_neg (by omega)

/-! ## The reads -/

theorem byte_originCode (o : Origin) :
    byte (originCode o) = match o with | .header => 0 | .defaults => 1 | .written => 2 := by
  cases o <;> rfl

/-- The ring's position as Odometer Read gives it (R54, R182). -/
theorem newest_bytes (a : Accumulators) (front : List Byte) :
    front ++ [indexByte a.newestSlot] ++ bytes4 (if a.newestSlot.isSome then a.newestValue else 0) =
      front ++ match a.newestSlot with
        | some k => byte k.val :: bytes4 a.newestValue
        | none => 255 :: bytes4 0 := by
  rw [List.append_assoc]
  cases a.newestSlot <;> rfl

/-- Settles O53: each request is served at once, refused or carried out by its service's lemmas. -/
theorem constantsAndEepromRequests : Obligations.ConstantsAndEepromRequests := by
  intro s hs t waits flies writing
  have hconsts : t.consts = s.consts := by simp [t]
  have haccum : t.accum = s.accum := by simp [t]
  have heeprom : t.eeprom = s.eeprom := by simp [t]
  have hchannels : t.channels = s.channels := by simp [t]
  have run : t.inRun = true ↔ s.power.state = .run := by
    rw [State.inRun, beq_iff_eq]
    exact s.frameActivity_inputs.2.2
  refine ⟨?_, ?_, ?_, ?_, ?_⟩
  · intro kvss cinj ppr consumption reserve inRange standing scaled
    have range := constantsInRange_words kvss cinj ppr consumption reserve
    have stands : t.standing = true ↔ standing := by rw [State.standing_iff, hchannels]; exact .rfl
    refine ⟨fun h => ?_, fun h hrun moves => ?_, fun h may => ?_⟩
    · exact exec_badArgument hs rfl rfl (serveVehicleConstantsWrite_bad t (range.not.mpr h))
    · have refused := (serveVehicleConstantsWrite_good t (range.mpr h)).trans
        (if_pos ⟨run.mpr hrun, stands.not.mpr moves⟩)
      exact exec_refused (r := .conditions) hs rfl rfl refused
    · have served := (serveVehicleConstantsWrite_good t (range.mpr h)).trans
        (if_neg fun g => may.elim (absurd (run.mp g.1)) (absurd · (stands.not.mp g.2)))
      rw [State.putConstants, State.postHeader, haccum, hconsts, heeprom] at served
      exact exec_accepted hs rfl rfl served
  · have served : serveVehicleConstantsRead t = reading t _ := rfl
    rw [hconsts, State.headerWriteState, heeprom, byte_originCode] at served
    exact exec_reading hs rfl rfl served
  · intro waiting flying w
    have served : serveOdometerRead t = reading t _ := rfl
    rw [haccum, heeprom, newest_bytes] at served
    exact exec_reading hs rfl rfl served
  · intro first count bad
    refine ⟨fun h => exec_badArgument hs rfl rfl (serveEepromRead_bad t h), fun h flight => ?_, fun h flight => ?_⟩
    all_goals
      have served := serveEepromRead_good t h
      rw [heeprom] at served
    · exact exec_refused (r := .busy) hs rfl rfl (served.trans (if_pos (Option.isSome_iff_ne_none.mpr flight)))
    · exact exec_reading hs rfl rfl (served.trans (if_neg (by simp [flight])))
  · intro address value inHostArea hostWords
    refine ⟨fun h => exec_badArgument hs rfl rfl (serveEepromWrite_bad value t h), fun h full => ?_,
      fun h room => ?_⟩
    all_goals
      have served := serveEepromWrite_good value t h
      rw [heeprom] at served
    · exact exec_refused (r := .busy) hs rfl rfl (served.trans (if_pos full))
    · exact exec_accepted hs rfl rfl (served.trans (if_neg (Nat.not_le.mpr room)))

end Sys2Proof.Machine
end

section
/-!
SUPPORT and proof: the drum and service requests, served at once (R60, R62, R145, R147 to R150).
-/
namespace Sys2Proof.Machine

/-! ## Drum Restart and Drum Read -/

/-- A start by its fields: coils that are energised already keep their clock (R57). -/
theorem Drum.start_eq (d : Drum) :
    d.start = { d with state := .stepping, coils := true, clock := if d.coils then d.clock else 0,
                       stepped := d.coils && d.stepped } := by
  unfold Drum.start
  split
  · next coils =>
    obtain ⟨_, _, _, _, _, _, _, _, c, _, _, _⟩ := d
    obtain rfl : c = true := coils
    rfl
  · next off => simp [off]

theorem byte_drumCode (x : DrumState) :
    byte (drumCode x) = match x with | .absent => 0 | .idle => 1 | .stepping => 2 | .fault => 3 := by
  cases x <;> rfl

/-- The DRUM word of a drum that Drum Restart takes out of FAULT (R60, R61). -/
theorem Drum.noticeWord_restarted (d : Drum) :
    (d.state = .idle → d.noticeWord = if d.lost then 0x0101 else 0x0001) ∧
    (d.state = .stepping → d.noticeWord = if d.lost then 0x0102 else 0x0002) := by
  rw [Drum.noticeWord_eq]
  refine ⟨fun h => ?_, fun h => ?_⟩ <;> rw [h] <;> cases d.lost <;> rfl

/-! ## The state of an item -/

/-- A basis's part in an item's state: its level, or DISABLED for a basis not used (R142, R143). -/
def ServiceItem.basisState (i : ServiceItem) (u c : Nat) : ServiceState :=
  if u = 0 then .disabled else basisLevel u c i.config.margin.toNat i.config.grace.toNat

/-- An enabled item has the highest of its three bases' states (R143). -/
theorem ServiceItem.computed_enabled {i : ServiceItem} (h : i.config.enabled ≠ 0) :
    i.computed = highest (highest (i.basisState (i.config.km.toNat * 100) i.sinceDu)
      (i.basisState i.config.days.toNat i.sinceDays)) (i.basisState (i.config.mrev.toNat * 1000) i.sinceKr) := by
  have level : ∀ u c : Nat, (if u = 0 then none else some (basisLevel u c i.config.margin.toNat
      i.config.grace.toNat)).getD .disabled = i.basisState u c := fun u c => by
    unfold ServiceItem.basisState
    split <;> rfl
  have least : ∀ x : ServiceState, highest .disabled x = x := fun x => if_pos (Nat.zero_le _)
  rw [ServiceItem.computed, if_neg h]
  simp only [ServiceItem.levels, ServiceItem.bases, List.map_cons, List.map_nil, List.foldl_cons, List.foldl_nil,
    level, least]

theorem le_serviceCode_highest (n : Nat) (a b : ServiceState) :
    n ≤ serviceCode (highest a b) ↔ n ≤ serviceCode a ∨ n ≤ serviceCode b := by
  unfold highest
  split <;> omega

/-- The levels a basis has reached, each by its threshold of R142. -/
theorem ServiceItem.le_basisState (i : ServiceItem) (u c : Nat) :
    (4 ≤ serviceCode (i.basisState u c) ↔ u ≠ 0 ∧ u * (100 + i.config.grace.toNat) ≤ c * 100) ∧
    (3 ≤ serviceCode (i.basisState u c) ↔ u ≠ 0 ∧ u * 1 ≤ c * 1) ∧
    (2 ≤ serviceCode (i.basisState u c) ↔ u ≠ 0 ∧ u * (100 - i.config.margin.toNat) ≤ c * 100) ∧
    (1 ≤ serviceCode (i.basisState u c) ↔ u ≠ 0) := by
  have late : u * 100 ≤ u * (100 + i.config.grace.toNat) := Nat.mul_le_mul_left u (Nat.le_add_right _ _)
  have soon : u * (100 - i.config.margin.toNat) ≤ u * 100 := Nat.mul_le_mul_left u (Nat.sub_le _ _)
  unfold ServiceItem.basisState basisLevel
  (repeat' split) <;> simp only [serviceCode] <;> omega

/-- A state by the codes it reaches. -/
theorem ServiceState.eq_of_reached (x : ServiceState) :
    x = if ¬ 1 ≤ serviceCode x then .disabled else if 4 ≤ serviceCode x then .overdue
        else if 3 ≤ serviceCode x then .due else if 2 ≤ serviceCode x then .early else .ok := by
  cases x <;> rfl

/-- The state an item computes is the one that R142 and R143 give its settings and counts. -/
theorem ServiceItem.computed_is (i : ServiceItem) : serviceStateIs i i.computed := by
  unfold serviceStateIs
  by_cases enabled : i.config.enabled = 0
  · exact (if_pos enabled).trans (if_pos (.inl enabled)).symm
  · have km : i.config.km.toNat * 100 ≠ 0 ↔ i.config.km ≠ 0 := by rw [← (toNat_eq_zero_iff _).ne]; omega
    have days : i.config.days.toNat ≠ 0 ↔ i.config.days ≠ 0 := (toNat_eq_zero_iff _).not
    have mrev : i.config.mrev.toNat * 1000 ≠ 0 ↔ i.config.mrev ≠ 0 := by rw [← (toNat_eq_zero_iff _).ne]; omega
    refine i.computed.eq_of_reached.trans ?_
    simp only [ServiceItem.computed_enabled enabled, le_serviceCode_highest, ServiceItem.le_basisState, km, days, mrev,
      enabled, false_or, or_assoc, not_or, not_not]

/-! ## Service Configure -/

/-- An index field that holds an index below 12 (R180). -/
theorem optionalIndex_some {b : Byte} {p : Fin 12} (h : optionalIndex 12 b = some (some p)) : b.toNat = p.val := by
  unfold optionalIndex index? at h
  split at h
  · cases h
  · split at h <;> cases h
    rfl

theorem optionalIndex_absent {b : Byte} (h : optionalIndex 12 b = some none) : b = 255 := by
  by_contra present
  rw [optionalIndex, if_neg present] at h
  simp at h

/-- The settings that R147 refuses, by what the pattern field holds: a bad index, none, or an index. -/
theorem serviceRefused_iff (f : ServiceFields) (s : State) : serviceRefused f s = true ↔ serviceUnsound f s := by
  have bad := optionalIndex_isNone 12 f.pattern
  unfold serviceRefused serviceUnsound
  simp only [Bool.or_eq_true, decide_eq_true_eq, optionalIndex_isNone, or_assoc, gt_iff_lt]
  cases hp : optionalIndex 12 f.pattern with
  | none =>
    have refused : 12 ≤ f.pattern.toNat ∧ f.pattern.toNat ≤ 254 := bad.mp (by rw [hp]; rfl)
    simp only [refused, and_self, true_or, or_true]
  | some pattern =>
    have sound : ¬ (12 ≤ f.pattern.toNat ∧ f.pattern.toNat ≤ 254) := fun h => by simpa [hp] using bad.mpr h
    simp only [sound, false_or]
    cases pattern with
    | none =>
      have absent : f.pattern.toNat = 255 := congrArg BitVec.toNat (optionalIndex_absent hp)
      have unnamed : ∀ p : Fin 12, ¬ 255 = p.val := fun p => by omega
      simp [absent, unnamed]
    | some p =>
      simp [optionalIndex_some hp, Fin.val_inj, toNat_eq_zero_iff, or_assoc]

/-- Whether an item asks for the same chime before and after: it has no pattern, or the action is the same (R148). -/
theorem ServiceItem.chime?_eq_iff (i j : ServiceItem) :
    i.chime? = j.chime? ↔ (11 < i.config.pattern.toNat ∧ 11 < j.config.pattern.toNat) ∨
      (i.config.pattern = j.config.pattern ∧ i.config.priority = j.config.priority ∧
        i.config.passes = j.config.passes) := by
  simp only [ServiceItem.chime?, index?, ← BitVec.toNat_inj]
  split <;> split <;> simp <;> omega

/-- An item with new settings, in the state they give it (R148). -/
def ServiceItem.configured (i : ServiceItem) (f : ServiceFields) : ServiceItem := { i with config := f }.settled

theorem ServiceItem.lamp?_eq_some (i : ServiceItem) (l : Fin 12) :
    i.lamp? = some l ↔ i.config.lamp.toNat = l.val := by
  unfold ServiceItem.lamp? index?
  split
  · rw [Option.some_inj, Fin.ext_iff]
  · simp; omega

/-- The claims as Service Configure moves them: the old lamp's away, when the lamp changes, then the new lamp's in. -/
def State.moveItemClaim (s : State) (k : Fin 6) (old new : ServiceItem) : State :=
  (if old.lamp? = new.lamp? then s else s.setItemClaim k old.lamp? none).setItemClaim k new.lamp? (claimFor new.state)

theorem State.setItemClaim_eq (s : State) (k : Fin 6) (l : Option (Fin 12)) (m : Option LampMode) :
    s.setItemClaim k l m = { s with lamp := (s.setItemClaim k l m).lamp } := by
  cases l <;> rfl

theorem State.setItemClaim_setItem (s : State) (k : Fin 6) (i : ServiceItem) (l : Option (Fin 12))
    (m : Option LampMode) : (s.setItem k i).setItemClaim k l m = (s.setItemClaim k l m).setItem k i := by
  cases l <;> rfl

theorem State.moveItemClaim_eq (s : State) (k : Fin 6) (old new : ServiceItem) :
    s.moveItemClaim k old new = { s with lamp := (s.moveItemClaim k old new).lamp } := by
  rw [State.moveItemClaim, State.setItemClaim_eq]
  split
  · rfl
  · rw [State.setItemClaim_eq s]

theorem State.moveItemClaim_setItem (s : State) (k : Fin 6) (i old new : ServiceItem) :
    (s.setItem k i).moveItemClaim k old new = (s.moveItemClaim k old new).setItem k i := by
  simp only [State.moveItemClaim, State.setItemClaim_setItem]
  split <;> rw [State.setItemClaim_setItem]

theorem State.moveItemClaim_lamp (s : State) (k : Fin 6) (old new : ServiceItem) :
    (s.moveItemClaim k old new).lamp = { s.lamp with claims := (s.moveItemClaim k old new).lamp.claims } := by
  rw [State.moveItemClaim, State.setItemClaim_lamp]
  split
  · rfl
  · rw [State.setItemClaim_lamp s]

/-- The new lamp's claim follows the new state, and the old lamp's is gone (R148). -/
theorem State.moveItemClaim_claim (s : State) (k : Fin 6) (old new : ServiceItem) (l : Fin 12) (c : Fin 23) :
    (s.moveItemClaim k old new).lamp.claim l c =
      if new.config.lamp.toNat = l.val ∧ c = serviceClaim k then claimFor new.state
      else if old.config.lamp.toNat = l.val ∧ c = serviceClaim k then none
      else s.lamp.claim l c := by
  rw [State.moveItemClaim, State.setItemClaim_claim]
  split
  · rfl
  · next moved =>
    split
    · next same =>
      rw [← ServiceItem.lamp?_eq_some, ← same, ServiceItem.lamp?_eq_some] at moved
      rw [if_neg moved]
    · rw [State.setItemClaim_claim]

/-- What Service Configure does to the item, the claims, the request and the notice (R148). -/
theorem State.configureItem_eq (s : State) (k : Fin 6) (f : ServiceFields) :
    s.configureItem k f =
      let old := s.service[k]
      let new := old.configured f
      { s with
        service := s.service.set k new
        lamp := (s.moveItemClaim k old new).lamp
        chime := if old.chime? = new.chime? ∧ dueState new.state then s.chime else s.chime.withdraw (serviceSource k)
        notices := if new.state = old.state then s.notices
                   else postNotice (.service k) (serviceValue new) s.notices } := by
  have order : s.configureItem k f =
      let old := s.service[k]
      let new := old.configured f
      let u := (s.setItem k new).moveItemClaim k old new
      let v := if old.chime? = new.chime? ∧ dueState new.state then u else u.withdrawChime (serviceSource k)
      if new.state = old.state then v else v.notify (.service k) new.noticeWord := rfl
  rw [order]
  dsimp only
  rw [State.moveItemClaim_setItem, State.moveItemClaim_eq, ServiceItem.noticeWord_eq]
  split <;> split <;> rfl

theorem serveServiceConfigure_bad {item : Byte} {f : ServiceFields} (s : State)
    (h : 5 < item.toNat ∨ serviceUnsound f s) : serveServiceConfigure item f s = refuse s .badArgument := by
  rw [← serviceRefused_iff] at h
  unfold serveServiceConfigure
  split
  · rfl
  · next k hk =>
    have small : ¬ 5 < item.toNat := fun big => by simp [index?_none big] at hk
    exact if_pos (h.resolve_left small)

theorem serveServiceConfigure_good {item : Byte} {f : ServiceFields} (s : State) (k : Fin 6) (hk : item.toNat = k.val)
    (h : ¬ serviceUnsound f s) : serveServiceConfigure item f s = accepted (s.configureItem k f) := by
  rw [← serviceRefused_iff] at h
  rw [serveServiceConfigure, index?_some k hk]
  exact if_neg h

/-! ## Service Reset -/

/-- An item with its since counts at 0, in the state that leaves it (R149). -/
def ServiceItem.zeroed (i : ServiceItem) : ServiceItem :=
  { i with sinceDu := 0, sinceDays := 0, sinceKr := 0 }.settled

/-- What the reset of the items of `l` does: the items, their claims, their requests and their notices (R149). -/
structure ItemsReset (l : List (Fin 6)) (s u : State) : Prop where
  items : ∀ k : Fin 6, u.service[k] = if k ∈ l then s.service[k].zeroed else s.service[k]
  claims : ∀ (i : Fin 12) (c : Fin 23), u.lamp.claim i c =
    if ∃ k ∈ l, c = serviceClaim k ∧ s.service[k].config.lamp.toNat = i.val then none else s.lamp.claim i c
  chime : u.chime =
    { s.chime with queue := withdrawWhere (fun r => ∃ k ∈ l, r.source = serviceSource k) s.chime.queue }
  notices : u.notices = l.foldl (fun q k => postNotice (.service k) (serviceValue s.service[k].zeroed) q) s.notices
  frame : u = { s with
    service := u.service, lamp := { s.lamp with claims := u.lamp.claims }, chime := u.chime, notices := u.notices }

theorem ItemsReset.nil (s : State) : ItemsReset [] s s where
  items k := by simp
  claims i c := by simp
  chime := by simp [withdrawWhere]
  notices := rfl
  frame := rfl

/-- The reset of one item, by its pieces. -/
theorem State.resetItem_eq (s : State) (k : Fin 6) :
    s.resetItem k = { s with
      service := s.service.set k s.service[k].zeroed
      lamp := { s.lamp with claims := (s.setItemClaim k s.service[k].lamp? none).lamp.claims }
      chime := s.chime.withdraw (serviceSource k)
      notices := postNotice (.service k) (serviceValue s.service[k].zeroed) s.notices } := by
  have order : s.resetItem k =
      ((((s.setItem k s.service[k].zeroed).setItemClaim k s.service[k].lamp? none).withdrawChime
        (serviceSource k)).notify (.service k) s.service[k].zeroed.noticeWord) := rfl
  rw [order, State.setItemClaim_setItem, State.setItemClaim_eq, State.setItemClaim_lamp, ServiceItem.noticeWord_eq]
  rfl

theorem State.resetItem_item (s : State) (k j : Fin 6) :
    (s.resetItem k).service[j] = if j = k then s.service[k].zeroed else s.service[j] := by
  rw [State.resetItem_eq]
  exact set_get _ _ _ _

/-- The reset of one item and then of others (R149). -/
theorem ItemsReset.cons {k : Fin 6} {l : List (Fin 6)} (hk : k ∉ l) {s u : State}
    (h : ItemsReset l (s.resetItem k) u) : ItemsReset (k :: l) s u := by
  have item := s.resetItem_item k
  have config : ∀ j : Fin 6, (s.resetItem k).service[j].config = s.service[j].config := by
    intro j
    rw [item]
    split
    · next e => rw [e]; rfl
    · rfl
  have other : ∀ j ∈ l, (s.resetItem k).service[j] = s.service[j] := fun j hj =>
    (item j).trans (if_neg fun e : j = k => hk (e ▸ hj))
  obtain ⟨items, claims, chime, notices, frame⟩ := h
  refine ⟨fun j => ?_, fun i c => ?_, ?_, ?_, ?_⟩
  · rw [items, item]
    by_cases e : j = k
    · subst e
      simp [hk]
    · simp [e]
  · have claim : (s.resetItem k).lamp.claim i c =
        if s.service[k].config.lamp.toNat = i.val ∧ c = serviceClaim k then none else s.lamp.claim i c := by
      rw [s.resetItem_eq k]
      exact s.setItemClaim_claim k s.service[k] none i c
    rw [claims, claim, ← ite_or]
    simp only [config, List.mem_cons, exists_eq_or_imp, and_comm, or_comm]
  · rw [chime, s.resetItem_eq k]
    refine congrArg (fun q => ({ s.chime with queue := q } : ChimeUnit))
      ((withdrawWhere_withdrawWhere _).trans (List.filterMap_congr fun r _ => if_congr ?_ rfl rfl))
    simp only [List.mem_cons, exists_eq_or_imp]
  · rw [notices, List.foldl_cons]
    have post : (s.resetItem k).notices = postNotice (.service k) (serviceValue s.service[k].zeroed) s.notices := by
      rw [s.resetItem_eq k]
    rw [post]
    exact List.foldl_ext _ _ _ fun q j hj => by rw [other j hj]
  · rw [s.resetItem_eq k] at frame
    exact frame

theorem foldl_resetItem (l : List (Fin 6)) (hl : l.Nodup) (s : State) :
    ItemsReset l s (l.foldl State.resetItem s) := by
  induction l generalizing s with
  | nil => exact .nil s
  | cons k l ih =>
    obtain ⟨hk, hl⟩ := List.nodup_cons.mp hl
    exact .cons hk (ih hl (s.resetItem k))

/-! ## Service Read -/

/-- The level of a basis as Service Read gives it, 0 for a basis not used (R182). -/
theorem byte_level (u c margin grace : Nat) :
    byte (((if u = 0 then none else some (basisLevel u c margin grace)).map serviceCode).getD 0) =
      if u = 0 then 0
      else if u * (100 + grace) ≤ c * 100 then 4
      else if u ≤ c then 3
      else if u * (100 - margin) ≤ c * 100 then 2
      else 1 := by
  unfold basisLevel
  (repeat' split) <;> rfl

/-- An item's claim on the lamp of its setting, none when it has no lamp (R150). -/
theorem ServiceItem.claimOf (i : ServiceItem) (k : Fin 6) (u : LampUnit) :
    (i.lamp?.map fun l => u.claim l (serviceClaim k)).getD none =
      if h : i.config.lamp.toNat < 12 then u.claim ⟨i.config.lamp.toNat, h⟩ (serviceClaim k) else none := by
  unfold ServiceItem.lamp? index?
  split <;> rfl

theorem byte_claimCode (c : Option LampMode) :
    byte (claimCode c) = match c with | none => 0 | some .on => 1 | some .flash => 2 := by
  rcases c with _ | _ | _ <;> rfl

theorem byte_serviceCode (x : ServiceState) :
    byte (serviceCode x) = match x with | .disabled => 0 | .ok => 1 | .early => 2 | .due => 3 | .overdue => 4 := by
  cases x <;> rfl

theorem serveServiceRead_bad {item : Byte} (s : State) (h : 5 < item.toNat) :
    serveServiceRead item s = refuse s .badArgument := by
  rw [serveServiceRead, index?_none h]

theorem serveServiceRead_good {item : Byte} (s : State) (k : Fin 6) (h : item.toNat = k.val) :
    serveServiceRead item s =
      let i := s.service[k]
      reading s (serviceBytes i.config ++ bytes4 i.sinceDu ++ bytes2 i.sinceDays ++ bytes2 i.sinceKr ++
        [byte (serviceCode i.state)] ++ (i.levels.map fun l => byte ((l.map serviceCode).getD 0)) ++
        [byte (claimCode ((i.lamp?.map fun l => s.lamp.claim l (serviceClaim k)).getD none))] ++
        chimeStanding s.chime (serviceSource k) ++ bytes4 s.time.seconds ++ bytes2 s.time.days ++
        [byte s.serviceWriteState]) := by
  rw [serveServiceRead, index?_some k h]

theorem itemsOf_bad {item : Byte} (h : 5 < item.toNat) (single : item ≠ 255) : itemsOf item = none := by
  rw [itemsOf, if_neg single, index?_none h]
  rfl

/-- The items of a Service Reset are those its argument names, in their order (R149). -/
theorem itemsOf_named {item : Byte}
    (h : (List.finRange 6).filter (fun k => decide (item = 255 ∨ item.toNat = k.val)) ≠ []) :
    itemsOf item = some ((List.finRange 6).filter fun k => decide (item = 255 ∨ item.toNat = k.val)) := by
  by_cases all : item = 255
  · simp [itemsOf, all]
  · obtain ⟨k, hk⟩ := List.exists_mem_of_ne_nil _ h
    have named : item.toNat = k.val := (of_decide_eq_true (List.mem_filter.mp hk).2).resolve_left all
    have single : ∀ j : Fin 6, (List.finRange 6).filter (fun i => decide (j.val = i.val)) = [j] := by decide
    rw [itemsOf, if_neg all, index?_some k named, named]
    simp only [all, false_or, single, Option.map_some]

/-- A Service Reset resets the items it names, with the car standing in RUN, and is refused otherwise (R149). -/
theorem serveServiceReset_named {item : Byte} {l : List (Fin 6)} (s : State) (h : itemsOf item = some l) :
    serveServiceReset item s =
      if s.inRun = true ∧ s.standing = true then accepted (l.foldl State.resetItem s).postService
      else refuse s .conditions := by
  rw [serveServiceReset, h]

/-- A frame's arrival changes nothing in RUN. -/
theorem State.frameActivity_run {s : State} (h : s.power.state = .run) : s.frameActivity = s := by
  simp [State.frameActivity, State.restartLinger, h]

/-- A frame's arrival leaves every claim as it was. -/
theorem State.frameActivity_claim (s : State) (l : Fin 12) (c : Fin 23) :
    s.frameActivity.lamp.claim l c = s.lamp.claim l c := by
  unfold State.frameActivity State.restartLinger
  split
  · rfl
  · split <;> rfl

/-- Settles O60: each request is served at once, refused or carried out by its service's lemmas. -/
theorem drumAndServiceRequests : Obligations.DrumAndServiceRequests := by
  intro s hs t
  have hdrum : t.drum = s.drum := by simp [t]
  have haccum : t.accum = s.accum := by simp [t]
  have hchannels : t.channels = s.channels := by simp [t]
  have hservice : t.service = s.service := by simp [t]
  have hchime : t.chime = s.chime := by simp [t]
  have htime : t.time = s.time := by simp [t]
  have heeprom : t.eeprom = s.eeprom := by simp [t]
  have hclaim : ∀ (l : Fin 12) (c : Fin 23), t.lamp.claim l c = s.lamp.claim l c := s.frameActivity_claim
  have run : t.inRun = true ↔ s.power.state = .run := by
    rw [State.inRun, beq_iff_eq]
    exact s.frameActivity_inputs.2.2
  refine ⟨?_, ?_, fun item f => ?_, fun item => ?_, fun item => ?_⟩
  · intro d started
    refine ⟨fun h => ?_, fun h => ?_, fun h hd => ?_, fun h hd => ?_⟩
    · exact exec_refused (r := .conditions) hs rfl rfl (serveDrumRestart_absent (hdrum ▸ h))
    · have served := serveDrumRestart_watched (s := t) (hdrum ▸ h)
      rw [hdrum] at served
      exact exec_accepted hs rfl rfl served
    · have served := serveDrumRestart_fault (s := t) (hdrum ▸ h)
      rw [hdrum, if_pos hd, State.notifyDrum, (Drum.noticeWord_restarted _).1 rfl] at served
      exact exec_accepted hs rfl rfl served
    · have served := serveDrumRestart_fault (s := t) (hdrum ▸ h)
      rw [hdrum, if_neg hd, Drum.start_eq, State.notifyDrum, (Drum.noticeWord_restarted _).2 rfl] at served
      exact exec_accepted hs rfl rfl served
  · intro flag d
    have served : serveDrumRead t = reading t _ := rfl
    rw [hdrum, haccum, byte_drumCode] at served
    exact exec_reading hs rfl rfl served
  · have unsound : serviceUnsound f t ↔ serviceUnsound f s := by unfold serviceUnsound; rw [hchime]
    refine ⟨fun h => exec_badArgument hs rfl rfl (serveServiceConfigure_bad t (h.imp_right unsound.mpr)),
      fun k hk h => ⟨t.configureItem k f, exec_accepted hs rfl rfl
        (serveServiceConfigure_good t k hk (unsound.not.mpr h)), ?_⟩⟩
    have result := t.configureItem_eq k f
    simp only [hservice] at result
    generalize t.configureItem k f = u at result
    intro old new due action
    have service : u.service = s.service.set k (old.configured f) := by rw [result]
    have lamp : u.lamp = (t.moveItemClaim k old (old.configured f)).lamp := by rw [result]
    have item : new = old.configured f := by
      simp only [new, service]
      exact (set_get _ _ _ _).trans (if_pos rfl)
    refine ⟨?_, ?_, fun l c => ?_, ?_, ?_, ?_⟩
    · rw [item]
      exact ServiceItem.computed_is { old with config := f }
    · rw [item]
      exact service
    · rw [item, lamp, State.moveItemClaim_claim, hclaim]
      exact if_congr and_comm rfl (if_congr and_comm rfl rfl)
    · have follows : due ↔ dueState (old.configured f).state = true := by
        rw [dueState_iff, ← item, not_and_or, not_not, not_not]
      have stays : due ∧ action ↔
          old.chime? = (old.configured f).chime? ∧ dueState (old.configured f).state = true :=
        and_comm.trans (and_congr (old.chime?_eq_iff (old.configured f)).symm follows)
      have chime : u.chime = if due ∧ action then t.chime else t.chime.withdraw (serviceSource k) := by
        rw [if_congr stays rfl rfl, result]
      rw [chime, hchime]
      split <;> rfl
    · rw [item, result]
      rfl
    · rw [lamp, ← State.moveItemClaim_lamp, ← lamp]
      rw [result]
  · intro named standing
    have stands : t.standing = true ↔ standing := by rw [State.standing_iff, hchannels]; exact .rfl
    refine ⟨fun h single => ?_, fun h moves => ?_, fun h hrun stand => ?_⟩
    · have bad : serveServiceReset item t = refuse t .badArgument := by rw [serveServiceReset, itemsOf_bad h single]
      exact exec_badArgument hs rfl rfl bad
    · have refused := (serveServiceReset_named t (itemsOf_named h)).trans
        (if_neg fun g => moves ⟨run.mp g.1, stands.mp g.2⟩)
      exact exec_refused (r := .conditions) hs rfl rfl refused
    · have served := (serveServiceReset_named t (itemsOf_named h)).trans (if_pos ⟨run.mpr hrun, stands.mpr stand⟩)
      refine ⟨_, exec_accepted hs rfl rfl served, ?_⟩
      have same : t = s := State.frameActivity_run hrun
      obtain ⟨items, claims, chime, notices, frame⟩ := foldl_resetItem named ((List.nodup_finRange 6).filter _) s
      rw [same]
      have item : ∀ k ∈ named, (named.foldl State.resetItem s).service[k] = s.service[k].zeroed := fun k hk =>
        (items k).trans (if_pos hk)
      refine ⟨fun k hk => (items k).trans (if_neg hk), fun k hk => ?_, claims, ?_, ?_, ?_⟩
      · have kept : ((named.foldl State.resetItem s).postService).service[k] = s.service[k].zeroed := item k hk
        rw [kept]
        exact ⟨rfl, ServiceItem.computed_is { s.service[k] with sinceDu := 0, sinceDays := 0, sinceKr := 0 }⟩
      · exact chime
      · refine notices.trans (List.foldl_ext _ _ _ fun q k hk => ?_)
        rw [← item k hk]
        rfl
      · exact congrArg State.postService frame
  · refine ⟨fun h => exec_badArgument hs rfl rfl (serveServiceRead_bad t h), fun k hk => ?_⟩
    have served := serveServiceRead_good t k hk
    simp only [hservice, htime, hchime, hclaim, heeprom, State.serviceWriteState, ServiceItem.levels,
      ServiceItem.bases, List.map_cons, List.map_nil, byte_level, ServiceItem.claimOf, byte_claimCode,
      byte_serviceCode] at served
    exact exec_reading hs rfl rfl served

end Sys2Proof.Machine
end

section
/-!
SUPPORT and proof: the trip second and the presented range (R64, R65, R75, R76).
-/
namespace Sys2Proof.Machine

/-! ## The presented range -/

theorem rawRange_le (f reserve rbDist rbFuel : Nat) : rawRange f reserve rbDist rbFuel ≤ 1999 := by
  unfold rawRange
  split
  · exact Nat.zero_le _
  · split
    · exact le_rfl
    · exact Nat.min_le_right _ _

/-- Without a measured fuel level there is no raw range (R75). -/
theorem State.rawRangeNow_unknown {s : State}
    (h : s.channels.records[(2 : Fin 16)].validity = .fault ∨ s.channels.records[(2 : Fin 16)].validity = .absent) :
    s.rawRangeNow = none := if_pos h

theorem State.rawRangeNow_known {s : State}
    (h : ¬ (s.channels.records[(2 : Fin 16)].validity = .fault ∨ s.channels.records[(2 : Fin 16)].validity = .absent)) :
    s.rawRangeNow =
      some (rawRange s.channels.records[(2 : Fin 16)].value s.consts.reserve s.trip.rbDist s.trip.rbFuel) := if_neg h

/-- The presented range falls, and rises when the car stands, with the raw range at once; it rises by 1 km else
(R76). -/
theorem presentedAfter_some (r p : Nat) (standing : Bool) :
    presentedAfter r (some p) standing = if standing = true ∨ r < p then r else min r (p + 1) := by
  simp only [presentedAfter, ite_or]

theorem presentedAfter_le (r : Nat) (p : Option Nat) (standing : Bool) : presentedAfter r p standing ≤ r := by
  cases p with
  | none => exact le_rfl
  | some p =>
    rw [presentedAfter_some]
    split
    · exact le_rfl
    · exact Nat.min_le_left _ _

/-- While the car moves the presented range rises by at most 1 km (R76). -/
theorem presentedAfter_moving_le (r p : Nat) : presentedAfter r (some p) false ≤ p + 1 := by
  rw [presentedAfter_some]
  split
  · next falls => exact (falls.resolve_left Bool.false_ne_true).le.trans (Nat.le_succ p)
  · exact Nat.min_le_right _ _

theorem State.presentRange_unknown {s : State} (h : s.rawRangeNow = none) :
    s.presentRange =
      State.writeChannel { s with trip := { s.trip with presented := none } } 10 none (some .absent) := by
  simp only [State.presentRange, h]

theorem State.presentRange_known {s : State} {r : Nat} (h : s.rawRangeNow = some r) :
    s.presentRange =
      (let p := presentedAfter r s.trip.presented s.standing
       State.writeChannel { s with trip := { s.trip with presented := some p } } 10 (some p) (some .valid)) := by
  simp only [State.presentRange, h]

/-- What is presented after a recomputation: none without a raw range (R76). -/
theorem State.presentRange_presented (s : State) :
    s.presentRange.trip.presented = s.rawRangeNow.map fun r => presentedAfter r s.trip.presented s.standing := by
  cases h : s.rawRangeNow with
  | none => simp [State.presentRange_unknown h]
  | some r => simp [State.presentRange_known h]

/-! ## The trip second -/

/-- A trip second reaches a trip that counts, up to its ceiling (R64, R65). -/
theorem Trip.addSecond_run (t : Trip) :
    t.addSecond true =
      if t.paused = true ∨ t.saturated = true then t
      else if 16777215 < t.seconds + 1 then { t with seconds := 16777215, saturated := true }
      else { t with seconds := t.seconds + 1 } := by
  have counting : t.counting true = true ↔ ¬ (t.paused = true ∨ t.saturated = true) := by simp [Trip.counting]
  unfold Trip.addSecond
  simp only [counting, ite_not]
  rfl

/-- The Trip Computer with a second counted, before the presented range is recomputed (R65). -/
def State.secondCounted (s : State) (ms : Nat) : State :=
  { s with trip :=
    { s.trip with a := s.trip.a.addSecond true, b := s.trip.b.addSecond true, clock := some (ms - 1000) } }

/-- A due trip second counts, and then the presented range is recomputed (R65, R76). -/
theorem State.tripSecond_due {s : State} {ms : Nat} (run : s.power.state = .run) (clock : s.trip.clock = some ms)
    (due : 1000 ≤ ms) : s.tripSecond = (s.secondCounted ms).presentRange := by
  have taken : s.inRun = true ∧ 1000 ≤ ms := ⟨beq_iff_eq.mpr run, due⟩
  simp only [State.tripSecond, clock]
  exact if_pos taken

/-- A trip second that is not due changes nothing (log entry 5). -/
theorem State.tripSecond_idle {s : State}
    (h : s.power.state ≠ .run ∨ s.trip.clock = none ∨ ∃ ms, s.trip.clock = some ms ∧ ms < 1000) :
    s.tripSecond = s := by
  cases clock : s.trip.clock with
  | none => simp only [State.tripSecond, clock]
  | some ms =>
    have idle : ¬ (s.inRun = true ∧ 1000 ≤ ms) := by
      rintro ⟨run, due⟩
      rcases h with h | h | ⟨n, h, lt⟩
      · exact h (beq_iff_eq.mp run)
      · cases clock.symm.trans h
      · cases clock.symm.trans h
        omega
    simp only [State.tripSecond, clock]
    exact if_neg idle

/-- Settles O35: a due trip second counts at the two trips and writes what the presented range's cases give. -/
theorem tripSecondResult : Obligations.TripSecondResult := by
  intro s hs
  refine ⟨fun idle => (exec_tripSecond hs).trans (congrArg _ (State.tripSecond_idle idle)), fun ms run clock due => ?_⟩
  intro second level known raw standing shown trips r write
  have counted : s.secondCounted ms = { s with trip := trips } := by
    simp only [State.secondCounted, Trip.addSecond_run]
    rfl
  have taken := (exec_tripSecond hs).trans (congrArg Host.Outcome.next (State.tripSecond_due run clock due))
  rw [taken, counted]
  have known_iff : known ↔ ¬ (level.validity = .fault ∨ level.validity = .absent) := not_or.symm
  refine ⟨fun unknown => ?_, fun level_known => ?_⟩
  · have absent : ({ s with trip := trips } : State).rawRangeNow = none :=
      State.rawRangeNow_unknown (not_not.mp (known_iff.not.mp unknown))
    rw [State.presentRange_unknown absent, State.writeChannel_eq]
    rfl
  · have present : ({ s with trip := trips } : State).rawRangeNow = some raw :=
      State.rawRangeNow_known (known_iff.mp level_known)
    have stands : s.standing = true ↔ standing := s.standing_iff
    have shown_eq : presentedAfter raw s.trip.presented s.standing = shown := by
      simp only [shown]
      cases s.trip.presented with
      | none => rfl
      | some p => simp only [presentedAfter_some, stands]
    have top : shown ≤ channelTop 10 :=
      shown_eq ▸ (presentedAfter_le _ _ _).trans (rawRange_le _ _ _ _)
    have written : ({ s with trip := trips } : State).presentRange = State.writeChannel
        { s with trip := { trips with presented := some shown } } 10 (some shown) (some .valid) := by
      rw [State.presentRange_known present, ← shown_eq]
      rfl
    rw [written, State.writeChannel_eq, Channel.written_le _ top]
    rfl

end Sys2Proof.Machine
end

section
/-!
SUPPORT and proof: no step but a trip second and a reset changes the presented range (R76, R77).
-/
namespace Sys2Proof.Machine

/-! ## What leaves the presented range -/

@[simp] theorem State.tick_presented (s : State) (di : BitVec 12) (ign : Bool) (pulse : BitVec 5) :
    (s.tick di ign pulse).trip.presented = s.trip.presented := by
  unfold State.tick State.tickTimers
  split
  · rfl
  · simp [TripComputer.tick]

@[simp] theorem State.emitDu_presented (s : State) : s.emitDu.trip.presented = s.trip.presented := by
  rw [State.emitDu_eq, TripComputer.addDu_eq]

@[simp] theorem State.takeSpd_presented (s : State) (sub : BitVec 8) :
    (s.takeSpd sub).trip.presented = s.trip.presented := by
  simp only [State.takeSpd, State.addDistance]
  repeat' split
  all_goals simp

@[simp] theorem State.takeWindowClose_presented (s : State) (tripFirst : Bool) :
    (s.takeWindowClose tripFirst).trip.presented = s.trip.presented := by
  unfold State.takeWindowClose
  split
  · rw [State.closeWindow_trip rfl rfl]
  · rfl

@[simp] theorem State.autoReset_presented (s : State) : s.autoReset.trip.presented = s.trip.presented := by
  unfold State.autoReset
  repeat' split
  all_goals rfl

@[simp] theorem State.enterRun_presented (s : State) : s.enterRun.trip.presented = s.trip.presented := by
  simp [State.enterRun]

@[simp] theorem State.takeRunEntry_presented (s : State) (m : Moment) :
    (s.takeRunEntry m).trip.presented = s.trip.presented := by
  unfold State.takeRunEntry State.runEntry
  repeat' split
  all_goals simp

@[simp] theorem State.takeInitEnd_presented (s : State) (m : Moment) :
    (s.takeInitEnd m).trip.presented = s.trip.presented := by
  unfold State.takeInitEnd State.endInit State.enterFirst
  repeat' split
  all_goals simp

@[simp] theorem State.runExit_presented (s : State) (serviceFirst : Bool) :
    (s.runExit serviceFirst).trip.presented = s.trip.presented := by
  unfold State.runExit State.exitRun State.tripExit
  split
  · simp
  · rfl

theorem State.release_presented (s : State) : s.release.trip.presented = s.trip.presented := by
  unfold State.release
  split <;> rfl

/-- No service recomputes the presented range: the requests that change the Trip Computer change the trips. -/
theorem service_presented {c : Instr} {f : Service} (hc : service? c = some f) (s : State) :
    (f s).state.trip.presented = s.trip.presented := by
  cases c <;> simp only [service?, reduceCtorEq, Option.some.injEq] at hc <;> subst hc
  case softRestart => simp [serveSoftRestart, State.restore, TripComputer.restart]
  case tripReset => unfold serveTripReset; split <;> rfl
  case tripControl => unfold serveTripControl; split <;> rfl
  all_goals simp

theorem presented_link (p : Option Nat) : LinkKeeps fun s => s.trip.presented = p where
  link _ _ := id
  reach s m h := by rw [← h]; simp
  wake s h := by rw [← h]; simp
  serve c f s hc h := (service_presented hc s).trans h

@[simp] theorem State.receive_presented (s : State) (c : Byte) (stopHigh : Bool) (m : Moment) :
    (s.receive c stopHigh m).trip.presented = s.trip.presented :=
  (presented_link s.trip.presented).receive rfl c stopHigh m

@[simp] theorem State.replyEnd_presented (s : State) (m : Moment) :
    (s.replyEnd m).trip.presented = s.trip.presented :=
  (presented_link s.trip.presented).replyEnd rfl m

/-- What a command can do to the presented range: nothing, the recomputation of a trip second, a reset's clearing. -/
inductive RangeStep (s t : State) : Prop
  | kept (h : t.trip.presented = s.trip.presented)
  | second (h : t = s.tripSecond)
  | reset (h : t.trip.presented = none)

theorem exec_rangeStep {c : Instr} {s t : State} (he : exec c s = .next t) : RangeStep s t := by
  rcases hc : service? c with _ | f
  case some => exact .kept ((presented_link s.trip.presented).exec_request hc rfl he)
  cases c <;> simp only [service?, reduceCtorEq] at hc
  case powerOnReset =>
    obtain rfl := Host.Outcome.next.inj he
    exact .reset rfl
  case resetnRelease =>
    obtain rfl := Host.Outcome.next.inj he
    exact .kept s.release_presented
  case tripSecond =>
    by_cases held : s.power.state = .held
    · obtain rfl := (Host.Outcome.next.inj he).symm.trans (if_pos held)
      exact .kept rfl
    · exact .second (Host.Outcome.next.inj (he.symm.trans (exec_tripSecond held)))
  -- the other events: a part held in reset stands still (R155), and else the operation leaves the presented range
  all_goals
    cases he
    exact .kept (keeps_ite (P := fun u => u.trip.presented = s.trip.presented) rfl fun _ => by simp)

/-! ## The law of the presented range -/

/-- A trip second raises the presented range by at most 1 km while the car moves (R76). -/
theorem State.tripSecond_presented_le {s : State} {p q : Nat} (before : s.trip.presented = some p)
    (after : s.tripSecond.trip.presented = some q) (moves : s.standing = false) : q ≤ p + 1 := by
  by_cases due : s.power.state = .run ∧ ∃ ms, s.trip.clock = some ms ∧ 1000 ≤ ms
  · obtain ⟨run, ms, clock, due⟩ := due
    rw [State.tripSecond_due run clock due, State.presentRange_presented] at after
    obtain ⟨r, -, shown⟩ := Option.map_eq_some_iff.mp after
    have same : presentedAfter r s.trip.presented s.standing = q := shown
    rw [before, moves] at same
    exact same ▸ presentedAfter_moving_le r p
  · have idle : s.power.state ≠ .run ∨ s.trip.clock = none ∨ ∃ ms, s.trip.clock = some ms ∧ ms < 1000 := by
      by_cases run : s.power.state = .run
      · cases clock : s.trip.clock with
        | none => exact .inr (.inl rfl)
        | some ms => exact .inr (.inr ⟨ms, rfl, Nat.lt_of_not_le fun le => due ⟨run, ms, clock, le⟩⟩)
      · exact .inl run
    rw [State.tripSecond_idle idle, before] at after
    exact Option.some.inj after ▸ Nat.le_succ p

/-- Settles O13: of what a command can do to the presented range only a trip second raises it. -/
theorem presentedRangeLaw : Obligations.PresentedRangeLaw := by
  intro s t p q he before after moves
  obtain ⟨-, rfl⟩ | ⟨c, rest, -, he⟩ := step_cases he
  · exact Option.some.inj (before.symm.trans after) ▸ Nat.le_succ p
  cases exec_rangeStep he with
  | kept h => exact Option.some.inj (before.symm.trans (h.symm.trans after)) ▸ Nat.le_succ p
  | second h =>
    subst h
    exact State.tripSecond_presented_le (s := s.setPending rest) before after (beq_eq_false_iff_ne.mpr moves)
  | reset h => cases h.symm.trans after

end Sys2Proof.Machine
end

section
/-!
SUPPORT and proof: the lamp and trip requests, served at once (R66, R67, R69, R70, R137 to R139).
-/
namespace Sys2Proof.Machine

/-! ## Lamp Set and Lamp Configure -/

/-- The lamps of a Lamp Set are those its argument names (R137). -/
theorem lampsOf_named {lamp : Byte} (h : ¬ (12 ≤ lamp.toNat ∧ lamp.toNat ≤ 254)) :
    ∃ lamps, lampsOf lamp = some lamps ∧ ∀ l : Fin 12, l ∈ lamps ↔ lamp = 255 ∨ lamp.toNat = l.val := by
  by_cases all : lamp = 255
  · exact ⟨List.finRange 12, if_pos all, fun l => iff_of_true (List.mem_finRange l) (.inl all)⟩
  · have below : lamp.toNat < 12 := by bv_omega
    refine ⟨[⟨lamp.toNat, below⟩], ?_, fun l => ?_⟩
    · rw [lampsOf, if_neg all, index?_some ⟨lamp.toNat, below⟩ rfl]
      rfl
    · simp only [List.mem_singleton, all, false_or, Fin.ext_iff, eq_comm]

theorem lampsOf_none {lamp : Byte} (h : 12 ≤ lamp.toNat ∧ lamp.toNat ≤ 254) : lampsOf lamp = none := by
  have single : lamp ≠ 255 := by bv_omega
  rw [lampsOf, if_neg single, index?_none h.1]
  rfl

/-- The claim a Lamp Set's mode asks for: 0 none, 1 ON, 2 FLASH (R137). -/
theorem linkMode_some {mode : Byte} (h : ¬ 2 < mode.toNat) :
    linkMode mode = some (if mode = 0 then none else if mode = 1 then some .on else some .flash) := by
  obtain rfl | rfl | rfl : mode = 0 ∨ mode = 1 ∨ mode = 2 := by bv_omega
  all_goals rfl

theorem linkMode_none {mode : Byte} (h : 2 < mode.toNat) : linkMode mode = none := by
  unfold linkMode
  split
  · omega
  · omega
  · omega
  · rfl

/-- The claims of one source set on several lamps: theirs are as set, every other claim and the rest of the state
stand (R132). -/
theorem foldl_setClaim (lamps : List (Fin 12)) (source : Fin 23) (m : Option LampMode) (s : State) :
    let u := lamps.foldl (fun s l => s.setClaim l source m) s
    (∀ (l : Fin 12) (c : Fin 23), u.lamp.claim l c = if c = source ∧ l ∈ lamps then m else s.lamp.claim l c) ∧
    u = { s with lamp := { s.lamp with claims := u.lamp.claims } } := by
  induction lamps generalizing s with
  | nil => exact ⟨fun l c => (if_neg fun h => List.not_mem_nil h.2).symm, rfl⟩
  | cons k lamps ih =>
    obtain ⟨claims, frame⟩ := ih (s.setClaim k source m)
    refine ⟨fun l c => ?_, frame⟩
    rw [List.foldl_cons, claims, State.setClaim_claim]
    by_cases hc : c = source
    · by_cases hl : l ∈ lamps
      · simp [hc, hl]
      · simp [hc, hl]
    · simp [hc]

theorem serveLampSet_bad {lamp mode : Byte} (s : State)
    (h : (12 ≤ lamp.toNat ∧ lamp.toNat ≤ 254) ∨ 2 < mode.toNat) :
    serveLampSet lamp mode s = refuse s .badArgument := by
  unfold serveLampSet
  split
  · next lamps m hlamps hm =>
    rcases h with h | h
    · cases hlamps.symm.trans (lampsOf_none h)
    · cases hm.symm.trans (linkMode_none h)
  · rfl

/-- Lamp Set sets the link's claim on the lamps named (R137). -/
theorem serveLampSet_good {lamp mode : Byte} {lamps : List (Fin 12)} {m : Option LampMode} (s : State)
    (hlamps : lampsOf lamp = some lamps) (hm : linkMode mode = some m) :
    serveLampSet lamp mode s = accepted (lamps.foldl (fun s l => s.setClaim l linkClaim m) s) := by
  simp only [serveLampSet, hlamps, hm]

theorem serveLampConfigure_bad {discrete : Byte} (s : State) (h : 12 ≤ discrete.toNat) (single : discrete ≠ 255) :
    serveLampConfigure discrete s = refuse s .badArgument := by
  have bad : 12 ≤ discrete.toNat ∧ discrete.toNat ≤ 254 := ⟨h, by bv_omega⟩
  rw [serveLampConfigure, optionalIndex_none bad]

theorem serveLampConfigure_good (d : Option (Fin 12)) (s : State) :
    serveLampConfigure (indexByte d) s = accepted { s with lamp := { s.lamp with dimming := d } } := by
  rw [serveLampConfigure, optionalIndex_indexByte]

/-! ## Lamp Read -/

/-- A row's members that have a property, gathered as bits with the first lowest, are the sum of their weights. -/
theorem foldr_row {α : Type} {n : Nat} (v : Vector α n) (p : α → Prop) [DecidablePred p] :
    v.toList.foldr (fun x acc => (if p x then 1 else 0) + 2 * acc) 0 =
      ((List.finRange n).map fun k => if p v[k] then 2 ^ k.val else 0).sum := by
  have row : v.toList = (List.finRange n).map fun k => v[k] := by
    refine List.ext_getElem (by simp) fun i h _ => ?_
    simp
  have bits := foldr_bits (fun k => if h : k < n then decide (p v[k]) else false) n
  rw [← List.map_coe_finRange_eq_range, List.map_map, List.map_map, List.foldr_map] at bits
  simpa [row, List.foldr_map, Function.comp_def] using bits

/-- The source codes that claim a mode of a lamp, code k in bit k (R139). -/
theorem claimMask_eq (u : LampUnit) (l : Fin 12) (m : LampMode) :
    claimMask u.claims[l] m =
      (let n := ((List.finRange 23).map fun c => if u.claim l c = some m then 2 ^ c.val else 0).sum
       [byte (n / 65536), byte (n / 256), byte n]) := by
  unfold claimMask
  rw [foldr_row u.claims[l] fun c => c = some m]
  rfl

theorem byte_lampCode (x : LampState) :
    byte (lampCode x) = match x with | .off => (0 : Byte) | .on => 1 | .flash => 2 := by
  cases x <;> rfl

theorem serveLampRead_bad {lamp : Byte} (s : State) (h : 11 < lamp.toNat) :
    serveLampRead lamp s = refuse s .badArgument := by
  rw [serveLampRead, index?_none h]

/-- Lamp Read's data: the lamps, the bulb check, the flash half, the dimming, and the claims on the lamp (R139). -/
theorem serveLampRead_good {lamp : Byte} {l : Fin 12} (s : State) (h : lamp.toNat = l.val) :
    serveLampRead lamp s = reading s
      (((List.finRange 12).map fun k => match s.lamp.state k with | .off => (0 : Byte) | .on => 1 | .flash => 2) ++
        (match s.lamp.bulbCheck with | none => [(0 : Byte), 0, 0] | some n => 1 :: bytes2 n) ++
        [match s.lamp.flash with | some f => if f.lit then (0 : Byte) else 1 | none => 2,
         match s.lamp.dimming with | some d => byte d.val | none => 255, byte s.lamp.duty, lamp] ++
        [LampMode.on, LampMode.flash].flatMap fun m =>
          let n := ((List.finRange 23).map fun c => if s.lamp.claim l c = some m then 2 ^ c.val else 0).sum
          [byte (n / 65536), byte (n / 256), byte n]) := by
  have named : byte l.val = lamp := by rw [← h, byte, BitVec.ofNat_toNat, BitVec.setWidth_eq]
  have check : [mark s.lamp.bulbCheck.isSome] ++ bytes2 (s.lamp.bulbCheck.getD 0) =
      match s.lamp.bulbCheck with | none => [(0 : Byte), 0, 0] | some n => 1 :: bytes2 n := by
    cases s.lamp.bulbCheck <;> rfl
  have dimming : indexByte s.lamp.dimming = match s.lamp.dimming with | some d => byte d.val | none => 255 := by
    cases s.lamp.dimming <;> rfl
  rw [serveLampRead, index?_some l h]
  simp only [byte_lampCode, claimMask_eq, named, ← check, ← dimming, List.flatMap_cons, List.flatMap_nil,
    List.append_assoc, List.append_nil, List.cons_append, List.nil_append]
  cases s.lamp.flash with
  | none => rfl
  | some f => rfl

/-! ## The trip requests -/

theorem serveTripReset_bad {selector : Byte} (s : State) (h : selector.toNat = 0 ∨ 3 < selector.toNat) :
    serveTripReset selector s = refuse s .badArgument := by
  unfold serveTripReset
  split
  · omega
  · omega
  · omega
  · rfl

/-- Trip Reset zeroes Trip A but at selector 2, and Trip B but at selector 1 (R66). -/
theorem serveTripReset_good {selector : Byte} (s : State) (low : 1 ≤ selector.toNat) (high : selector.toNat ≤ 3) :
    serveTripReset selector s = accepted { s with trip := { s.trip with
      a := if selector = 2 then s.trip.a else s.trip.a.zeroed,
      b := if selector = 1 then s.trip.b else s.trip.b.zeroed } } := by
  obtain rfl | rfl | rfl : selector = 1 ∨ selector = 2 ∨ selector = 3 := by bv_omega
  all_goals rfl

/-- A Trip Control action runs or pauses the trip, or leaves it (R67). -/
theorem Trip.act_eq (x : Trip) (action : Byte) :
    x.act action = { x with paused := if action = 1 then false else if action = 2 then true else x.paused } := by
  unfold Trip.act
  split
  · next h =>
    obtain rfl : action = 1 := BitVec.eq_of_toNat_eq h
    rfl
  · next h =>
    obtain rfl : action = 2 := BitVec.eq_of_toNat_eq h
    rfl
  · next run pause =>
    rw [if_neg fun h => run (congrArg BitVec.toNat h), if_neg fun h => pause (congrArg BitVec.toNat h)]

theorem serveTripControl_good {actionA actionB hours : Byte} (s : State)
    (h : ¬ (2 < actionA.toNat ∨ 2 < actionB.toNat ∨ (25 ≤ hours.toNat ∧ hours.toNat ≤ 254))) :
    serveTripControl actionA actionB hours s = accepted { s with trip := { s.trip with
      a := s.trip.a.act actionA, b := s.trip.b.act actionB,
      hours := if hours.toNat ≤ 24 then hours.toNat else s.trip.hours } } := by
  have kept : hours = 255 ↔ ¬ hours.toNat ≤ 24 := by
    have := hours.isLt
    bv_omega
  unfold serveTripControl
  rw [if_neg h]
  simp only [kept, ite_not]

/-- A trip's record with its figures written out (R69, R70). -/
theorem Trip.record_eq (x : Trip) :
    x.record =
      bytes4 x.distance ++ bytes4 x.fuel ++ bytes4 x.seconds ++
        [BitVec.ofNat 8 ((if x.paused then 1 else 0) + (if x.saturated then 2 else 0))] ++
        bytes2 (if x.seconds < 60 then 65535
                else min ((2 * (x.distance * 360) + x.seconds) / (2 * x.seconds)) 3000) ++
        bytes2 (if x.distance < 100 then 65535
                else min ((2 * (x.fuel * 100) + x.distance) / (2 * x.distance)) 999) ++
        bytes4 ((2 * x.fuel + 100) / 200) := by
  have speed : x.averageSpeed.getD 65535 = if x.seconds < 60 then 65535
      else min ((2 * (x.distance * 360) + x.seconds) / (2 * x.seconds)) 3000 := by
    unfold Trip.averageSpeed
    split <;> rfl
  have consumption : x.averageConsumption.getD 65535 = if x.distance < 100 then 65535
      else min ((2 * (x.fuel * 100) + x.distance) / (2 * x.distance)) 999 := by
    unfold Trip.averageConsumption
    split <;> rfl
  simp only [Trip.record, optional2, speed, consumption, flagByte_pair]
  rfl

/-- The raw range as Trip Read gives it, all ones without a fuel level (R70, R75). -/
theorem State.rawRangeNow_read (s : State) :
    s.rawRangeNow.getD 65535 =
      (let level := s.channels.records[(2 : Fin 16)]
       if level.validity = .fault ∨ level.validity = .absent then 65535
       else if level.value ≤ s.consts.reserve then 0
       else if s.trip.rbFuel = 0 then 1999
       else min ((level.value - s.consts.reserve) * s.trip.rbDist / s.trip.rbFuel) 1999) := by
  unfold State.rawRangeNow
  dsimp only [State.measured]
  split <;> rfl

theorem serveTripRead_bad {selector : Byte} (s : State) (h : 2 < selector.toNat) :
    serveTripRead selector s = refuse s .badArgument := by
  unfold serveTripRead
  split
  · omega
  · omega
  · omega
  · rfl

/-- Settles O59: each request is served at once, refused or carried out by its service's lemmas. -/
theorem lampAndTripRequests : Obligations.LampAndTripRequests := by
  intro s hs t
  have htrip : t.trip = s.trip := by simp [t]
  have hchannels : t.channels = s.channels := by simp [t]
  have hconsts : t.consts = s.consts := by simp [t]
  have hclaim : ∀ l c, t.lamp.claim l c = s.lamp.claim l c := s.frameActivity_claim
  refine ⟨fun lamp mode => ?_, fun discrete => ?_, fun lamp => ?_, fun selector => ?_, fun actionA actionB hours => ?_,
    fun selector => ?_⟩
  · refine ⟨fun h => exec_badArgument hs rfl rfl (serveLampSet_bad t h), fun h => ?_⟩
    obtain ⟨named, sound⟩ := not_or.mp h
    obtain ⟨lamps, hlamps, mem⟩ := lampsOf_named named
    have served := serveLampSet_good t hlamps (linkMode_some sound)
    obtain ⟨claims, frame⟩ := foldl_setClaim lamps linkClaim _ t
    refine ⟨_, exec_accepted hs rfl rfl served, fun l c => ?_, frame⟩
    rw [claims, hclaim]
    exact if_congr (and_congr Fin.ext_iff (mem l)) rfl rfl
  · refine ⟨fun h single => exec_badArgument hs rfl rfl (serveLampConfigure_bad t h single), fun d hd => ?_⟩
    subst hd
    exact exec_accepted hs rfl rfl (serveLampConfigure_good d t)
  · refine ⟨fun h => exec_badArgument hs rfl rfl (serveLampRead_bad t h), fun l hl => ?_⟩
    exact exec_reading hs rfl rfl (serveLampRead_good t hl)
  · intro zero
    refine ⟨fun h => ?_, fun low high => ?_⟩
    · have bad := h.imp_left (toNat_eq_zero_iff selector).mpr
      exact exec_badArgument hs rfl rfl (serveTripReset_bad t bad)
    · have served := serveTripReset_good t low high
      rw [htrip] at served
      exact exec_accepted hs rfl rfl served
  · intro bad act
    refine ⟨fun h => exec_badArgument hs rfl rfl (if_pos h), fun h => ?_⟩
    have served := serveTripControl_good t h
    simp only [htrip, Trip.act_eq] at served
    exact exec_accepted hs rfl rfl served
  · intro record level raw
    refine ⟨fun h => exec_badArgument hs rfl rfl (serveTripRead_bad t h), ?_, ?_, ?_⟩
    · rintro rfl
      have served : serveTripRead 0 t = reading t t.trip.a.record := rfl
      rw [htrip, Trip.record_eq] at served
      exact exec_reading hs rfl rfl served
    · rintro rfl
      have served : serveTripRead 1 t = reading t t.trip.b.record := rfl
      rw [htrip, Trip.record_eq] at served
      exact exec_reading hs rfl rfl served
    · rintro rfl
      have served : serveTripRead 2 t = reading t (bytes2 t.trip.rbDist ++ bytes4 t.trip.rbFuel ++
          bytes2 (t.rawRangeNow.getD 65535) ++ bytes2 (t.trip.presented.getD 65535) ++ [byte t.trip.history.length] ++
          bytes4 t.trip.history.sum) := rfl
      rw [State.rawRangeNow_read, htrip, hchannels, hconsts] at served
      exact exec_reading hs rfl rfl served

end Sys2Proof.Machine
end

section
/-!
SUPPORT: one motion step of one gauge, an equation for each way it can move (R80 to R83), and what its arrival changes
(R90, R93).
-/
namespace Sys2Proof.Machine

theorem distance_eq_zero (a b : Nat) : distance a b = 0 ↔ a = b := by
  unfold distance
  omega

/-! ## The move -/

/-- The rate of a gauge that does not turn (R82): that of a start at r_lo, or the one its braking distance asks for. -/
def Gauge.rate (g : Gauge) : Nat := if g.v = 0 then g.config.rLo else g.nextRate

theorem Gauge.behind_iff (g : Gauge) :
    g.behind = true ↔ 0 < g.v ∧ ((g.down = true ∧ g.p < g.target) ∨ (g.down = false ∧ g.target < g.p)) := by
  unfold Gauge.behind
  cases g.down <;> simp

theorem Gauge.limited_behind_iff (g : Gauge) :
    g.limited.behind = true ↔
      0 < g.limited.v ∧ ((g.down = true ∧ g.p < g.target) ∨ (g.down = false ∧ g.target < g.p)) :=
  Gauge.behind_iff g.limited

/-- A gauge that is slow enough turns by stopping (R81). -/
theorem Gauge.move_stop {g : Gauge} (hb : g.limited.behind = true)
    (hv : g.limited.v ≤ g.config.accel + g.config.rLo) : g.move = { g with v := 0 } :=
  (if_pos hb).trans (if_pos hv)

/-- A faster one slows by its acceleration and carries on (R81). -/
theorem Gauge.move_slow {g : Gauge} (hb : g.limited.behind = true)
    (hv : g.config.accel + g.config.rLo < g.limited.v) :
    g.move = Gauge.carryOn { g with v := g.limited.v - g.config.accel } :=
  (if_pos hb).trans (if_neg (Nat.not_le.mpr hv))

/-- A gauge at rest on its target stands (R82). -/
theorem Gauge.move_rest {g : Gauge} (hb : ¬ g.limited.behind = true) (hv : g.limited.v = 0) (hp : g.p = g.target) :
    g.move = { g with v := 0 } := by
  have still : g.limited.ahead = g.limited := (if_pos hv).trans (if_pos hp)
  rw [Gauge.move, if_neg hb, still, ← hv]
  rfl

/-- A gauge off its target, or one that moves, approaches it at its rate, a start turning it toward it (R82). -/
theorem Gauge.move_approach {g : Gauge} (hb : ¬ g.limited.behind = true)
    (hv : g.limited.v ≠ 0 ∨ g.p ≠ g.target) :
    g.move = Gauge.approach { g with
      v := g.limited.rate,
      down := if g.limited.v = 0 ∧ g.p ≠ g.target then decide (g.target < g.p) else g.down } := by
  refine (if_neg hb).trans ?_
  unfold Gauge.ahead Gauge.rate
  by_cases h : g.limited.v = 0
  · have hp := hv.resolve_left (not_not.mpr h)
    have hp' : ¬ g.limited.p = g.limited.target := hp
    simp only [h, hp, hp', if_true, if_false, ne_eq, not_false_eq_true, and_self]
    rfl
  · simp only [h, if_false, false_and]
    rfl

/-! ## What a move leaves, and where it ends -/

theorem Gauge.carryOn_keeps (g : Gauge) :
    g.carryOn.config = g.config ∧ g.carryOn.mode = g.mode ∧ g.carryOn.target = g.target := by
  unfold Gauge.carryOn
  repeat' split
  all_goals exact ⟨rfl, rfl, rfl⟩

theorem Gauge.approach_keeps (g : Gauge) :
    g.approach.config = g.config ∧ g.approach.mode = g.mode ∧ g.approach.target = g.target := by
  unfold Gauge.approach
  repeat' split
  all_goals exact ⟨rfl, rfl, rfl⟩

/-- A move in the gauge's direction goes its whole rate, or stops at the limit of travel (R83). -/
theorem Gauge.carryOn_spec (g : Gauge) :
    g.carryOn.down = g.down ∧
    (g.down = true → g.v ≤ g.p → g.carryOn.p = g.p - g.v ∧ g.carryOn.v = g.v) ∧
    (g.down = true → g.p < g.v → g.carryOn.p = 0 ∧ g.carryOn.v = 0) ∧
    (g.down = false → g.p + g.v ≤ 16383 → g.carryOn.p = g.p + g.v ∧ g.carryOn.v = g.v) ∧
    (g.down = false → 16383 < g.p + g.v → g.carryOn.p = 16383 ∧ g.carryOn.v = 0) := by
  unfold Gauge.carryOn topPosition
  cases hd : g.down
  · by_cases h : 16383 < g.p + g.v
    · simp [h, Nat.not_le.mpr h]
    · simp [h, Nat.le_of_not_lt h]
  · by_cases h : g.p < g.v
    · simp [h, Nat.not_le.mpr h]
    · simp [h, Nat.le_of_not_lt h]

/-- An approach ends on a target within its rate, and else goes its whole rate (R82). -/
theorem Gauge.approach_spec (g : Gauge) :
    g.approach.down = g.down ∧
    (distance g.target g.p ≤ g.v → g.approach.p = g.target ∧ g.approach.v = 0) ∧
    (g.v < distance g.target g.p →
      g.approach.v = g.v ∧ g.approach.p = if g.down then g.p - g.v else g.p + g.v) := by
  unfold Gauge.approach
  by_cases h : distance g.target g.p ≤ g.v
  · simp [h, Nat.not_lt.mpr h]
  · cases hd : g.down <;> simp [h]

/-- Every move is one of its four kinds (R81, R82). -/
theorem Gauge.move_cases (g : Gauge) :
    g.move = { g with v := 0 } ∨
    (g.limited.behind = true ∧ g.move = Gauge.carryOn { g with v := g.limited.v - g.config.accel }) ∨
    (¬ g.limited.behind = true ∧ g.move = Gauge.approach { g with
      v := g.limited.rate,
      down := if g.limited.v = 0 ∧ g.p ≠ g.target then decide (g.target < g.p) else g.down }) := by
  by_cases hb : g.limited.behind = true
  · rcases Nat.lt_or_ge (g.config.accel + g.config.rLo) g.limited.v with hv | hv
    · exact .inr (.inl ⟨hb, Gauge.move_slow hb hv⟩)
    · exact .inl (Gauge.move_stop hb hv)
  · by_cases hv : g.limited.v = 0 ∧ g.p = g.target
    · exact .inl (Gauge.move_rest hb hv.1 hv.2)
    · exact .inr (.inr ⟨hb, Gauge.move_approach hb (not_and_or.mp hv)⟩)

theorem Gauge.move_keeps (g : Gauge) :
    g.move.config = g.config ∧ g.move.mode = g.mode ∧ g.move.target = g.target := by
  rcases g.move_cases with h | ⟨-, h⟩ | ⟨-, h⟩ <;> rw [h]
  · exact ⟨rfl, rfl, rfl⟩
  · exact Gauge.carryOn_keeps _
  · exact Gauge.approach_keeps _

/-- A rate is at most r_hi, when r_lo is (R81, R82, R95). -/
theorem Gauge.limited_rate_le {g : Gauge} (h : g.config.rLo ≤ g.config.rHi) : g.limited.rate ≤ g.config.rHi := by
  have limit : g.limited.v ≤ g.config.rHi := Nat.min_le_right _ _
  unfold Gauge.rate Gauge.nextRate
  split
  · exact h
  split
  · exact Nat.max_le.mpr ⟨(Nat.sub_le _ _).trans limit, h⟩
  · exact Nat.min_le_right _ _

/-- Within `r` of a position `p` on the scale, itself on the scale (R83). -/
def inReach (r p q : Nat) : Prop := q ≤ 16383 ∧ q ≤ p + r ∧ p ≤ q + r

theorem inReach_self (r : Nat) {p : Nat} (h : p ≤ 16383) : inReach r p p :=
  ⟨h, Nat.le_add_right p r, Nat.le_add_right p r⟩

/-- A move in the gauge's direction stays on the scale and goes no further than its rate (R83). -/
theorem Gauge.carryOn_inReach {g : Gauge} (hp : g.p ≤ 16383) {r : Nat} (hv : g.v ≤ r) :
    inReach r g.p g.carryOn.p := by
  unfold inReach Gauge.carryOn topPosition
  repeat' split
  all_goals dsimp only
  all_goals omega

/-- An approach that does not lead away from its target stays on the scale and goes no further than its rate (R82). -/
theorem Gauge.approach_inReach {g : Gauge} (hp : g.p ≤ 16383) (ht : g.target ≤ 16383) {r : Nat} (hv : g.v ≤ r)
    (up : g.down = false → g.p ≤ g.target) : inReach r g.p g.approach.p := by
  unfold inReach Gauge.approach distance
  repeat' split
  · dsimp only
    omega
  · dsimp only
    omega
  · next h hd =>
    have := up (by simpa using hd)
    dsimp only
    omega

/-- No move leaves the scale or goes beyond r_hi (R81 to R83). -/
theorem Gauge.move_inReach {g : Gauge} (hg : g.sound) : inReach g.config.rHi g.p g.move.p := by
  obtain ⟨hp, ht, -, hr⟩ := hg
  have limit : g.limited.v ≤ g.config.rHi := Nat.min_le_right _ _
  rcases g.move_cases with h | ⟨-, h⟩ | ⟨hb, h⟩ <;> rw [h]
  · exact inReach_self _ hp
  · exact Gauge.carryOn_inReach (g := { g with v := g.limited.v - g.config.accel }) hp
      ((Nat.sub_le _ _).trans limit)
  · refine Gauge.approach_inReach (g := { g with
      v := g.limited.rate, down := if g.limited.v = 0 ∧ g.p ≠ g.target then decide (g.target < g.p) else g.down })
      hp ht (Gauge.limited_rate_le hr) fun hd => ?_
    dsimp only at hd ⊢
    split at hd
    · exact Nat.le_of_not_lt (of_decide_eq_false hd)
    · next started =>
      rw [Gauge.limited_behind_iff] at hb
      by_contra past
      exact hb ⟨by omega, .inr ⟨hd, Nat.lt_of_not_le past⟩⟩

/-- The move of a gauge toward its adopted target, case by case (R81 to R83). -/
theorem Gauge.move_spec (g : Gauge) :
    let v := min g.v g.config.rHi
    let a := g.config.accel
    let lo := g.config.rLo
    let d := (g.target - g.p) + (g.p - g.target)
    let behind := 0 < v ∧ ((g.down = true ∧ g.p < g.target) ∨ (g.down = false ∧ g.target < g.p))
    let down := if v = 0 ∧ d ≠ 0 then decide (g.target < g.p) else g.down
    let rate := if v = 0 then lo else if d ≤ braking a lo v v then max (v - a) lo else min (v + a) g.config.rHi
    (behind → v ≤ a + lo → g.move.p = g.p ∧ g.move.v = 0 ∧ g.move.down = g.down) ∧
    (behind → a + lo < v → g.move.down = g.down ∧
      (g.down = true → v - a ≤ g.p → g.move.p = g.p - (v - a) ∧ g.move.v = v - a) ∧
      (g.down = true → g.p < v - a → g.move.p = 0 ∧ g.move.v = 0) ∧
      (g.down = false → g.p + (v - a) ≤ 16383 → g.move.p = g.p + (v - a) ∧ g.move.v = v - a) ∧
      (g.down = false → 16383 < g.p + (v - a) → g.move.p = 16383 ∧ g.move.v = 0)) ∧
    (¬ behind → v = 0 → d = 0 → g.move.p = g.p ∧ g.move.v = 0 ∧ g.move.down = g.down) ∧
    (¬ behind → (v ≠ 0 ∨ d ≠ 0) → g.move.down = down ∧
      (d ≤ rate → g.move.p = g.target ∧ g.move.v = 0) ∧
      (rate < d → g.move.v = rate ∧ g.move.p = if down then g.p - rate else g.p + rate)) := by
  intro v a lo d behind down rate
  have behind_iff : g.limited.behind = true ↔ behind := g.limited_behind_iff
  have off : d ≠ 0 ↔ g.p ≠ g.target := (distance_eq_zero g.target g.p).not.trans eq_comm.not
  refine ⟨fun hb hv => ?_, fun hb hv => ?_, fun hb hv hd => ?_, fun hb hv => ?_⟩
  · rw [Gauge.move_stop (behind_iff.mpr hb) hv]
    exact ⟨rfl, rfl, rfl⟩
  · rw [Gauge.move_slow (behind_iff.mpr hb) hv]
    exact Gauge.carryOn_spec _
  · rw [Gauge.move_rest (behind_iff.not.mpr hb) hv ((distance_eq_zero _ _).mp hd).symm]
    exact ⟨rfl, rfl, rfl⟩
  · rw [Gauge.move_approach (behind_iff.not.mpr hb) (hv.imp_right off.mp)]
    simp only [← off]
    exact Gauge.approach_spec _

end Sys2Proof.Machine
end

section
/-!
SUPPORT and proof: a motion step of the six gauges (R79 to R86, R90, R92).
-/
namespace Sys2Proof.Machine

/-! ## The mode a step starts in -/

theorem State.bound_iff (s : State) (g : Gauge) :
    s.bound g = true ↔ g.config.source ≠ none ∧ s.curveOf g.config.curve ≠ [] := by
  simp [State.bound, Option.isSome_iff_ne_none]

/-- A gauge that a motion step moves: from PARKED it sets out in TRACKING, at rest (R86). -/
def Gauge.setOut (g : Gauge) : Gauge :=
  { g with mode := if g.mode = .parked then .tracking else g.mode, v := if g.mode = .parked then 0 else g.v }

theorem Gauge.setOut_of_ne {g : Gauge} (h : g.mode ≠ .parked) : g.setOut = g := by
  simp [Gauge.setOut, h]

theorem Gauge.setOut_mode_ne (g : Gauge) : g.setOut.mode ≠ .parked := by
  by_cases h : g.mode = .parked
  · simp [Gauge.setOut, h]
  · rwa [Gauge.setOut_of_ne h]

/-- A gauge stands in a motion step when it is PARKED, unless it is bound in RUN (R86). -/
def State.stays (s : State) (g : Gauge) : Prop := g.mode = .parked ∧ ¬ (s.power.state = .run ∧ s.bound g = true)

/-- A motion step in RUN parks a gauge that is not bound, nor RETURNING (R85). -/
def State.parks (s : State) (g : Gauge) : Prop :=
  s.power.state = .run ∧ ¬ s.bound g = true ∧ g.mode ≠ .parked ∧ g.mode ≠ .returning

theorem State.stepMode_run {s : State} (h : s.power.state = .run) (g : Gauge) :
    s.stepMode g =
      if s.bound g then (if g.mode = .parked then { g with mode := .tracking, v := 0 } else g)
      else if g.inSweep ∨ g.mode = .tracking then g.park else g :=
  if_pos (beq_iff_eq.mpr h)

theorem State.stepMode_off {s : State} (h : s.power.state ≠ .run) (g : Gauge) : s.stepMode g = g :=
  if_neg (beq_iff_eq.not.mpr h)

theorem Gauge.moving_iff (g : Gauge) :
    (g.inSweep = true ∨ g.mode = .tracking) ↔ g.mode ≠ .parked ∧ g.mode ≠ .returning := by
  cases h : g.mode <;> simp [Gauge.inSweep, h]

theorem State.stepMode_stays {s : State} {g : Gauge} (h : s.stays g) : s.stepMode g = g := by
  obtain ⟨parked, h⟩ := h
  by_cases run : s.power.state = .run
  · rw [State.stepMode_run run, if_neg fun b => h ⟨run, b⟩, if_neg fun m => (g.moving_iff.mp m).1 parked]
  · exact State.stepMode_off run g

theorem State.stepMode_parks {s : State} {g : Gauge} (h : s.parks g) : s.stepMode g = g.park := by
  obtain ⟨run, unbound, moving⟩ := h
  rw [State.stepMode_run run, if_neg unbound, if_pos (g.moving_iff.mpr moving)]

theorem State.stepMode_moves {s : State} {g : Gauge} (stays : ¬ s.stays g) (parks : ¬ s.parks g) :
    s.stepMode g = g.setOut := by
  by_cases parked : g.mode = .parked
  · obtain ⟨run, bound⟩ := not_not.mp fun h => stays ⟨parked, h⟩
    rw [State.stepMode_run run, if_pos bound, if_pos parked]
    simp [Gauge.setOut, parked]
  · rw [Gauge.setOut_of_ne parked]
    by_cases run : s.power.state = .run
    · rw [State.stepMode_run run, if_neg parked]
      split
      · rfl
      · next unbound => exact if_neg fun m => parks ⟨run, unbound, g.moving_iff.mp m⟩
    · exact State.stepMode_off run g

/-! ## The demand and its adoption -/

/-- The demanded target in TRACKING, by the source's presented value and validity (R79). -/
theorem State.trackingDemand_eq (s : State) (c : GaugeConfig) :
    s.trackingDemand c =
      match c.source with
      | none => c.restTarget
      | some ch =>
        let value := (s.channels.records[ch].presented).1
        match (s.channels.records[ch].presented).2 with
        | .absent => c.restTarget
        | .fault => if c.faultRest then c.restTarget else s.shown c value
        | _ => s.shown c value := by
  unfold State.trackingDemand
  cases c.source with
  | none => rfl
  | some ch =>
    dsimp only
    obtain ⟨value, validity⟩ := s.channels.records[ch].presented
    cases validity <;> rfl

/-- The demand is adopted, but for the deadband of a gauge at rest in TRACKING (R80). -/
theorem Gauge.adopt_eq (g : Gauge) (demand : Nat) :
    g.adopt demand = { g with
      target := if g.mode = .tracking ∧ g.v = 0 ∧ 0 < distance demand g.p ∧
        distance demand g.p < g.config.deadband * 16 then g.p else demand } := by
  unfold Gauge.adopt
  split <;> rfl

/-! ## Arrival -/

theorem Gauge.arrived_iff (g : Gauge) : g.arrived = true ↔ g.v = 0 ∧ g.p = g.target := by
  simp [Gauge.arrived]

/-- A gauge's coils follow the position it has moved to, and its arrival there changes the sweep modes and parks a
RETURNING gauge, whose coils go to a duty of 0; position, rate, direction, target and settings stay (R84, R90, R93). -/
theorem Gauge.drive_arrive {g : Gauge} (h : g.mode ≠ .parked) :
    let g' := g.drive.arrive
    g'.p = g.p ∧ g'.v = g.v ∧ g'.down = g.down ∧ g'.target = g.target ∧ g'.config = g.config ∧
    g'.mode = (if g.v = 0 ∧ g.p = g.target then
      (match g.mode with
       | .sweepUp => .sweepDown
       | .sweepDown => .tracking
       | .returning => .parked
       | m => m) else g.mode) ∧
    g'.sine = (if g'.mode = .parked then (coilAt (angleCount g.p)).rested else coilAt (angleCount g.p)) ∧
    g'.cosine = (if g'.mode = .parked then (coilAt (angleCount g.p + 256)).rested
      else coilAt (angleCount g.p + 256)) := by
  have arrived : g.drive.arrived = true ↔ g.v = 0 ∧ g.p = g.target := g.drive.arrived_iff
  unfold Gauge.arrive
  simp only [arrived]
  split
  · next at_rest => cases hm : g.mode <;> simp [Gauge.drive, Gauge.park, at_rest, hm] at h ⊢
  · simp [Gauge.drive, h]

/-! ## One gauge -/

/-- The gauge that a step moves, its demand adopted. -/
def State.aimed (s : State) (g : Gauge) : Gauge := g.setOut.adopt (s.demand g.setOut)

theorem State.aimed_keeps (s : State) (g : Gauge) :
    (s.aimed g).config = g.config ∧ (s.aimed g).mode = g.setOut.mode ∧ (s.aimed g).p = g.p := by
  unfold State.aimed
  rw [Gauge.adopt_eq]
  exact ⟨rfl, rfl, rfl⟩

/-- A motion step of a gauge leaves it as it stands, parks it, or moves it toward its demand (R81, R85, R86). -/
theorem State.steppedGauge_stays {s : State} {g : Gauge} (h : s.stays g) : s.steppedGauge g = g := by
  unfold State.steppedGauge
  rw [State.stepMode_stays h]
  exact if_pos h.1

theorem State.steppedGauge_parks {s : State} {g : Gauge} (h : s.parks g) : s.steppedGauge g = g.park := by
  unfold State.steppedGauge
  rw [State.stepMode_parks h]
  exact if_pos rfl

theorem State.steppedGauge_moves {s : State} {g : Gauge} (stays : ¬ s.stays g) (parks : ¬ s.parks g) :
    s.steppedGauge g = (s.aimed g).move.drive.arrive := by
  unfold State.steppedGauge
  rw [State.stepMode_moves stays parks]
  exact if_neg g.setOut_mode_ne

/-! ## The six gauges -/

theorem State.motionStep_idle {s : State} (h : s.gauge.clock < 10) : s.motionStep = s := by
  simp [State.motionStep, State.motionDue, Nat.not_le.mpr h]

/-- The gauges and the completed mask once the gauges have stepped (R81, R90). -/
def State.gaugesStepped (s : State) : State :=
  { s with gauge := { s.gauge with
      gauges := vmap s.steppedGauge s.gauge.gauges,
      sweep := { s.gauge.sweep with
        completed := markCompleted s.gauge.gauges (vmap s.steppedGauge s.gauge.gauges) s.gauge.sweep.completed },
      clock := s.gauge.clock - 10 } }

theorem State.motionStep_due {s : State} (h : 10 ≤ s.gauge.clock) : s.motionStep = s.gaugesStepped.checkSweep :=
  if_pos (decide_eq_true h)

theorem State.gaugesStepped_gauge (s : State) (k : Fin 6) :
    s.gaugesStepped.gauge.gauges[k] = s.steppedGauge s.gauge.gauges[k] := vmap_get _ _ k

theorem State.gaugesStepped_completed (s : State) (k : Fin 6) :
    s.gaugesStepped.gauge.sweep.completed[k] =
      (s.gauge.sweep.completed[k] ||
        (decide (s.gauge.gauges[k].mode = .sweepDown) &&
          decide (s.gaugesStepped.gauge.gauges[k].mode = .tracking))) := by
  refine (ofRange_get _ _ k).trans ?_
  rfl

/-- The check for the sweep's close touches the sweep and the Notice Queue alone, and no completed mark (R92). -/
theorem State.checkSweep_touches (s : State) : ∃ (w : Sweep) (q : List Notice),
    s.checkSweep = { s with gauge := { s.gauge with sweep := w }, notices := q } ∧
    w.completed = s.gauge.sweep.completed ∧
    (let closes := s.gauge.sweep.isOpen = true ∧ ∀ k : Fin 6, s.gauge.gauges[k].mode ≠ .armed ∧
       s.gauge.gauges[k].mode ≠ .sweepUp ∧ s.gauge.gauges[k].mode ≠ .sweepDown
     w = (if closes then { s.gauge.sweep with isOpen := false, delayTimer := none, timeout := none }
       else s.gauge.sweep) ∧
     q = (if closes then (s.notify .sweep (sweepValue s.gauge.sweep)).notices else s.notices)) := by
  rw [State.checkSweep_eq]
  dsimp only
  split
  · exact ⟨{ s.gauge.sweep with isOpen := false, delayTimer := none, timeout := none }, _, rfl, rfl, rfl, rfl⟩
  · exact ⟨s.gauge.sweep, s.notices, rfl, rfl, rfl, rfl⟩

/-- Settles O36: each gauge by the branch it takes, and the sweep by its check. -/
theorem gaugeMotionStep : Obligations.GaugeMotionStep := by
  intro s hs
  rw [exec_gaugeMotionStep hs]
  refine ⟨fun idle => congrArg _ (State.motionStep_idle idle), fun due => ⟨_, rfl, ?_⟩⟩
  rw [State.motionStep_due due]
  obtain ⟨w, q, checked, completed, hw, hq⟩ := s.gaugesStepped.checkSweep_touches
  rw [checked]
  refine ⟨fun k => ?_, fun k => ?_, ?_, ?_⟩
  · intro g g' run bound still parks off
    have hg : g' = s.steppedGauge g := s.gaugesStepped_gauge k
    have stays_iff : s.stays g ↔ still := and_congr_right' (and_congr_right' (s.bound_iff g)).not
    have parks_iff : s.parks g ↔ parks := and_congr_right' (and_congr_left' (s.bound_iff g).not)
    refine ⟨fun h => ?_, fun h => ?_, fun notStill notParks => ?_⟩
    · exact hg.trans (State.steppedGauge_stays (stays_iff.mpr h))
    · exact hg.trans (State.steppedGauge_parks (parks_iff.mpr h))
    · intro mode v0 rest y curve tracked demand far T v a lo d behind down rate
      have demanded : s.demand { g with mode := mode, v := v0 } = demand := by
        clear_value mode v0
        cases mode
        case tracking => exact s.trackingDemand_eq g.config
        all_goals rfl
      let aimed : Gauge := { g with mode := mode, v := v0, target := T }
      have haimed : s.aimed g = aimed := (congrArg g.setOut.adopt demanded).trans (g.setOut.adopt_eq demand)
      have moved := State.steppedGauge_moves (stays_iff.not.mpr notStill) (parks_iff.not.mpr notParks)
      rw [← hg, haimed] at moved
      obtain ⟨stop, slow, stand, approach⟩ := aimed.move_spec
      obtain ⟨hconfig, hmode, htarget⟩ := aimed.move_keeps
      have running : aimed.move.mode ≠ .parked := hmode ▸ g.setOut_mode_ne
      obtain ⟨p, v, down, target, config, arrived, sine, cosine⟩ := Gauge.drive_arrive running
      rw [← moved] at p v down target config arrived sine cosine
      clear_value g'
      rw [hmode, htarget, ← p, ← v] at arrived
      rw [← p] at sine cosine
      rw [← p, ← v, ← down] at stop slow stand approach
      exact ⟨stop, slow, stand, approach, arrived, target.trans htarget, config.trans hconfig, sine, cosine⟩
  · exact (congrArg (·[k]) completed).trans (s.gaugesStepped_completed k)
  · dsimp only
    rw [completed]
    exact ⟨hw, hq⟩
  · rfl

end Sys2Proof.Machine
end

section
/-!
SUPPORT: what leaves every gauge where it stands, which is every operation but a motion step and a power-on reset (R82,
R83, R87 to R93, R95, R96, R99).
-/
namespace Sys2Proof.Machine

/-! ## SYNC's settings -/

/-- A filter keeps its settings (R1, R89). -/
def PulseInput.SameSettings (p q : PulseInput) : Prop := q.filterOn = p.filterOn ∧ q.selection = p.selection

theorem PulseInput.edge_settings (p : PulseInput) (t : Stamp) : p.SameSettings (p.edge t) := ⟨rfl, rfl⟩

theorem PulseInput.enable_settings (p : PulseInput) (t : Stamp) : p.SameSettings (p.enable t) := ⟨rfl, rfl⟩

theorem PulseInput.disable_settings (p : PulseInput) : p.SameSettings p.disable := ⟨rfl, rfl⟩

theorem PulseInput.sample_settings (p : PulseInput) (b : Bool) (t : Stamp) : p.SameSettings (p.sample b t) := by
  unfold PulseInput.sample
  split <;> exact ⟨rfl, rfl⟩

theorem PulseInput.watch_settings (p : PulseInput) (e b : Bool) (t : Stamp) : p.SameSettings (p.watch e b t) := by
  unfold PulseInput.watch
  split
  · exact p.sample_settings b t
  · exact ⟨rfl, rfl⟩

theorem PulseInput.pull_settings (p : PulseInput) (run : Bool) (t : Stamp) : p.SameSettings (p.pull run t) := by
  obtain ⟨filterOn, selection⟩ := (p.watch run p.pin t).watch_settings run false t
  obtain ⟨filterOn', selection'⟩ := p.watch_settings run p.pin t
  exact ⟨filterOn.trans filterOn', selection.trans selection'⟩

theorem GaugeUnit.settle_settings (u : GaugeUnit) (t : Stamp) : u.sync.SameSettings (u.settle t).sync := by
  unfold GaugeUnit.settle PulseInput.SameSettings
  dsimp only
  split <;> simp

theorem GaugeUnit.sample_settings (u : GaugeUnit) (run others : Bool) (t : Stamp) :
    u.sync.SameSettings (u.sample run others t).sync := by
  obtain ⟨filterOn, selection⟩ := u.settle_settings t
  cases run
  · exact ⟨rfl, rfl⟩
  · exact ⟨(PulseInput.sampleEdges_filterOn _ _ _).trans filterOn,
      (PulseInput.sampleEdges_selection _ _ _).trans selection⟩

/-! ## Gauges that stand -/

/-- A gauge has not moved, and is sound if it was (R83). -/
structure Gauge.Stands (g h : Gauge) : Prop where
  p : h.p = g.p
  sound : g.sound → h.sound

theorem Gauge.Stands.refl (g : Gauge) : g.Stands g := ⟨rfl, id⟩

theorem Gauge.Stands.of_fields {g h : Gauge} (p : h.p = g.p) (target : h.target = g.target)
    (config : h.config = g.config) : g.Stands h :=
  ⟨p, fun sound => by unfold Gauge.sound; rwa [p, target, config]⟩

/-- The gauges have not moved and are sound if they were, and SYNC's filter keeps its settings (R83, R89). -/
structure GaugesStand (u v : GaugeUnit) : Prop where
  gauges : ∀ k : Fin 6, u.gauges[k].Stands v.gauges[k]
  sync : u.sync.SameSettings v.sync

theorem GaugesStand.refl (u : GaugeUnit) : GaugesStand u u := ⟨fun _ => .refl _, rfl, rfl⟩

theorem GaugesStand.of_eq {u v : GaugeUnit} (h : v = u) : GaugesStand u v := h ▸ .refl u

theorem GaugesStand.trans {u v w : GaugeUnit} (h : GaugesStand u v) (g : GaugesStand v w) : GaugesStand u w where
  gauges k := ⟨(g.gauges k).p.trans (h.gauges k).p, (g.gauges k).sound ∘ (h.gauges k).sound⟩
  sync := ⟨g.sync.1.trans h.sync.1, g.sync.2.trans h.sync.2⟩

/-- What leaves the gauges and SYNC's settings leaves the gauges standing. -/
theorem GaugesStand.of_sync {u v : GaugeUnit} (gauges : v.gauges = u.gauges) (sync : u.sync.SameSettings v.sync) :
    GaugesStand u v :=
  ⟨fun _ => gauges ▸ .refl _, sync⟩

theorem GaugesStand.gaugesSound {s t : State} (h : GaugesStand s.gauge t.gauge) (hs : s.gaugesSound) :
    t.gaugesSound := by
  obtain ⟨gauges, filterOn, selection⟩ := hs
  exact ⟨fun k => (h.gauges k).sound (gauges k), h.sync.1.trans filterOn, h.sync.2.trans selection⟩

/-! ## Changes of mode and settings -/

theorem Gauge.park_stands (g : Gauge) : g.Stands g.park := .of_fields rfl rfl rfl

theorem GaugeConfig.restTarget_le {c : GaugeConfig} (h : c.rest ≤ 1023) : c.restTarget ≤ 16383 := by
  unfold GaugeConfig.restTarget
  omega

/-- A gauge at RUN exit turns to its rest target, from where it stands (R93). -/
theorem Gauge.homeward_stands (g : Gauge) : g.Stands g.homeward := by
  unfold Gauge.homeward
  split
  · exact .refl g
  · exact ⟨rfl, fun ⟨p, _, rest, rates⟩ => ⟨p, GaugeConfig.restTarget_le rest, rest, rates⟩⟩

theorem State.enteredGauge_stands (s : State) (g : Gauge) : g.Stands (s.enteredGauge g) := by
  unfold State.enteredGauge
  split
  · exact .of_fields rfl rfl rfl
  · exact g.park_stands

/-- A gauge under new settings stands where it stood, the rest angle on the scale and r_hi not below r_lo (R95, R96). -/
theorem Gauge.configured_stands (g : Gauge) {c : GaugeConfig} (rest : c.rest ≤ 1023) (rates : c.rLo ≤ c.rHi) :
    g.Stands { g with config := c } :=
  ⟨rfl, fun ⟨p, target, _, _⟩ => ⟨p, target, rest, rates⟩⟩

theorem Gauge.configure_stands (g : Gauge) {c : GaugeConfig} (rest : c.rest ≤ 1023) (rates : c.rLo ≤ c.rHi) :
    g.Stands (g.configure c) := by
  obtain ⟨p, sound⟩ := g.configured_stands rest rates
  unfold Gauge.configure
  split
  · exact ⟨p, (Gauge.park_stands _).sound ∘ sound⟩
  · exact ⟨p, sound⟩

/-! ## The Gauge Unit's operations -/

theorem State.setSweep_stands (s : State) (w : Sweep) : GaugesStand s.gauge (s.setSweep w).gauge :=
  .of_sync rfl ⟨rfl, rfl⟩

theorem State.setSync_stands (s : State) {p : PulseInput} (h : s.gauge.sync.SameSettings p) :
    GaugesStand s.gauge (s.setSync p).gauge :=
  .of_sync rfl h

theorem State.setGauges_stands (s : State) {f : Gauge → Gauge} (h : ∀ g : Gauge, g.Stands (f g)) :
    GaugesStand s.gauge (s.setGauges (vmap f s.gauge.gauges)).gauge where
  gauges k := by
    have get : (s.setGauges (vmap f s.gauge.gauges)).gauge.gauges[k] = f s.gauge.gauges[k] := vmap_get _ _ k
    exact get ▸ h _
  sync := ⟨rfl, rfl⟩

theorem State.advancePulse_stands (s : State) (sub : BitVec 8) : GaugesStand s.gauge (s.advancePulse sub).gauge :=
  .of_sync rfl (s.gauge.settle_settings _)

theorem State.findPins_stands (s : State) (pulse : BitVec 5) (t : Stamp) :
    GaugesStand s.gauge (s.findPins pulse t).gauge :=
  .of_sync (s.gauge.sample_gauges _ _ _) (s.gauge.sample_settings _ _ _)

theorem State.reach_stands (s : State) (m : Moment) : GaugesStand s.gauge (s.reach m).gauge :=
  (s.advance m.sub).findPins_stands m.pulse _

theorem State.tick_stands (s : State) (di : BitVec 12) (ign : Bool) (pulse : BitVec 5) :
    GaugesStand s.gauge (s.tick di ign pulse).gauge := by
  unfold State.tick
  split
  · exact .refl _
  · have sampled : GaugesStand s.gauge (s.samplePins di ign pulse).tickFreshness.gauge := by
      have kept : (s.samplePins di ign pulse).tickFreshness.gauge = (s.samplePins di ign pulse).gauge := by simp
      rw [kept]
      exact State.findPins_stands { s with discretes := s.discretes.sample di ign } pulse _
    exact sampled.trans (.of_sync rfl ⟨rfl, rfl⟩)

theorem State.checkSweep_stands (s : State) : GaugesStand s.gauge s.checkSweep.gauge := by
  obtain ⟨w, q, checked, -⟩ := s.checkSweep_touches
  rw [checked]
  exact .of_sync rfl ⟨rfl, rfl⟩

theorem State.moveArmed_stands (s : State) (m : GaugeMode) : GaugesStand s.gauge (s.moveArmed m).gauge := by
  refine s.setGauges_stands fun g => ?_
  split
  · exact .of_fields rfl rfl rfl
  · exact .refl g

theorem State.startSweep_stands (s : State) (cause : SweepCause) :
    GaugesStand s.gauge (s.startSweep cause).gauge := by
  unfold State.startSweep
  split
  · have moved := s.moveArmed_stands .sweepUp
    dsimp only
    split
    · exact moved.trans (.of_sync rfl ⟨rfl, rfl⟩)
    · exact moved.trans (.of_sync rfl (PulseInput.pull_settings _ _ _))
  · exact .refl _

theorem State.sweepDelayExpiry_stands (s : State) : GaugesStand s.gauge s.sweepDelayExpiry.gauge := by
  unfold State.sweepDelayExpiry
  split
  · exact (s.setSweep_stands _).trans (State.startSweep_stands _ _)
  · exact .refl _

theorem State.sweepTimeoutExpiry_stands (s : State) : GaugesStand s.gauge s.sweepTimeoutExpiry.gauge := by
  unfold State.sweepTimeoutExpiry
  split
  · exact ((s.setSweep_stands _).trans (State.moveArmed_stands _ _)).trans (State.checkSweep_stands _)
  · exact .refl _

theorem State.syncEdge_stands (s : State) : GaugesStand s.gauge s.syncEdge.gauge := by
  unfold State.syncEdge
  dsimp only
  split
  · exact (s.setSync_stands (PulseInput.edge_settings _ _)).trans (State.startSweep_stands _ _)
  · exact .refl _

theorem State.syncPulseEnd_stands (s : State) : GaugesStand s.gauge s.syncPulseEnd.gauge := by
  unfold State.syncPulseEnd
  split
  · exact .of_sync rfl (PulseInput.watch_settings _ _ _ _)
  · exact .refl _

theorem State.gaugeEntry_stands (s : State) : GaugesStand s.gauge s.gaugeEntry.gauge :=
  ((s.setGauges_stands s.enteredGauge_stands).trans (State.setSweep_stands _ _)).trans
    (State.setSync_stands _ (PulseInput.enable_settings _ _))

theorem State.gaugeExit_stands (s : State) : GaugesStand s.gauge s.gaugeExit.gauge :=
  ((s.setGauges_stands Gauge.homeward_stands).trans
    (State.setSync_stands _ (PulseInput.disable_settings _))).trans (State.checkSweep_stands _)

theorem Gauge.restarted_stands (g : Gauge) : g.Stands (Gauge.park { g with config := .initial }) := by
  obtain ⟨p, sound⟩ := g.configured_stands (c := .initial) (by decide) (by decide)
  exact ⟨p, (Gauge.park_stands _).sound ∘ sound⟩

theorem State.restartGauges_stands (s : State) : GaugesStand s.gauge s.restartGauges.gauge :=
  ((s.setGauges_stands Gauge.restarted_stands).trans (State.setSweep_stands _ _)).trans (State.checkSweep_stands _)

/-! ## The events and the services around them -/

theorem State.enterRun_stands (s : State) : GaugesStand s.gauge s.enterRun.gauge := by
  let started := { s.setPower .run .stopped with
    pulse := s.pulse.runEntry s.now, sampler := s.sampler.runEntry }.autoReset.startTripClock
  have kept : started.gauge = s.gauge := by simp [started]
  exact kept ▸ started.gaugeEntry_stands

theorem State.runEntry_stands (s : State) : GaugesStand s.gauge s.runEntry.gauge := by
  unfold State.runEntry
  split
  · split
    · simpa using s.enterRun_stands
    · simpa using s.startClocks.enterRun_stands
    · exact .refl _
  · exact .refl _

theorem State.takeRunEntry_stands (s : State) (m : Moment) : GaugesStand s.gauge (s.takeRunEntry m).gauge := by
  unfold State.takeRunEntry
  split
  · split
    · exact (s.reach_stands m).trans (State.runEntry_stands _)
    · exact .refl _
  · exact .refl _

theorem State.enterFirst_stands (s : State) : GaugesStand s.gauge s.enterFirst.gauge := by
  unfold State.enterFirst
  split
  · simpa using s.startClocks.enterRun_stands
  · exact .of_eq (by simp)
  · exact .of_eq (by simp)

theorem State.endInit_stands (s : State) : GaugesStand s.gauge s.endInit.gauge := by
  unfold State.endInit
  split
  · have timed : GaugesStand s.gauge { s.gauge with clock := 0 } := .of_sync rfl ⟨rfl, rfl⟩
    exact timed.trans (State.enterFirst_stands { s with gauge := { s.gauge with clock := 0 } })
  · exact .refl _

theorem State.takeInitEnd_stands (s : State) (m : Moment) : GaugesStand s.gauge (s.takeInitEnd m).gauge := by
  unfold State.takeInitEnd
  split
  · exact (s.reach_stands m).trans (State.endInit_stands _)
  · exact .refl _

theorem State.exitRun_stands (s : State) (serviceFirst : Bool) :
    GaugesStand s.gauge (s.exitRun serviceFirst).gauge := by
  simp only [State.exitRun, State.startOff_frame, State.setBulbCheck_frame, State.monitorsExit_frame]
  exact (GaugesStand.of_eq (by simp)).trans (State.gaugeExit_stands _)

theorem State.runExit_stands (s : State) (serviceFirst : Bool) :
    GaugesStand s.gauge (s.runExit serviceFirst).gauge := by
  unfold State.runExit
  split
  · simpa using s.exitRun_stands serviceFirst
  · exact .refl _

/-- An edge, taken or not, reaches no further into the Gauge Unit than SYNC's filter (R1, R89). -/
theorem State.edgeTaken_stands (s : State) (sub : BitVec 8) {taken : Bool} {t : State}
    (h : t.gauge = (s.advancePulse sub).gauge) : GaugesStand s.gauge (if taken then t else s).gauge := by
  cases taken
  · exact .refl _
  · exact h ▸ s.advancePulse_stands sub

theorem State.takeSpd_stands (s : State) (sub : BitVec 8) : GaugesStand s.gauge (s.takeSpd sub).gauge :=
  s.edgeTaken_stands sub (by simp)

theorem State.takeTac_stands (s : State) (sub : BitVec 8) : GaugesStand s.gauge (s.takeTac sub).gauge :=
  s.edgeTaken_stands sub (by simp)

theorem State.takeInj_stands (s : State) (sub : BitVec 8) : GaugesStand s.gauge (s.takeInj sub).gauge :=
  s.edgeTaken_stands sub (by simp)

/-! ## The link -/

theorem serveGaugeConfigure_stands (gauge : Byte) (f : GaugeFields) (delay : Word) (s : State) :
    GaugesStand s.gauge (serveGaugeConfigure gauge f delay s).state.gauge := by
  unfold serveGaugeConfigure
  split
  · exact .refl _
  next k _ =>
  split
  · exact .refl _
  next good =>
  have rest : (gaugeConfigOf f).rest ≤ 1023 := by
    simp only [gaugeRefused_iff, not_or, Nat.not_lt] at good
    obtain ⟨-, -, rest, -⟩ := good
    exact rest
  have configured : GaugesStand s.gauge
      (s.setGauges (vmod s.gauge.gauges k fun g => g.configure (gaugeConfigOf f))).gauge := by
    refine ⟨fun j => ?_, rfl, rfl⟩
    rw [State.setGauges_gauge, vmod_get]
    split
    · next e => exact e ▸ Gauge.configure_stands _ rest (Nat.le_max_right _ _)
    · exact .refl _
  exact (configured.trans (State.setSweep_stands _ _)).trans (State.checkSweep_stands _)

theorem serveSweepStart_stands (s : State) : GaugesStand s.gauge (serveSweepStart s).state.gauge := by
  unfold serveSweepStart
  split
  · exact s.startSweep_stands .request
  · exact .refl _

theorem serveSoftRestart_stands (s : State) : GaugesStand s.gauge (serveSoftRestart s).state.gauge := by
  simp only [serveSoftRestart, State.restore, accepted_state, State.restartService_frame, State.restartLamps_frame,
    State.restartMonitors_frame]
  exact (GaugesStand.of_eq (by simp)).trans (State.restartGauges_stands _)

/-- A service lets the gauges stand: those of the Gauge Unit and Soft Restart by their lemmas, the others do not reach
it. -/
theorem service_stands {c : Instr} {f : Service} (hc : service? c = some f) (s : State) :
    GaugesStand s.gauge (f s).state.gauge := by
  cases c <;> simp only [service?, reduceCtorEq, Option.some.injEq] at hc <;> subst hc
  case gaugeConfigure gauge fields delay => exact serveGaugeConfigure_stands gauge fields delay s
  case sweepStart => exact serveSweepStart_stands s
  case softRestart => exact serveSoftRestart_stands s
  all_goals exact .of_eq (by simp)

theorem gaugesStand_link (u : GaugeUnit) : LinkKeeps fun t => GaugesStand u t.gauge where
  link _ _ := id
  reach t m h := h.trans (t.reach_stands m)
  wake t h := h.trans (.of_eq (by simp))
  serve _ _ t hc h := h.trans (service_stands hc t)

end Sys2Proof.Machine
end

section
/-!
SUPPORT and proof: every step keeps the gauges within their travel and moves none by more than its r_hi (R81 to R83,
R89).
-/
namespace Sys2Proof.Machine

/-! ## A motion step of a sound gauge -/

theorem subCounts_le (angle : Nat) : subCounts angle ≤ 16383 := by
  unfold subCounts
  omega

theorem State.trackingDemand_le (s : State) {c : GaugeConfig} (h : c.rest ≤ 1023) : s.trackingDemand c ≤ 16383 := by
  have rest := GaugeConfig.restTarget_le h
  have shown (value : Nat) : s.shown c value ≤ 16383 := subCounts_le _
  unfold State.trackingDemand
  split
  · exact rest
  split
  · exact rest
  · split
    · exact rest
    · exact shown _
  · exact shown _

/-- The demand of a sound gauge lies on the scale, whatever its mode (R78, R79). -/
theorem State.demand_le (s : State) {g : Gauge} (h : g.sound) : s.demand g ≤ 16383 := by
  obtain ⟨-, target, rest, -⟩ := h
  unfold State.demand
  cases g.mode with
  | parked => exact target
  | armed => exact GaugeConfig.restTarget_le rest
  | sweepUp => exact subCounts_le _
  | sweepDown => exact subCounts_le _
  | tracking => exact s.trackingDemand_le rest
  | returning => exact GaugeConfig.restTarget_le rest

theorem State.aimed_sound (s : State) {g : Gauge} (h : g.sound) : (s.aimed g).sound := by
  have demand := s.demand_le (g := g.setOut) h
  obtain ⟨p, -, rest, rates⟩ := h
  unfold State.aimed
  rw [Gauge.adopt_eq]
  refine ⟨p, ?_, rest, rates⟩
  dsimp only
  split
  · exact p
  · exact demand

/-- A motion step keeps a sound gauge sound and moves it by at most its r_hi (R81 to R83). -/
theorem State.steppedGauge_inReach (s : State) {g : Gauge} (h : g.sound) :
    (s.steppedGauge g).sound ∧ inReach g.config.rHi g.p (s.steppedGauge g).p := by
  by_cases stays : s.stays g
  · rw [State.steppedGauge_stays stays]
    exact ⟨h, inReach_self _ h.1⟩
  by_cases parks : s.parks g
  · rw [State.steppedGauge_parks parks]
    exact ⟨g.park_stands.sound h, inReach_self _ h.1⟩
  have sound := s.aimed_sound h
  obtain ⟨config, mode, p⟩ := s.aimed_keeps g
  obtain ⟨config', mode', target'⟩ := (s.aimed g).move_keeps
  have reach := Gauge.move_inReach sound
  rw [config, p] at reach
  have running : (s.aimed g).move.mode ≠ .parked := by
    rw [mode', mode]
    exact g.setOut_mode_ne
  obtain ⟨p'', -, -, target'', config'', -⟩ := Gauge.drive_arrive running
  rw [State.steppedGauge_moves stays parks, p'']
  refine ⟨?_, reach⟩
  obtain ⟨-, onScale, rest, rates⟩ := sound
  unfold Gauge.sound
  rw [p'', target'', config'', target', config']
  exact ⟨reach.1, onScale, rest, rates⟩

/-- What a step may do to the Gauge Unit: the gauges stay sound, and none moves further than its r_hi. -/
def GaugesInReach (s t : State) : Prop :=
  t.gaugesSound ∧ ∀ k : Fin 6, inReach s.gauge.gauges[k].config.rHi s.gauge.gauges[k].p t.gauge.gauges[k].p

theorem GaugesStand.inReach {s t : State} (h : GaugesStand s.gauge t.gauge) (hs : s.gaugesSound) :
    GaugesInReach s t := by
  refine ⟨h.gaugesSound hs, fun k => ?_⟩
  rw [(h.gauges k).p]
  exact inReach_self _ (hs.1 k).1

theorem State.motionStep_inReach {s : State} (hs : s.gaugesSound) : GaugesInReach s s.motionStep := by
  by_cases due : 10 ≤ s.gauge.clock
  · obtain ⟨w, q, checked, -⟩ := s.gaugesStepped.checkSweep_touches
    obtain ⟨gauges, filterOn, selection⟩ := hs
    rw [State.motionStep_due due, checked]
    have stepped (k : Fin 6) := s.steppedGauge_inReach (gauges k)
    refine ⟨⟨fun k => ?_, filterOn, selection⟩, fun k => ?_⟩
    · exact s.gaugesStepped_gauge k ▸ (stepped k).1
    · exact s.gaugesStepped_gauge k ▸ (stepped k).2
  · rw [State.motionStep_idle (Nat.lt_of_not_le due)]
    exact (GaugesStand.refl _).inReach hs

theorem State.powerOnReset_gaugesSound (s : State) (di : BitVec 12) (ign : Bool) (pulse : BitVec 5)
    (lrate drumfit : Bool) : (s.powerOnReset di ign pulse lrate drumfit).gaugesSound := by
  refine ⟨fun k => ?_, rfl, rfl⟩
  have initial : (s.powerOnReset di ign pulse lrate drumfit).gauge.gauges[k] = Gauge.initial := by
    change (Vector.replicate 6 Gauge.initial)[k] = Gauge.initial
    simp
  rw [initial]
  unfold Gauge.sound
  decide

/-! ## What a command can do to the gauges -/

/-- A command lets the gauges stand, or is a motion step, or a power-on reset. -/
inductive GaugeStep (c : Instr) (s t : State) : Prop
  | stands (h : GaugesStand s.gauge t.gauge)
  | motion (h : t = s.motionStep)
  | reset (di : BitVec 12) (ign : Bool) (pulse : BitVec 5) (lrate drumfit : Bool)
      (hc : c = .powerOnReset di ign pulse lrate drumfit) (h : t = s.powerOnReset di ign pulse lrate drumfit)

/-- An event that lets the gauges stand, as a row: in a part held in reset it does not take place (R155). -/
theorem GaugeStep.event {c : Instr} {s u : State} (h : GaugesStand s.gauge u.gauge) :
    GaugeStep c s (if s.power.state = .held then s else u) := by
  split
  · exact .stands (.refl _)
  · exact .stands h

/-- Every command is one of the three: a request row by its service, an event row by its operation. -/
theorem exec_gaugeStep {c : Instr} {s t : State} (he : exec c s = .next t) : GaugeStep c s t := by
  have link := gaugesStand_link s.gauge
  rcases hc : service? c with _ | f
  case some => exact .stands (link.exec_request hc (.refl _) he)
  cases c <;> simp only [service?, reduceCtorEq] at hc <;> obtain rfl := Host.Outcome.next.inj he
  case powerOnReset => exact .reset _ _ _ _ _ rfl rfl
  case resetnRelease => exact .stands (.of_eq (by simp))
  case gaugeMotionStep =>
    by_cases held : s.power.state = .held
    · exact .stands (.of_eq (congrArg State.gauge (if_pos held)))
    · exact .motion (if_neg held)
  case initEnd m => exact .event (s.takeInitEnd_stands m)
  case tick di ign pulse => exact .event (s.tick_stands di ign pulse)
  case runEntry m => exact .event (s.takeRunEntry_stands m)
  case runExit serviceFirst => exact .event (s.runExit_stands serviceFirst)
  case spdEdge sub => exact .event (s.takeSpd_stands sub)
  case tacEdge sub => exact .event (s.takeTac_stands sub)
  case injLevelChange sub => exact .event (s.takeInj_stands sub)
  case sweepDelayExpiry => exact .event s.sweepDelayExpiry_stands
  case sweepTimeoutExpiry => exact .event s.sweepTimeoutExpiry_stands
  case syncFallingEdge => exact .event s.syncEdge_stands
  case syncPulseEnd => exact .event s.syncPulseEnd_stands
  case characterReceived b stop m => exact .event (link.receive (.refl _) b stop m)
  case characterGapTimeout => exact .event (link.gapTimeout (.refl _))
  case replyEnd m => exact .event (link.replyEnd (.refl _) m)
  -- the other events do not reach the Gauge Unit
  all_goals exact .event (.of_eq (by simp))

/-- Settles O11: of what a command can do to the gauges only a motion step and a power-on reset move one. -/
theorem gaugeMotionLaw : Obligations.GaugeMotionLaw := by
  intro s t hs he
  have within (h : GaugesInReach s t) (k : Fin 6) := (h.2 k).2
  obtain ⟨-, rfl⟩ | ⟨c, rest, pending, he⟩ := step_cases he
  · have stands := (GaugesStand.refl t.gauge).inReach hs
    exact ⟨hs, fun _ => within stands⟩
  cases exec_gaugeStep he with
  | stands h =>
    have reach := GaugesStand.inReach (s := s) h hs
    exact ⟨reach.1, fun _ => within reach⟩
  | motion h =>
    subst h
    have reach := State.motionStep_inReach (s := s.setPending rest) hs
    exact ⟨reach.1, fun _ => within reach⟩
  | reset di ign pulse lrate drumfit hc h =>
    subst h
    refine ⟨State.powerOnReset_gaugesSound _ di ign pulse lrate drumfit, fun noReset => ?_⟩
    rw [pending, hc] at noReset
    exact absurd rfl (noReset di ign pulse lrate drumfit)

end Sys2Proof.Machine
end

section
/-!
SUPPORT and proof: the braking distance as a sum, and the coil drive over the whole turn from its first quarter (R81,
R84).
-/
namespace Sys2Proof.Machine

/-! ## The braking distance -/

/-- The braking distance adds one term for each of the `K` steps down to r_lo (R81). -/
theorem braking_eq_sum {a lo : Nat} (ha : 0 < a) :
    ∀ {K fuel v : Nat}, v ≤ fuel → v ≤ lo + K * a → (∀ k : Nat, k < K → lo + k * a < v) →
      braking a lo fuel v = ((List.range K).map fun k => max (v - (k + 1) * a) lo).sum := by
  intro K
  induction K with
  | zero =>
    intro fuel v _ low _
    have stop : v ≤ lo := by omega
    cases fuel with
    | zero => rfl
    | succ fuel => exact if_pos stop
  | succ K ih =>
    intro fuel v hf low above
    have start : lo < v := by simpa using above 0 (Nat.zero_lt_succ K)
    cases fuel with
    | zero => omega
    | succ fuel =>
      have rest := ih (fuel := fuel) (v := v - a) (by omega) (by rw [Nat.succ_mul] at low; omega) fun k hk => by
        have := above (k + 1) (Nat.succ_lt_succ hk)
        rw [Nat.succ_mul] at this
        omega
      have later (k : Nat) : v - a - (k + 1) * a = v - (k + 1 + 1) * a := by
        rw [Nat.succ_mul (k + 1)]
        omega
      rw [braking, if_neg (Nat.not_le.mpr start), rest, List.range_succ_eq_map, List.map_cons, List.sum_cons,
        List.map_map]
      simp only [later, Function.comp_def, zero_add, one_mul]

theorem braking_at_rest {a lo v : Nat} (h : v ≤ lo) : braking a lo v v = 0 := by
  cases v with
  | zero => rfl
  | succ v => exact if_pos h

/-! ## The table of the first quarter -/

/-- The sine duty at a count of the first quarter (R84). -/
def sineDuty (r : Nat) : Nat := quarterSine.getD r 0

/-- What holds in each of eight rows of 32 counts holds over the first quarter. -/
theorem firstQuarter {P : Nat → Prop} (rows : ∀ i < 8, ∀ j < 32, P (32 * i + j)) {r : Nat} (h : r < 256) :
    P r := by
  have := rows (r / 32) (by omega) (r % 32) (by omega)
  rwa [Nat.div_add_mod] at this

theorem sineDuty_step {r : Nat} (h : r < 256) : sineDuty r ≤ sineDuty (r + 1) :=
  firstQuarter (P := fun r => sineDuty r ≤ sineDuty (r + 1)) (by decide) h

theorem sineDuty_circle_rows : ∀ i < 8, ∀ j < 32,
    sineDuty (32 * i + j) ^ 2 + sineDuty (256 - (32 * i + j)) ^ 2 ≤ 65025 + 361 ∧
    65025 ≤ sineDuty (32 * i + j) ^ 2 + sineDuty (256 - (32 * i + j)) ^ 2 + 361 := by decide

/-- Sine and cosine lie on the circle of 255 within their rounding (R84). -/
theorem sineDuty_circle {r : Nat} (h : r ≤ 256) :
    sineDuty r ^ 2 + sineDuty (256 - r) ^ 2 ≤ 65025 + 361 ∧
    65025 ≤ sineDuty r ^ 2 + sineDuty (256 - r) ^ 2 + 361 := by
  rcases Nat.lt_or_eq_of_le h with h | rfl
  · exact firstQuarter (P := fun r => sineDuty r ^ 2 + sineDuty (256 - r) ^ 2 ≤ 65025 + 361 ∧
      65025 ≤ sineDuty r ^ 2 + sineDuty (256 - r) ^ 2 + 361) sineDuty_circle_rows h
  · decide

theorem sineDuty_pos {r : Nat} (low : 1 ≤ r) (high : r ≤ 256) : 0 < sineDuty r := by
  induction r, low using Nat.le_induction with
  | base => decide
  | succ r _ ih => exact Nat.lt_of_lt_of_le (ih (by omega)) (sineDuty_step high)

/-! ## The turn -/

/-- The count of the first quarter whose sine has the duty of a count of the turn (R84). -/
def quarterCount (k : Nat) : Nat := if k % 1024 / 256 % 2 = 0 then k % 1024 % 256 else 256 - k % 1024 % 256

theorem coilAt_duty (k : Nat) : (coilAt k).duty = sineDuty (quarterCount k) := rfl

theorem coilAt_negative (k : Nat) : (coilAt k).negative = decide (512 < k % 1024) := rfl

theorem quarterCount_le (k : Nat) : quarterCount k ≤ 256 := by
  unfold quarterCount
  split <;> omega

theorem quarterCount_of_le {k : Nat} (h : k ≤ 256) : quarterCount k = k := by
  unfold quarterCount
  split <;> omega

theorem quarterCount_quarter (k : Nat) : quarterCount (k + 256) = 256 - quarterCount k := by
  unfold quarterCount
  split <;> split <;> omega

theorem quarterCount_half (k : Nat) : quarterCount (k + 512) = quarterCount k := by
  have := quarterCount_le k
  rw [show k + 512 = k + 256 + 256 from rfl, quarterCount_quarter, quarterCount_quarter]
  omega

theorem quarterCount_mirror {k : Nat} (h : k ≤ 512) : quarterCount (512 - k) = quarterCount k := by
  unfold quarterCount
  split <;> split <;> omega

/-- The duty is 0 at the start of the turn and half a turn on, and nowhere else. -/
theorem coilAt_duty_eq_zero (k : Nat) : (coilAt k).duty = 0 ↔ k % 512 = 0 := by
  have zero : quarterCount k = 0 ↔ k % 512 = 0 := by
    unfold quarterCount
    split <;> omega
  rw [coilAt_duty, ← zero]
  constructor
  · intro h
    by_contra ne
    have := sineDuty_pos (Nat.one_le_iff_ne_zero.mpr ne) (quarterCount_le k)
    omega
  · intro h
    rw [h]
    rfl

/-- Settles O37: the braking distance by induction on its steps, the coil drive from the table of the first quarter. -/
theorem brakingAndCoilDrive : Obligations.BrakingAndCoilDrive := by
  refine ⟨fun a lo v ha => ⟨braking_at_rest, fun K _ => braking_eq_sum ha (Nat.le_refl v)⟩, fun p => ?_,
    by decide, by decide, by decide, by decide, fun k => ⟨?_, ?_, ?_, ?_, ?_, ?_, ?_, ?_⟩⟩
  · unfold angleCount roundDiv
    omega
  · unfold coilAt
    rw [Nat.add_mod_right]
  · rw [coilAt_duty, coilAt_duty, quarterCount_half]
  · intro h
    rw [Nat.pos_iff_ne_zero, ne_eq, coilAt_duty_eq_zero] at h
    rw [coilAt_negative, coilAt_negative, ← decide_not, decide_eq_decide]
    omega
  · intro h
    rw [coilAt_duty_eq_zero] at h
    rw [coilAt_negative, decide_eq_false_iff_not]
    omega
  · intro h
    rw [coilAt_duty, coilAt_duty, quarterCount_mirror h]
  · intro h
    rw [coilAt_duty, coilAt_duty, quarterCount_of_le (Nat.le_of_lt h), quarterCount_of_le h]
    exact sineDuty_step h
  · intro h
    rw [coilAt_negative, decide_eq_false_iff_not]
    omega
  · rw [coilAt_duty, coilAt_duty, quarterCount_quarter]
    exact sineDuty_circle (quarterCount_le k)

end Sys2Proof.Machine
end

section
/-!
SUPPORT and proof: the start events of a sweep, its timeout and the end of the part's own SYNC pulse (R88, R89, R91,
R92).
-/
namespace Sys2Proof.Machine

/-! ## The ARMED gauges -/

theorem State.moveArmed_get (s : State) (m : GaugeMode) (k : Fin 6) :
    (s.moveArmed m).gauge.gauges[k] =
      { s.gauge.gauges[k] with
          mode := if s.gauge.gauges[k].mode = .armed then m else s.gauge.gauges[k].mode } := by
  refine (vmap_get _ _ k).trans ?_
  split <;> rfl

/-- With the ARMED gauges sent to TRACKING, a gauge is left in the sweep when one moves in it (R91, R92). -/
theorem State.moveArmed_tracking_iff (s : State) :
    (∀ k : Fin 6, (s.moveArmed .tracking).gauge.gauges[k].mode ≠ .armed ∧
      (s.moveArmed .tracking).gauge.gauges[k].mode ≠ .sweepUp ∧
      (s.moveArmed .tracking).gauge.gauges[k].mode ≠ .sweepDown) ↔
    ∀ k : Fin 6, s.gauge.gauges[k].mode ≠ .sweepUp ∧ s.gauge.gauges[k].mode ≠ .sweepDown := by
  refine forall_congr' fun k => ?_
  rw [State.moveArmed_get]
  cases h : s.gauge.gauges[k].mode <;> simp

/-! ## The start events -/

theorem State.startSweep_none {s : State} (h : ¬ ∃ k : Fin 6, s.gauge.gauges[k].mode = .armed) (cause : SweepCause) :
    s.startSweep cause = s :=
  if_neg (s.anyArmed_iff.not.mpr h)

/-- A start event sends the ARMED gauges to SWEEP_UP under its cause, and one of the part's own pulls SYNC low (R88). -/
theorem State.startSweep_own {s : State} (h : ∃ k : Fin 6, s.gauge.gauges[k].mode = .armed) {cause : SweepCause}
    (own : cause ≠ .sync) :
    s.startSweep cause =
      { s with gauge := { s.gauge with
        gauges := (s.moveArmed .sweepUp).gauge.gauges, sweep := { s.gauge.sweep with cause := cause },
        syncPulse := some 1, sync := syncPulled s } } := by
  rw [← PulseInput.pull_eq]
  exact (if_pos (s.anyArmed_iff.mpr h)).trans (if_neg own)

theorem State.startSweep_sync {s : State} (h : ∃ k : Fin 6, s.gauge.gauges[k].mode = .armed) :
    s.startSweep .sync =
      { s with gauge := { s.gauge with
        gauges := (s.moveArmed .sweepUp).gauge.gauges, sweep := { s.gauge.sweep with cause := .sync } } } :=
  if_pos (s.anyArmed_iff.mpr h)

/-! ## SYNC -/

theorem State.syncLow_iff (s : State) : s.syncLow = true ↔ s.gauge.syncPulse ≠ none :=
  Option.isSome_iff_ne_none

/-- A falling edge is seen in RUN, within the present tick, unless the part holds the line low with that level accepted
(R89). -/
theorem State.syncEdge_eq (s : State) :
    let p := s.gauge.sync
    let time := s.now + BitVec.ofNat 24 (edgeDelay p s.now)
    s.syncEdge =
      if s.power.state = .run ∧ (time - s.time.fref).toNat < 256 ∧
          (s.gauge.syncPulse = none ∨ p.accepted = p.selection) then
        (s.setSync { p with
          accepted := !p.selection, pin := !p.selection, pending := none, stood := some time }).startSweep .sync
      else s := by
  intro p time
  have seen : (s.inRun && !s.syncBlind && decide (span time s.time.fref < Config.frefPerTick)) = true ↔
      s.power.state = .run ∧ (time - s.time.fref).toNat < 256 ∧
        (s.gauge.syncPulse = none ∨ p.accepted = p.selection) := by
    have blind : (!s.syncBlind) = true ↔ (s.gauge.syncPulse = none ∨ p.accepted = p.selection) := by
      simp [State.syncBlind, State.syncLow, p]
    rw [Bool.and_eq_true, Bool.and_eq_true, blind, State.inRun, beq_iff_eq, decide_eq_true_iff, and_assoc,
      and_comm (a := s.gauge.syncPulse = none ∨ p.accepted = p.selection)]
    rfl
  exact if_congr seen rfl rfl

/-- The end of the part's own pulse releases the line, low until now (R88). -/
theorem State.syncPulseEnd_due {s : State} (h : s.gauge.syncPulse = some 0) :
    s.syncPulseEnd = { s with gauge := { s.gauge with
      syncPulse := none,
      sync := if s.power.state = .run then foundAt s.gauge.sync false s.now else ignored s.gauge.sync false } } := by
  have watched := s.gauge.sync.watch_eq s.inRun false s.now
  simp only [State.inRun, beq_iff_eq] at watched
  rw [← watched]
  exact if_pos h

/-! ## The timeout -/

/-- The timeout sends the ARMED gauges to TRACKING, and closes an open sweep that no gauge then moves in (R91, R92). -/
theorem State.sweepTimeoutExpiry_due {s : State} (h : s.gauge.sweep.timeout = some 0) :
    let closes := s.gauge.sweep.isOpen = true ∧
      ∀ k : Fin 6, s.gauge.gauges[k].mode ≠ .sweepUp ∧ s.gauge.gauges[k].mode ≠ .sweepDown
    let w : Sweep := { s.gauge.sweep with timeout := none }
    s.sweepTimeoutExpiry = { s with
      gauge := { s.gauge with
        gauges := (s.moveArmed .tracking).gauge.gauges,
        sweep := if closes then { w with isOpen := false, delayTimer := none } else w },
      notices := if closes then (s.notify .sweep (sweepValue w)).notices else s.notices } := by
  intro closes w
  let u := (s.setSweep w).moveArmed .tracking
  have due : s.sweepTimeoutExpiry = u.checkSweep := if_pos h
  have left : (u.gauge.sweep.isOpen = true ∧ ∀ k : Fin 6, u.gauge.gauges[k].mode ≠ .armed ∧
      u.gauge.gauges[k].mode ≠ .sweepUp ∧ u.gauge.gauges[k].mode ≠ .sweepDown) ↔ closes :=
    and_congr_right' (s.setSweep w).moveArmed_tracking_iff
  obtain ⟨w', q, checked, -, hw, hq⟩ := u.checkSweep_touches
  simp only [left] at hw hq
  rw [due, checked, hw, hq]
  rfl

/-- Settles O38: each event by what it does when it is due. -/
theorem sweepEvents : Obligations.SweepEvents := by
  intro s hs armed moved
  rw [exec_sweepDelayExpiry hs, exec_syncFallingEdge hs, exec_sweepTimeoutExpiry hs, exec_syncPulseEnd hs]
  refine ⟨fun h => congrArg _ (if_neg h), fun due idle => ?_, fun due ready => ?_, s.syncLow_iff, ?_,
    fun h => congrArg _ (if_neg h), fun due => ⟨_, rfl, ?_⟩, fun h => congrArg _ (if_neg h), fun due => ?_⟩
  · have started := State.startSweep_none (s := s.setSweep { s.gauge.sweep with delayTimer := none }) idle .delay
    exact congrArg _ ((if_pos due).trans started)
  · have started := State.startSweep_own (s := s.setSweep { s.gauge.sweep with delayTimer := none }) ready
      (cause := .delay) (by decide)
    exact ⟨_, congrArg _ ((if_pos due).trans started), s.moveArmed_get .sweepUp, rfl⟩
  · intro p time seen low
    rw [State.syncEdge_eq]
    refine ⟨fun h => congrArg _ (if_neg h), fun h idle => ?_, fun h ready => ?_⟩
    · exact congrArg _ ((if_pos h).trans (State.startSweep_none (s := s.setSync low) idle .sync))
    · have started := State.startSweep_sync (s := s.setSync low) ready
      exact ⟨_, congrArg _ ((if_pos h).trans started), s.moveArmed_get .sweepUp, rfl⟩
  · rw [State.sweepTimeoutExpiry_due due]
    exact ⟨s.moveArmed_get .tracking, rfl⟩
  · exact congrArg _ (State.syncPulseEnd_due due)

end Sys2Proof.Machine
end

section
/-!
SUPPORT. The chime queue: the law of the queue as one count, what each operation of the Chime Sequencer makes of it, and
the queue around its PLAYING request and around the request of one source (R119 to R127).
-/
namespace Sys2Proof.Machine

/-! ## One request among others -/

section
variable {front rest : List ChimeRequest} {r : ChimeRequest} {p : ChimeRequest → Prop} [DecidablePred p]

theorem find?_only (this : p r) (others : ∀ q ∈ front ++ rest, ¬ p q) :
    (front ++ r :: rest).find? (fun q => decide (p q)) = some r := by
  refine List.find?_eq_some_iff_append.mpr ⟨decide_eq_true this, front, rest, rfl, fun q hq => ?_⟩
  simpa using others q (List.mem_append_left _ hq)

theorem filter_only (this : p r) (others : ∀ q ∈ front ++ rest, ¬ p q) :
    (front ++ r :: rest).filter (fun q => decide (¬ p q)) = front ++ rest := by
  have kept : (front ++ rest).filter (fun q => decide (¬ p q)) = front ++ rest :=
    List.filter_eq_self.mpr fun q hq => decide_eq_true (others q hq)
  rw [List.filter_append, List.filter_cons_of_neg (by simpa using this), ← List.filter_append, kept]

theorem map_only (this : p r) (others : ∀ q ∈ front ++ rest, ¬ p q) (f : ChimeRequest → ChimeRequest) :
    (front ++ r :: rest).map (fun q => if p q then f q else q) = front ++ f r :: rest := by
  have kept : (front ++ rest).map (fun q => if p q then f q else q) = front ++ rest :=
    (List.map_congr_left fun q hq => if_neg (others q hq)).trans (List.map_id' _)
  obtain ⟨hfront, hrest⟩ := List.append_inj (List.map_append ▸ kept) (List.length_map _)
  rw [List.map_append, List.map_cons, if_pos this, hfront, hrest]

end

/-- In a queue of distinct sources the request of a source stands alone. -/
theorem others_source {front rest : List ChimeRequest} {r : ChimeRequest}
    (h : ((front ++ r :: rest).map ChimeRequest.source).Nodup) : ∀ q ∈ front ++ rest, ¬ q.source = r.source := by
  rw [(List.perm_middle.map ChimeRequest.source).nodup_iff, List.map_cons, List.nodup_cons] at h
  exact fun q hq e => h.1 (e ▸ List.mem_map_of_mem hq)

/-- A request that takes the place of another of its source leaves the sources distinct. -/
theorem sources_replace {front rest : List ChimeRequest} {r r' : ChimeRequest}
    (sources : ((front ++ r :: rest).map ChimeRequest.source).Nodup) (h : r'.source = r.source) :
    ((front ++ r' :: rest).map ChimeRequest.source).Nodup := by
  rwa [List.map_append, List.map_cons, h, ← List.map_cons, ← List.map_append]

/-! ## The law of the queue -/

/-- The passes a sequencer has running: one while it plays. -/
def Sequencer.running (x : Sequencer) : Nat :=
  match x with
  | .playing _ _ _ => 1
  | _ => 0

/-- The law of the queue (R119), with the PLAYING requests counted. -/
structure ChimeUnit.Sound (u : ChimeUnit) : Prop where
  sources : (u.queue.map ChimeRequest.source).Nodup
  plays : u.queue.countP ChimeRequest.playing = u.sequencer.running
  idle : u.sequencer = .idle → u.queue = []

theorem Sequencer.running_eq_one (x : Sequencer) :
    x.running = 1 ↔ ∃ steps k left, x = .playing steps k left := by
  cases x <;> simp [Sequencer.running]

theorem Sequencer.running_le (x : Sequencer) : x.running ≤ 1 := by cases x <;> simp [Sequencer.running]

theorem State.chimeSound_iff (s : State) : s.chimeSound ↔ s.chime.Sound := by
  have one := s.chime.sequencer.running_eq_one
  have le := s.chime.sequencer.running_le
  have some := List.countP_pos_iff (p := ChimeRequest.playing) (l := s.chime.queue)
  unfold State.chimeSound
  rw [← List.countP_eq_length_filter, ← one, ← some]
  constructor
  · rintro ⟨sources, most, plays, idle⟩
    exact ⟨sources, by omega, idle⟩
  · rintro ⟨sources, plays, idle⟩
    exact ⟨sources, by omega, by omega, idle⟩

/-- The sources are 26, so a queue of distinct ones holds no more (section 7). -/
theorem ChimeUnit.Sound.length_le {u : ChimeUnit} (h : u.Sound) : u.queue.length ≤ 26 := by
  simpa using h.sources.length_le_card

/-- The PLAYING request stands alone. -/
theorem ChimeUnit.Sound.others_wait {u : ChimeUnit} (h : u.Sound) {front rest : List ChimeRequest} {r : ChimeRequest}
    (queue : u.queue = front ++ r :: rest) (playing : r.playing = true) :
    ∀ q ∈ front ++ rest, ¬ q.playing = true := by
  have most := h.plays.trans_le u.sequencer.running_le
  rw [queue, List.perm_middle.countP_eq, List.countP_cons_of_pos playing] at most
  exact List.countP_eq_zero.mp (by omega)

theorem ChimeUnit.Sound.find_playing {u : ChimeUnit} (h : u.Sound) {r : ChimeRequest} (mem : r ∈ u.queue)
    (playing : r.playing = true) : u.queue.find? (fun q => q.playing) = some r := by
  obtain ⟨front, rest, queue⟩ := List.append_of_mem mem
  simpa [queue] using find?_only (p := fun q => q.playing = true) playing (h.others_wait queue playing)

theorem ChimeUnit.Sound.all_wait {u : ChimeUnit} (h : u.Sound) (silent : u.sequencer.running = 0) :
    ∀ q ∈ u.queue, ¬ q.playing = true :=
  List.countP_eq_zero.mp (h.plays.trans silent)

/-- The law rests on the queue and on whether the sequencer plays or is IDLE, not on the patterns or the time left. -/
theorem ChimeUnit.Sound.of_queue {u v : ChimeUnit} (h : u.Sound) (queue : v.queue = u.queue)
    (running : v.sequencer.running = u.sequencer.running) (idle : v.sequencer = .idle → u.sequencer = .idle) :
    v.Sound :=
  ⟨queue ▸ h.sources, queue ▸ running ▸ h.plays, fun e => queue ▸ h.idle (idle e)⟩

/-- A queue in which nothing plays, in a gap. -/
theorem ChimeUnit.Sound.of_gap {u : ChimeUnit} {left : Nat} (gap : u.sequencer = .gap left)
    (sources : (u.queue.map ChimeRequest.source).Nodup) (waits : ∀ q ∈ u.queue, ¬ q.playing = true) : u.Sound :=
  ⟨sources, by rw [gap]; exact List.countP_eq_zero.mpr waits, by simp [gap]⟩

/-! ## Selection -/

theorem bestWaiting_eq_none (queue : List ChimeRequest) :
    bestWaiting queue = none ↔ ∀ q ∈ queue, q.playing = true := by
  induction queue with
  | nil => simp [bestWaiting]
  | cons r rest ih =>
    rw [bestWaiting, List.forall_mem_cons, ← ih]
    cases bestWaiting rest with
    | none => cases h : r.playing <;> simp
    | some b => simp only [reduceCtorEq, and_false, iff_false]; split <;> exact Option.some_ne_none _

theorem bestWaiting_mem {queue : List ChimeRequest} {b : ChimeRequest} (h : bestWaiting queue = some b) :
    b ∈ queue ∧ b.playing = false := by
  induction queue with
  | nil => cases h
  | cons r rest ih =>
    have later (e : bestWaiting rest = some b) : b ∈ r :: rest ∧ b.playing = false :=
      (ih e).imp_left (List.mem_cons_of_mem r)
    rw [bestWaiting] at h
    cases e : bestWaiting rest with
    | none =>
      rw [e] at h
      cases waiting : r.playing with
      | false =>
        obtain rfl : r = b := by simpa [waiting] using h
        exact ⟨List.mem_cons_self, waiting⟩
      | true => simp [waiting] at h
    | some c =>
      simp only [e] at h
      split at h
      · next first =>
        obtain rfl := Option.some.inj h
        exact ⟨List.mem_cons_self, first.1⟩
      · exact later (e.trans h)

/-- The first WAITING request with each one before it lower and none after it higher is the one chosen (R123). -/
theorem bestWaiting_eq_some {front rest : List ChimeRequest} {r : ChimeRequest} (waiting : r.playing = false)
    (before : ∀ q ∈ front, q.playing = false → q.priority < r.priority)
    (after : ∀ q ∈ rest, q.playing = false → q.priority ≤ r.priority) :
    bestWaiting (front ++ r :: rest) = some r := by
  induction front with
  | nil =>
    rw [List.nil_append, bestWaiting]
    cases h : bestWaiting rest with
    | none => simp [waiting]
    | some b =>
      obtain ⟨mem, hb⟩ := bestWaiting_mem h
      exact if_pos ⟨waiting, after b mem hb⟩
  | cons q front ih =>
    rw [List.forall_mem_cons] at before
    obtain ⟨lower, before⟩ := before
    rw [List.cons_append, bestWaiting, ih before]
    refine if_neg fun ⟨hq, le⟩ => ?_
    exact absurd (lower hq) (Nat.not_lt.mpr le)

theorem stepMs_eq (steps : List ToneStep) (k : Nat) :
    stepMs steps k = (steps[k]?.map fun t => t.duration * 10).getD 0 := by
  unfold stepMs
  cases steps[k]? <;> rfl

/-- The request as its pass begins (R123). -/
def ChimeRequest.begun (r : ChimeRequest) : ChimeRequest := { r with playing := true, reposted := false, stop := .none }

theorem ChimeUnit.select_none {u : ChimeUnit} (h : bestWaiting u.queue = none) :
    u.select = { u with sequencer := .idle } := by
  rw [ChimeUnit.select, h]

/-- Selection begins the pass of the request chosen, which keeps its place (R123, R124). -/
theorem ChimeUnit.select_some {u : ChimeUnit} {front rest : List ChimeRequest} {r : ChimeRequest}
    (sources : (u.queue.map ChimeRequest.source).Nodup) (best : bestWaiting u.queue = some r)
    (queue : u.queue = front ++ r :: rest) :
    u.select = { u with
      queue := front ++ r.begun :: rest,
      sequencer := .playing (u.steps r.pattern) 0 (stepMs (u.steps r.pattern) 0) } := by
  have others := others_source (queue ▸ sources)
  have begun := map_only (p := fun q => q.source = r.source) rfl others ChimeRequest.begun
  rw [ChimeUnit.select, best, ← begun, queue]
  rfl

theorem ChimeUnit.select_selects {u : ChimeUnit} (sources : (u.queue.map ChimeRequest.source).Nodup) :
    selects u u.select := by
  refine ⟨fun h => u.select_none ((bestWaiting_eq_none _).mpr h), fun front rest r queue waiting before after => ?_⟩
  have best : bestWaiting u.queue = some r := queue ▸ bestWaiting_eq_some waiting before after
  rw [u.select_some sources best queue, stepMs_eq, ← List.head?_eq_getElem?]
  rfl

/-- Where nothing plays, a selection starts one pass or leaves the unit IDLE with no request. -/
theorem ChimeUnit.select_sound {u : ChimeUnit} (sources : (u.queue.map ChimeRequest.source).Nodup)
    (waits : ∀ q ∈ u.queue, ¬ q.playing = true) : u.select.Sound := by
  cases best : bestWaiting u.queue with
  | none =>
    have plays := (bestWaiting_eq_none _).mp best
    have empty : u.queue = [] := List.eq_nil_iff_forall_not_mem.mpr fun q hq => waits q hq (plays q hq)
    rw [u.select_none best]
    exact ⟨sources, by rw [empty]; rfl, fun _ => empty⟩
  | some r =>
    obtain ⟨front, rest, queue⟩ := List.append_of_mem (bestWaiting_mem best).1
    rw [u.select_some sources best queue]
    rw [queue] at sources waits
    have others : (front ++ rest).countP ChimeRequest.playing = 0 :=
      List.countP_eq_zero.mpr fun q hq => waits q (by simp at hq ⊢; tauto)
    refine ⟨sources_replace sources rfl, ?_, nofun⟩
    rw [List.perm_middle.countP_eq, List.countP_cons_of_pos rfl, others]
    rfl

/-! ## Posts -/

/-- A request that a source posts anew (R120). -/
def posted (source : Fin 26) (pattern : Fin 12) (priority passes : Nat) : ChimeRequest :=
  { source := source, pattern := pattern, priority := priority, passes := passes, playing := false,
    reposted := false, stop := .none }

theorem preempt_sources (source : Fin 26) (priority : Nat) (queue : List ChimeRequest) :
    (preempt source priority queue).map ChimeRequest.source = queue.map ChimeRequest.source := by
  rw [preempt, List.map_map]
  refine List.map_congr_left fun q _ => ?_
  simp only [Function.comp_apply]
  split <;> rfl

theorem preempt_plays (source : Fin 26) (priority : Nat) (queue : List ChimeRequest) :
    (preempt source priority queue).countP ChimeRequest.playing = queue.countP ChimeRequest.playing := by
  rw [preempt, List.countP_map]
  refine List.countP_congr fun q _ => ?_
  simp only [Function.comp_apply]
  split <;> rfl

section
variable {u : ChimeUnit} {source : Fin 26} {pattern : Fin 12}

theorem ChimeUnit.request?_none (new : ∀ q ∈ u.queue, q.source ≠ source) : u.request? source = none :=
  List.find?_eq_none.mpr fun q hq => by simpa using new q hq

theorem ChimeUnit.post_empty (h : u.steps pattern = []) (priority passes : Nat) :
    u.post source pattern priority passes = u := if_pos h

/-- A post of a source with no request joins it at the newest end (R120, R126). -/
theorem ChimeUnit.post_new (h : u.steps pattern ≠ []) (new : ∀ q ∈ u.queue, q.source ≠ source)
    (priority passes : Nat) :
    u.post source pattern priority passes =
      (let queue := u.queue ++ [posted source pattern priority passes]
       match u.sequencer with
       | .idle => ChimeUnit.select { u with queue := queue }
       | .playing _ _ _ => { u with queue := preempt source priority queue }
       | .gap _ => { u with queue := queue }) := by
  have find : u.queue.find? (fun q => q.source = source) = none := ChimeUnit.request?_none new
  rw [ChimeUnit.post, if_neg h, find]
  rfl

/-- From IDLE the new request is selected at once (R120). -/
theorem ChimeUnit.post_idle (seq : u.sequencer = .idle) (h : u.steps pattern ≠ [])
    (new : ∀ q ∈ u.queue, q.source ≠ source) (priority passes : Nat) :
    u.post source pattern priority passes =
      ChimeUnit.select { u with queue := u.queue ++ [posted source pattern priority passes] } := by
  rw [ChimeUnit.post_new h new, seq]

theorem ChimeUnit.post_gap {left : Nat} (seq : u.sequencer = .gap left) (h : u.steps pattern ≠ [])
    (new : ∀ q ∈ u.queue, q.source ≠ source) (priority passes : Nat) :
    u.post source pattern priority passes =
      { u with queue := u.queue ++ [posted source pattern priority passes] } := by
  rw [ChimeUnit.post_new h new, seq]

/-- The PLAYING request is tested against the new one (R126). -/
theorem ChimeUnit.post_playing {steps : List ToneStep} {k left : Nat} (seq : u.sequencer = .playing steps k left)
    (h : u.steps pattern ≠ []) (new : ∀ q ∈ u.queue, q.source ≠ source) (priority passes : Nat) :
    u.post source pattern priority passes =
      { u with queue := preempt source priority (u.queue ++ [posted source pattern priority passes]) } := by
  rw [ChimeUnit.post_new h new, seq]

/-- A post of a source with a request acts on it in place, or at the newest end where its pattern or priority changes
(R121, R126). -/
theorem ChimeUnit.post_again (sources : (u.queue.map ChimeRequest.source).Nodup) (h : u.steps pattern ≠ [])
    {front rest : List ChimeRequest} {r : ChimeRequest} (queue : u.queue = front ++ r :: rest)
    (same : r.source = source) (priority passes : Nat) :
    u.post source pattern priority passes =
      { u with
        queue := preempt source priority
          (if r.pattern = pattern ∧ r.priority = priority then front ++ r.repost pattern priority passes :: rest
           else front ++ rest ++ [r.repost pattern priority passes]) } := by
  subst same
  have others := others_source (queue ▸ sources)
  have find : u.queue.find? (fun q => q.source = r.source) = some r := queue ▸ find?_only rfl others
  have place := map_only (p := fun q => q.source = r.source) rfl others fun _ => r.repost pattern priority passes
  have moved := filter_only (p := fun q => q.source = r.source) rfl others
  rw [ChimeUnit.post, if_neg h, find]
  dsimp only
  rw [queue, place, ← moved]

end

theorem ChimeUnit.Sound.not_idle {u : ChimeUnit} (h : u.Sound) {r : ChimeRequest} (mem : r ∈ u.queue) :
    u.sequencer ≠ .idle := fun e => List.not_mem_nil (h.idle e ▸ mem)

/-- A new request leaves the sources distinct. -/
theorem sources_append {queue : List ChimeRequest} {r : ChimeRequest}
    (sources : (queue.map ChimeRequest.source).Nodup) (new : ∀ q ∈ queue, q.source ≠ r.source) :
    ((queue ++ [r]).map ChimeRequest.source).Nodup := by
  rw [(List.perm_append_singleton r queue).map ChimeRequest.source |>.nodup_iff, List.map_cons, List.nodup_cons]
  exact ⟨fun h => by obtain ⟨q, hq, e⟩ := List.mem_map.mp h; exact new q hq e, sources⟩

theorem ChimeUnit.Sound.post {u : ChimeUnit} (h : u.Sound) (source : Fin 26) (pattern : Fin 12)
    (priority passes : Nat) : (u.post source pattern priority passes).Sound := by
  by_cases steps : u.steps pattern = []
  · rw [ChimeUnit.post_empty steps]
    exact h
  by_cases new : ∀ q ∈ u.queue, q.source ≠ source
  · have joined := sources_append (r := posted source pattern priority passes) h.sources new
    cases seq : u.sequencer with
    | idle =>
      rw [ChimeUnit.post_idle seq steps new]
      refine ChimeUnit.select_sound joined ?_
      simp [h.idle seq, posted]
    | playing _ _ _ =>
      rw [ChimeUnit.post_playing seq steps new]
      refine ⟨by rwa [preempt_sources], ?_, by simp [seq]⟩
      rw [preempt_plays, List.countP_append, h.plays]
      rfl
    | gap left =>
      rw [ChimeUnit.post_gap seq steps new]
      refine ⟨joined, ?_, by simp [seq]⟩
      rw [List.countP_append, h.plays]
      rfl
  · obtain ⟨r, mem, rfl⟩ : ∃ r ∈ u.queue, r.source = source := by simpa using new
    obtain ⟨front, rest, queue⟩ := List.append_of_mem mem
    have busy := h.not_idle mem
    obtain ⟨sources, plays, -⟩ := h
    rw [ChimeUnit.post_again sources steps queue rfl]
    rw [queue] at sources plays
    let again := r.repost pattern priority passes
    have moved : (front ++ rest ++ [again]).Perm (front ++ again :: rest) :=
      (List.perm_append_singleton _ _).trans List.perm_middle.symm
    have place : ((front ++ again :: rest).map ChimeRequest.source).Nodup := sources_replace sources rfl
    have count : (front ++ again :: rest).countP ChimeRequest.playing = u.sequencer.running := by
      simpa [again, ChimeRequest.repost, List.countP_cons] using plays
    refine ⟨?_, ?_, fun e => absurd e busy⟩
    · rw [preempt_sources]
      split
      · exact place
      · exact (moved.map _).nodup_iff.mpr place
    · rw [preempt_plays]
      split
      · exact count
      · exact (moved.countP_eq _).trans count

/-! ## Withdrawals -/

theorem withdrawWhere_sources (p : ChimeRequest → Prop) [DecidablePred p] (queue : List ChimeRequest) :
    ((withdrawWhere p queue).map ChimeRequest.source).Sublist (queue.map ChimeRequest.source) := by
  induction queue with
  | nil => exact .slnil
  | cons r rest ih =>
    rw [withdrawWhere, List.filterMap_cons]
    split
    · exact ih.cons _
    · next q kept =>
      have same : q.source = r.source := by
        split at kept
        · split at kept <;> cases kept
          rfl
        · cases kept
          rfl
      rw [List.map_cons, List.map_cons, same]
      exact ih.cons_cons _

/-- A PLAYING request stays when it is withdrawn (R122). -/
theorem withdrawWhere_plays (p : ChimeRequest → Prop) [DecidablePred p] (queue : List ChimeRequest) :
    (withdrawWhere p queue).countP ChimeRequest.playing = queue.countP ChimeRequest.playing := by
  rw [withdrawWhere, List.countP_filterMap]
  refine List.countP_congr fun r _ => ?_
  by_cases hp : p r <;> cases hr : r.playing <;> simp [hp, hr]

theorem ChimeUnit.Sound.withdrawWhere {u : ChimeUnit} (h : u.Sound) (p : ChimeRequest → Prop) [DecidablePred p] :
    ChimeUnit.Sound { u with queue := withdrawWhere p u.queue } :=
  ⟨h.sources.sublist (withdrawWhere_sources p u.queue), (withdrawWhere_plays p u.queue).trans h.plays,
    fun e => by rw [h.idle e]; rfl⟩

theorem ChimeUnit.Sound.withdraw {u : ChimeUnit} (h : u.Sound) (source : Fin 26) : (u.withdraw source).Sound :=
  h.withdrawWhere fun r => r.source = source

/-- Soft Restart withdraws every request (R127). -/
theorem ChimeUnit.restart_queue (u : ChimeUnit) : u.restart.queue = withdrawWhere (fun _ => True) u.queue := by
  simp only [ChimeUnit.restart, Machine.withdrawWhere, if_true, ← List.filterMap_eq_filter, List.map_filterMap]
  refine List.filterMap_congr fun r _ => ?_
  cases h : r.playing <;> simp [Option.guard, h]

theorem ChimeUnit.Sound.restart {u : ChimeUnit} (h : u.Sound) : u.restart.Sound :=
  (h.withdrawWhere fun _ => True).of_queue u.restart_queue rfl id

/-! ## The sequencer's events -/

theorem ChimeUnit.Sound.tick {u : ChimeUnit} (h : u.Sound) : u.tick.Sound := by
  unfold ChimeUnit.tick
  split
  · exact h
  · next seq => exact h.of_queue rfl (by rw [seq]; rfl) nofun
  · next seq => exact h.of_queue rfl (by rw [seq]; rfl) nofun

theorem ChimeUnit.gapEnd_due {u : ChimeUnit} (h : u.sequencer = .gap 0) : u.gapEnd = u.select := by
  simp only [ChimeUnit.gapEnd, h]

theorem ChimeUnit.gapEnd_idle {u : ChimeUnit} (h : u.sequencer ≠ .gap 0) : u.gapEnd = u := by
  unfold ChimeUnit.gapEnd
  split
  · next e => exact absurd e h
  · rfl

theorem ChimeUnit.Sound.gapEnd {u : ChimeUnit} (h : u.Sound) : u.gapEnd.Sound := by
  by_cases due : u.sequencer = .gap 0
  · rw [ChimeUnit.gapEnd_due due]
    exact ChimeUnit.select_sound h.sources (h.all_wait (by rw [due]; rfl))
  · rwa [ChimeUnit.gapEnd_idle due]

/-- The request back to WAITING, with no order and no repost marked (R125, R126). -/
def ChimeRequest.waiting (r : ChimeRequest) : ChimeRequest :=
  { r with playing := false, reposted := false, stop := .none }

/-- The queue once the pass of `r` completes, its last under WITHDRAW or with one pass left (R124, R125). -/
def passCompleted (front : List ChimeRequest) (r : ChimeRequest) (rest : List ChimeRequest) : List ChimeRequest :=
  if r.stop = .withdraw then front ++ rest
  else if r.reposted = true ∨ r.passes = 0 then front ++ rest ++ [r.waiting]
  else if r.passes = 1 then front ++ rest
  else front ++ rest ++ [{ r.waiting with passes := r.passes - 1 }]

section
variable {u : ChimeUnit} {front rest : List ChimeRequest} {r : ChimeRequest}

theorem dropPlaying_only (playing : r.playing = true) (others : ∀ q ∈ front ++ rest, ¬ q.playing = true) :
    dropPlaying (front ++ r :: rest) = front ++ rest := by
  simpa [dropPlaying] using filter_only (p := fun q => q.playing = true) playing others

theorem cutPass_only (playing : r.playing = true) (others : ∀ q ∈ front ++ rest, ¬ q.playing = true) :
    cutPass (front ++ r :: rest) = front ++ r.waiting :: rest :=
  map_only (p := fun q => q.playing = true) playing others ChimeRequest.waiting

theorem completePass_only (playing : r.playing = true) (others : ∀ q ∈ front ++ rest, ¬ q.playing = true) :
    completePass r (front ++ r :: rest) = passCompleted front r rest := by
  have dropped := dropPlaying_only playing others
  have requeued (n : Nat) : requeue r n (front ++ r :: rest) = front ++ rest ++ [{ r.waiting with passes := n }] := by
    rw [requeue, dropped]
    rfl
  unfold completePass passCompleted
  rw [dropped]
  refine if_congr Iff.rfl rfl ?_
  by_cases reposted : r.reposted = true
  · rw [if_pos reposted, if_pos (.inl reposted)]
    exact requeued r.passes
  by_cases endless : r.passes = 0
  · rw [if_neg reposted, if_pos endless, if_pos (.inr endless), requeued, ← endless]
    rfl
  · rw [if_neg reposted, if_neg endless, if_neg (not_or.mpr ⟨reposted, endless⟩), requeued]

/-- The end of a pattern step in a sound unit, by the stop order and the passes of the PLAYING request (R124, R125,
R126). -/
theorem ChimeUnit.Sound.stepEnd_due {steps : List ToneStep} {k : Nat} (h : u.Sound)
    (seq : u.sequencer = .playing steps k 0) (queue : u.queue = front ++ r :: rest) (playing : r.playing = true) :
    u.stepEnd =
      if k + 1 < steps.length then
        match r.stop with
        | .none => { u with sequencer := .playing steps (k + 1) (stepMs steps (k + 1)) }
        | .cut => { u with queue := front ++ r.waiting :: rest, sequencer := .gap 200 }
        | .withdraw => { u with queue := front ++ rest, sequencer := .gap 200 }
      else { u with queue := passCompleted front r rest, sequencer := .gap 200 } := by
  have others := h.others_wait queue playing
  have find := h.find_playing (queue ▸ List.mem_append_right front List.mem_cons_self) playing
  simp only [ChimeUnit.stepEnd, seq, find]
  rw [queue, dropPlaying_only playing others, cutPass_only playing others, completePass_only playing others]
  rfl

end

theorem ChimeUnit.stepEnd_idle {u : ChimeUnit} (h : ∀ steps k, u.sequencer ≠ .playing steps k 0) :
    u.stepEnd = u := by
  unfold ChimeUnit.stepEnd
  split
  · next seq _ => exact absurd seq (h _ _)
  · rfl

theorem passCompleted_cases (front : List ChimeRequest) (r : ChimeRequest) (rest : List ChimeRequest) :
    passCompleted front r rest = front ++ rest ∨
    ∃ n, passCompleted front r rest = front ++ rest ++ [{ r.waiting with passes := n }] := by
  unfold passCompleted
  split
  · exact .inl rfl
  split
  · exact .inr ⟨r.passes, rfl⟩
  split
  · exact .inl rfl
  · exact .inr ⟨_, rfl⟩

theorem ChimeUnit.Sound.stepEnd {u : ChimeUnit} (h : u.Sound) : u.stepEnd.Sound := by
  by_cases due : ∃ steps k, u.sequencer = .playing steps k 0
  swap
  · rwa [ChimeUnit.stepEnd_idle fun steps k seq => due ⟨steps, k, seq⟩]
  obtain ⟨steps, k, seq⟩ := due
  obtain ⟨r, mem, playing⟩ : ∃ r ∈ u.queue, r.playing = true :=
    List.countP_pos_iff.mp (by rw [h.plays, seq]; exact Nat.one_pos)
  obtain ⟨front, rest, queue⟩ := List.append_of_mem mem
  have others := h.others_wait queue playing
  have sources := queue ▸ h.sources
  have dropped : ChimeUnit.Sound { u with queue := front ++ rest, sequencer := .gap 200 } :=
    .of_gap rfl (sources.sublist ((List.sublist_cons_self r rest).append_left front |>.map _)) others
  rw [h.stepEnd_due seq queue playing]
  split
  · split
    · exact h.of_queue rfl (by rw [seq]; rfl) nofun
    · refine .of_gap rfl (sources_replace sources rfl) fun q hq => ?_
      rw [List.perm_middle.mem_iff, List.mem_cons] at hq
      obtain rfl | hq := hq
      · exact Bool.false_ne_true
      · exact others q hq
    · exact dropped
  · obtain gone | ⟨n, back⟩ := passCompleted_cases front r rest
    · rwa [gone]
    · rw [back]
      have alone : ∀ q ∈ front ++ rest, q.source ≠ r.source := others_source sources
      refine .of_gap rfl (sources_append dropped.sources alone) fun q hq => ?_
      rw [List.mem_append, List.mem_singleton] at hq
      obtain hq | rfl := hq
      · exact others q hq
      · exact Bool.false_ne_true

end Sys2Proof.Machine
end

section
/-!
SUPPORT and proof: every step keeps the law of the chime queue (R119 to R127).
-/
namespace Sys2Proof.Machine

/-- A change that leaves a chime unit sound where it finds one (R119). -/
def ChimeKept (s t : State) : Prop := s.chime.Sound → t.chime.Sound

theorem ChimeKept.of_eq {s t : State} (h : t.chime = s.chime) : ChimeKept s t := fun sound => h ▸ sound

theorem ChimeKept.trans {s t u : State} (h : ChimeKept s t) (g : ChimeKept t u) : ChimeKept s u := fun e => g (h e)

theorem ChimeKept.of_withdraw {s t : State} (source : Fin 26) (h : t.chime = s.chime.withdraw source) :
    ChimeKept s t := fun sound => h ▸ sound.withdraw source

theorem ChimeKept.foldl {β : Type} {f : State → β → State} (h : ∀ s b, ChimeKept s (f s b)) (l : List β) (s : State) :
    ChimeKept s (l.foldl f s) :=
  fun sound => List.foldlRecOn l f sound fun t ht b _ => h t b ht

theorem State.postChime_kept (s : State) (source : Fin 26) (pattern : Fin 12) (priority passes : Nat) :
    ChimeKept s (s.postChime source pattern priority passes) :=
  fun sound => sound.post source pattern priority passes

/-! ## Monitors -/

theorem State.postMonitorChime_kept (s : State) (i : Fin 16) : ChimeKept s (s.postMonitorChime i) := by
  unfold State.postMonitorChime
  split
  · exact id
  · exact s.postChime_kept _ _ _ _

/-- A monitor's warning posts its chime, whatever else it does (R104, R110). -/
theorem State.monitorWarn_kept (s : State) (i : Fin 16) (m : Monitor) (claim : Option LampMode) :
    ChimeKept s ((((s.setMonitor i m).setMonitorClaim i claim).postMonitorChime i).notifyMonitor i) := by
  have posted := State.postMonitorChime_kept ((s.setMonitor i m).setMonitorClaim i claim) i
  exact ((ChimeKept.of_eq (by simp)).trans posted).trans (.of_eq (by simp))

theorem State.enterActive_kept (s : State) (i : Fin 16) : ChimeKept s (s.enterActive i) :=
  s.monitorWarn_kept i _ _

theorem State.enterClear_kept (s : State) (i : Fin 16) : ChimeKept s (s.enterClear i) :=
  .of_withdraw (monitorSource i) (by simp [State.enterClear])

theorem State.startAssert_kept (s : State) (i : Fin 16) : ChimeKept s (s.startAssert i) := by
  unfold State.startAssert
  dsimp only
  split
  · exact s.enterActive_kept i
  · exact .of_eq (by simp)

theorem State.startRelease_kept (s : State) (i : Fin 16) : ChimeKept s (s.startRelease i) := by
  unfold State.startRelease
  dsimp only
  split
  · exact s.enterClear_kept i
  · exact .of_eq (by simp)

theorem State.stateRules_kept (s : State) (i : Fin 16) : ChimeKept s (s.stateRules i) := by
  unfold State.stateRules
  dsimp only
  split
  case h_2 =>
    split
    · exact s.startAssert_kept i
    · exact id
  case h_4 =>
    split
    · exact s.startRelease_kept i
    · split
      · exact .of_eq (by simp)
      · exact id
  all_goals exact .of_eq (by simp)

theorem State.evaluate_kept (s : State) (i : Fin 16) : ChimeKept s (s.evaluate i) := by
  unfold State.evaluate
  dsimp only
  split
  · exact id
  · exact (ChimeKept.of_eq (by simp)).trans (State.stateRules_kept _ i)

theorem State.monitorEvaluation_kept (s : State) (i : Fin 16) : ChimeKept s (s.monitorEvaluation i) := by
  unfold State.monitorEvaluation
  dsimp only
  split
  · split
    · exact (ChimeKept.of_eq (by simp)).trans (State.evaluate_kept _ i)
    · exact .of_eq (by simp)
  · exact id

theorem State.assertExpiry_kept (s : State) (i : Fin 16) : ChimeKept s (s.assertExpiry i) :=
  keeps_ite' (fun _ => s.enterActive_kept i) id

theorem State.releaseExpiry_kept (s : State) (i : Fin 16) : ChimeKept s (s.releaseExpiry i) :=
  keeps_ite' (fun _ => s.enterClear_kept i) id

theorem State.reminderExpiry_kept (s : State) (i : Fin 16) : ChimeKept s (s.reminderExpiry i) :=
  keeps_ite' (fun _ => s.monitorWarn_kept i _ _) id

theorem State.monitorExit_kept (s : State) (i : Fin 16) : ChimeKept s (s.monitorExit i) := by
  unfold State.monitorExit
  dsimp only
  split
  · exact id
  split
  · exact .of_eq (by simp)
  · refine .of_withdraw (monitorSource i) ?_
    split <;> simp

theorem State.monitorsExit_kept (s : State) : ChimeKept s s.monitorsExit :=
  .foldl State.monitorExit_kept _ s

theorem State.acknowledge_kept (s : State) (i : Fin 16) : ChimeKept s (s.acknowledge i) := by
  unfold State.acknowledge
  dsimp only
  split
  · exact .of_eq (by simp)
  · let m := { (s.monitorAt i).remind with acked := true }
    let u := ((s.setMonitor i m).setMonitorClaim i (some .on)).withdrawChime (monitorSource i)
    have withdrawn : ChimeKept s u := .of_withdraw (monitorSource i) (by simp [u])
    exact keeps_ite' (fun _ => withdrawn.trans (u.startRelease_kept i)) withdrawn

theorem State.restartMonitors_kept (s : State) : ChimeKept s s.restartMonitors :=
  .foldl (fun t i => .of_withdraw (monitorSource i) (by simp [State.restartMonitor])) _ s

/-! ## Service items -/

theorem State.alignItem_kept (s : State) (k : Fin 6) : ChimeKept s (s.alignItem k) := by
  intro sound
  rw [State.alignItem_chime]
  split
  · exact sound
  · exact sound.withdraw _

theorem State.recount_kept (s : State) (k : Fin 6) (i : ServiceItem) : ChimeKept s (s.recount k i) := by
  unfold State.recount
  split
  · exact .of_eq rfl
  · exact State.alignItem_kept (s.setItem k { i with state := i.computed }) k

theorem State.serviceDu_kept (s : State) : ChimeKept s s.serviceDu :=
  .foldl (fun t k => t.recount_kept k _) _ s

theorem State.serviceKr_kept (s : State) : ChimeKept s s.serviceKr :=
  .foldl (fun t k => t.recount_kept k _) _ s

theorem State.serviceDay_kept (s : State) : ChimeKept s s.serviceDay :=
  .foldl (fun t k => t.recount_kept k _) _ s

theorem State.keyOnChimes_kept (s : State) : ChimeKept s s.keyOnChimes := by
  refine .foldl (fun t k => ?_) _ s
  split
  · exact keeps_ite' (fun _ => t.postChime_kept _ _ _ _) id
  · exact id

theorem State.restartService_kept (s : State) : ChimeKept s s.restartService :=
  .foldl (fun t k => .of_withdraw (serviceSource k) (by simp)) _ s

theorem State.configureItem_kept (s : State) (k : Fin 6) (f : ServiceFields) : ChimeKept s (s.configureItem k f) := by
  intro sound
  rw [State.configureItem_eq]
  dsimp only
  split
  · exact sound
  · exact sound.withdraw _

theorem State.resetItem_kept (s : State) (k : Fin 6) : ChimeKept s (s.resetItem k) := by
  intro sound
  rw [State.resetItem_eq]
  exact sound.withdraw _

/-! ## Events of several blocks -/

theorem State.emitDu_kept (s : State) : ChimeKept s s.emitDu := by
  refine s.countDu.serviceDu_kept.trans (.of_eq ?_)
  rw [State.emitDu_eq]

theorem State.addDistance_kept (s : State) : ChimeKept s s.addDistance := by
  unfold State.addDistance
  split
  · exact State.emitDu_kept { s with accum := { s.accum with rd := s.accum.rd + 100 - s.consts.kvss } }
  · exact id

theorem State.addRevolution_kept (s : State) : ChimeKept s s.addRevolution := by
  unfold State.addRevolution
  split
  · exact State.serviceKr_kept { s with accum := { s.accum with rr := 0 } }
  · exact id

theorem State.takeSpd_kept (s : State) (sub : BitVec 8) : ChimeKept s (s.takeSpd sub) := by
  unfold State.takeSpd
  exact keeps_ite' (fun _ => (ChimeKept.of_eq (by simp)).trans (s.advancePulse sub).spdEdge.addDistance_kept) id

theorem State.takeTac_kept (s : State) (sub : BitVec 8) : ChimeKept s (s.takeTac sub) := by
  unfold State.takeTac
  exact keeps_ite' (fun _ => (ChimeKept.of_eq (by simp)).trans (s.advancePulse sub).tacEdge.addRevolution_kept) id

theorem State.dayEnd_kept (s : State) : ChimeKept s s.dayEnd :=
  keeps_ite' (fun _ => State.serviceDay_kept { s with time := { s.time with dayEnds := s.time.dayEnds - 1 } }) id

theorem State.bulbCheckEnd_kept (s : State) : ChimeKept s s.bulbCheckEnd :=
  keeps_ite' (fun _ => (s.setBulbCheck none).keyOnChimes_kept) id

theorem State.tick_kept (s : State) (di : BitVec 12) (ign : Bool) (pulse : BitVec 5) :
    ChimeKept s (s.tick di ign pulse) := by
  by_cases held : s.power.state = .held
  · exact .of_eq (congrArg State.chime (if_pos held))
  · intro sound
    have counted : (s.tick di ign pulse).chime = if s.awake then s.chime.tick else s.chime := by
      rw [State.tick_eq held]
    rw [counted]
    split
    · exact sound.tick
    · exact sound

theorem State.runExit_kept (s : State) (serviceFirst : Bool) : ChimeKept s (s.runExit serviceFirst) := by
  unfold State.runExit
  refine keeps_ite' (fun _ => ?_) id
  let u := (s.setPower .awakeOff .full).pulseExit
  let v := ((State.clearHolds { u with sampler := u.sampler.runExit }).tripExit.exitPosts serviceFirst).gaugeExit
  have before : v.chime = s.chime := by simp [v, u]
  have after : ((s.exitRun serviceFirst).notifyPower 1).chime = v.monitorsExit.chime := by
    simp [State.exitRun, v, u]
  exact ((ChimeKept.of_eq before).trans v.monitorsExit_kept).trans (.of_eq after)

/-- A part falls asleep with no request, so that an IDLE sequencer meets the law (R127, R162). -/
theorem State.asleepEntry_kept (s : State) : ChimeKept s s.asleepEntry := by
  unfold State.asleepEntry
  refine keeps_ite' (fun h sound => ?_) id
  have empty : s.chime.queue = [] := by
    simp only [State.maySleep, Bool.and_eq_true, List.isEmpty_iff] at h
    tauto
  exact ⟨sound.sources, congrArg (List.countP ChimeRequest.playing) empty, fun _ => empty⟩

theorem State.restore_kept (s : State) : ChimeKept s s.restore := by
  let u := (State.restartDiscretes { s with
    curves := Vector.replicate 12 [], pulse := s.pulse.restart s.inRun s.now,
    sampler := s.sampler.restart }).restartExt.clearHolds.restartGauges
  let v := State.restartLamps { u.restartMonitors with chime := u.restartMonitors.chime.restart }
  have before : ChimeKept s u.restartMonitors := (ChimeKept.of_eq (by simp [u])).trans u.restartMonitors_kept
  have restarted : ChimeKept s v := fun sound => (before sound).restart
  exact (restarted.trans v.restartService_kept).trans (.of_eq (by simp [State.restore, v, u]))

/-! ## Services -/

theorem serveMonitorConfigure_kept (monitor : Byte) (f : MonitorFields) (s : State) :
    ChimeKept s (serveMonitorConfigure monitor f s).state := by
  unfold serveMonitorConfigure
  split
  · exact id
  · next i _ =>
    split
    · exact id
    · exact .of_withdraw (monitorSource i) (by simp [State.configureMonitor])

theorem serveMonitorAcknowledge_kept (monitor : Byte) (s : State) :
    ChimeKept s (serveMonitorAcknowledge monitor s).state := by
  unfold serveMonitorAcknowledge
  split
  · exact .foldl State.acknowledge_kept _ s
  split
  · exact id
  · split
    · exact s.acknowledge_kept _
    · exact id

theorem serveChimePost_kept (slot pattern priority passes : Byte) (s : State) :
    ChimeKept s (serveChimePost slot pattern priority passes s).state := by
  unfold serveChimePost
  split
  · split
    · exact id
    · exact s.postChime_kept _ _ _ _
  · exact id

theorem serveChimeWithdraw_kept (slot : Byte) (s : State) : ChimeKept s (serveChimeWithdraw slot s).state := by
  unfold serveChimeWithdraw
  split
  · exact id
  · exact .foldl (fun t j => .of_withdraw (linkSource j) rfl) _ s

theorem servePatternLoad_kept (pattern count : Byte) (steps : List (Byte × Byte)) (s : State) :
    ChimeKept s (servePatternLoad pattern count steps s).state := by
  intro sound
  unfold servePatternLoad
  split
  · exact sound
  split
  · exact sound
  split
  · exact sound
  split
  · exact sound.of_queue rfl rfl id
  · exact sound

theorem serveServiceConfigure_kept (item : Byte) (f : ServiceFields) (s : State) :
    ChimeKept s (serveServiceConfigure item f s).state := by
  unfold serveServiceConfigure
  split
  · exact id
  · split
    · exact id
    · exact s.configureItem_kept _ f

theorem serveServiceReset_kept (item : Byte) (s : State) : ChimeKept s (serveServiceReset item s).state := by
  unfold serveServiceReset
  split
  · exact id
  · split
    · exact (ChimeKept.foldl State.resetItem_kept _ s).trans (.of_eq rfl)
    · exact id

theorem service_chimeKept {c : Instr} {f : Service} (hc : service? c = some f) (s : State) :
    ChimeKept s (f s).state := by
  cases c <;> simp only [service?, reduceCtorEq, Option.some.injEq] at hc <;> subst hc
  case softRestart => exact s.restore_kept.trans (.of_eq rfl)
  case monitorConfigure monitor fields => exact serveMonitorConfigure_kept monitor fields s
  case monitorAcknowledge monitor => exact serveMonitorAcknowledge_kept monitor s
  case chimePost slot pattern priority passes => exact serveChimePost_kept slot pattern priority passes s
  case chimeWithdraw slot => exact serveChimeWithdraw_kept slot s
  case patternLoad pattern count steps => exact servePatternLoad_kept pattern count steps s
  case serviceConfigure item fields => exact serveServiceConfigure_kept item fields s
  case serviceReset item => exact serveServiceReset_kept item s
  all_goals exact .of_eq (by simp)

/-! ## The law -/

theorem chimeKept_step : StepKeeps fun s => s.chime.Sound where
  link _ _ := id
  reach s _ := ChimeKept.of_eq (s := s) (by simp)
  wake s := ChimeKept.of_eq (s := s) (by simp)
  serve _ _ s hc := service_chimeKept hc s
  pending _ _ := id
  powerOnReset _ _ _ _ _ _ _ := ⟨List.nodup_nil, rfl, fun _ => rfl⟩
  resetnRelease s := ChimeKept.of_eq (s := s) (by simp)
  initEnd s _ := ChimeKept.of_eq (s := s) (by simp)
  tick s di ign pulse _ := s.tick_kept di ign pulse
  discreteChange s _ _ := ChimeKept.of_eq (s := s) (by simp)
  runEntry s _ := ChimeKept.of_eq (s := s) (by simp)
  runExit s serviceFirst _ := s.runExit_kept serviceFirst
  secondEnd s _ := ChimeKept.of_eq (s := s) (by simp)
  dayEnd s _ := s.dayEnd_kept
  freshnessExpiry s _ _ := ChimeKept.of_eq (s := s) (by simp)
  lingerExpiry s _ := ChimeKept.of_eq (s := s) (by simp)
  asleepEntry s _ := s.asleepEntry_kept
  spdEdge s sub _ := s.takeSpd_kept sub
  tacEdge s sub _ := s.takeTac_kept sub
  injLevelChange s _ _ := ChimeKept.of_eq (s := s) (by simp)
  idxEdge s _ := ChimeKept.of_eq (s := s) (by simp)
  windowClose s _ _ := ChimeKept.of_eq (s := s) (by simp)
  analogSample s _ _ _ := ChimeKept.of_eq (s := s) (by simp)
  tripSecond s _ := ChimeKept.of_eq (s := s) (by simp)
  gaugeMotionStep s _ := ChimeKept.of_eq (s := s) (by simp)
  sweepDelayExpiry s _ := ChimeKept.of_eq (s := s) (by simp)
  sweepTimeoutExpiry s _ := ChimeKept.of_eq (s := s) (by simp)
  syncFallingEdge s _ := ChimeKept.of_eq (s := s) (by simp)
  syncPulseEnd s _ := ChimeKept.of_eq (s := s) (by simp)
  monitorEvaluation s i _ := s.monitorEvaluation_kept i
  assertTimerExpiry s i _ := s.assertExpiry_kept i
  releaseTimerExpiry s i _ := s.releaseExpiry_kept i
  reminderExpiry s i _ := s.reminderExpiry_kept i
  chimeStepEnd _ _ sound := sound.stepEnd
  gapEnd _ _ sound := sound.gapEnd
  bulbCheckEnd s _ := s.bulbCheckEnd_kept
  flashHalfChange s _ := ChimeKept.of_eq (s := s) (by simp)
  dutySetting s _ := ChimeKept.of_eq (s := s) (by simp)
  drumStep s _ := ChimeKept.of_eq (s := s) (by simp)
  drumIndexMiss s _ := ChimeKept.of_eq (s := s) (by simp)
  drumCoilOff s _ := ChimeKept.of_eq (s := s) (by simp)
  eepromWriteBegin s _ := ChimeKept.of_eq (s := s) (by simp)
  eepromWordComplete s _ := ChimeKept.of_eq (s := s) (by simp)
  eepromWordFail s _ := ChimeKept.of_eq (s := s) (by simp)

/-- Settles O8: what every operation of a command keeps of the chime unit every step keeps. -/
theorem chimeQueueLaw : Obligations.ChimeQueueLaw := by
  intro s t hs he
  have sound := chimeKept_step.step (s.chimeSound_iff.mp hs) he
  exact ⟨t.chimeSound_iff.mpr sound, sound.length_le⟩

end Sys2Proof.Machine
end

section
/-!
SUPPORT and proof: the end of a pattern step and of a gap, and the tone on SPKR (R122 to R126).
-/
namespace Sys2Proof.Machine

section
variable {front rest : List ChimeRequest} {r : ChimeRequest}

theorem passCompleted_withdraw (h : r.stop = .withdraw) : passCompleted front r rest = front ++ rest := if_pos h

theorem passCompleted_again (h : r.stop ≠ .withdraw) (again : r.reposted = true ∨ r.passes = 0) :
    passCompleted front r rest = front ++ rest ++ [r.waiting] := by
  rw [passCompleted, if_neg h, if_pos again]

theorem passCompleted_counted (h : r.stop ≠ .withdraw) (reposted : r.reposted = false) (passes : r.passes ≠ 0) :
    passCompleted front r rest =
      if r.passes = 1 then front ++ rest else front ++ rest ++ [{ r.waiting with passes := r.passes - 1 }] := by
  rw [passCompleted, if_neg h, if_neg (by simp [reposted, passes])]

end

theorem ChimeUnit.tone_playing {u : ChimeUnit} {steps : List ToneStep} {k left : Nat} {x : ToneStep}
    (seq : u.sequencer = .playing steps k left) (step : steps[k]? = some x) : u.tone = x.tone := by
  rw [ChimeUnit.tone, seq]
  dsimp only
  rw [step]
  rfl

/-- SPKR is silent in IDLE and in a gap (R124). -/
theorem ChimeUnit.tone_silent {u : ChimeUnit} (h : u.sequencer.running = 0) : u.tone = 0 := by
  unfold ChimeUnit.tone
  split
  · next seq => simp [seq, Sequencer.running] at h
  · rfl

/-- Settles O42: the step's end by the stop order and the passes of the PLAYING request, the gap's end as a
selection. -/
theorem chimeSequence : Obligations.ChimeSequence := by
  intro s hs sound goes
  have unit := s.chimeSound_iff.mp sound
  have ends {u : ChimeUnit} (h : s.chime.stepEnd = u) : exec .chimeStepEnd s = .next { s with chime := u } :=
    h ▸ exec_chimeStepEnd hs
  refine ⟨fun idle => ends (ChimeUnit.stepEnd_idle idle), fun steps k front r rest seq queue playing => ?_,
    fun steps k left x => ChimeUnit.tone_playing, fun seq => ChimeUnit.tone_silent (by rw [seq]; rfl),
    fun left seq => ChimeUnit.tone_silent (by rw [seq]; rfl), fun early => ?_, fun due => ?_⟩
  · have due := unit.stepEnd_due seq queue playing
    rw [stepMs_eq] at due
    refine ⟨fun more => ?_, fun last => ?_⟩
    · rw [if_pos more] at due
      refine ⟨fun stop => ?_, fun stop => ?_, fun stop => ?_⟩ <;> (rw [stop] at due; exact ends due)
    · rw [if_neg (Nat.not_lt.mpr last)] at due
      refine ⟨fun stop => ?_, fun stop again => ?_, fun stop reposted one => ?_, fun stop reposted more => ?_⟩
      · rw [passCompleted_withdraw stop] at due
        exact ends due
      · rw [passCompleted_again stop again] at due
        exact ends due
      · rw [passCompleted_counted stop reposted (by omega), if_pos one] at due
        exact ends due
      · rw [passCompleted_counted stop reposted (by omega), if_neg (by omega)] at due
        exact ends due
  · rw [exec_gapEnd hs, ChimeUnit.gapEnd_idle early]
  · exact ⟨s.chime.select, by rw [exec_gapEnd hs, ChimeUnit.gapEnd_due due], ChimeUnit.select_selects unit.sources⟩

end Sys2Proof.Machine
end

section
/-!
SUPPORT and proofs: the states of the lamps, the bulb check, the flash clock and the ON-phase duty (R133 to R136, R146).
-/
namespace Sys2Proof.Machine

/-! ## A lamp's state -/

theorem LampUnit.any_claim (u : LampUnit) (l : Fin 12) (p : Option LampMode → Bool) :
    u.claims[l].toList.any p = true ↔ ∃ c : Fin 23, p (u.claim l c) = true := by
  rw [Vector.any_toList, Vector.any_eq_true, Fin.exists_iff]
  rfl

/-- With no bulb check the claims decide, FLASH before ON (R133). -/
theorem LampUnit.state_claims {u : LampUnit} (h : u.bulbCheck = none) (l : Fin 12) :
    u.state l = if ∃ c : Fin 23, u.claim l c = some .flash then .flash
      else if ∃ c : Fin 23, u.claim l c ≠ none then .on else .off := by
  simp only [LampUnit.state, h, LampUnit.any_claim, Option.isSome_none, Bool.false_eq_true, if_false, beq_iff_eq,
    Option.isSome_iff_ne_none]

theorem claim_cases {m : Option LampMode} (h : m ≠ none) : m = some .on ∨ m = some .flash := by
  rcases m with _ | _ | _ <;> simp at h ⊢

theorem State.awake_iff (s : State) : s.awake = true ↔ s.power.state = .run ∨ s.power.state = .awakeOff := by
  simp [State.awake]

theorem State.lampOutput_awake {s : State} (h : s.awake = true) (l : Fin 12) :
    s.lampOutput l = match s.lamp.state l with
      | .off => 0
      | .on => s.lamp.duty
      | .flash => if (s.lamp.flash.map FlashClock.lit).getD false then s.lamp.duty else 0 :=
  if_pos h

/-- Settles O43: the state from the claims, the output from the state. -/
theorem lampState : Obligations.LampState := by
  intro s l
  refine ⟨fun check => if_pos (Option.isSome_iff_ne_none.mpr check), fun quiet => ?_, fun run off => ?_, fun on => ?_⟩
  · rw [LampUnit.state_claims quiet]
    by_cases flash : ∃ c : Fin 23, s.lamp.claim l c = some .flash
    · obtain ⟨c, hc⟩ := flash
      have claimed : s.lamp.claim l c ≠ none := by simp [hc]
      rw [if_pos ⟨c, hc⟩]
      exact ⟨iff_of_true rfl ⟨c, hc⟩, iff_of_false nofun fun h => h.2 c hc, iff_of_false nofun fun h => claimed (h c)⟩
    have steady : ∀ c : Fin 23, s.lamp.claim l c ≠ some .flash := fun c hc => flash ⟨c, hc⟩
    rw [if_neg flash]
    by_cases claimed : ∃ c : Fin 23, s.lamp.claim l c ≠ none
    · obtain ⟨c, hc⟩ := claimed
      have on := (claim_cases hc).resolve_right (steady c)
      rw [if_pos ⟨c, hc⟩]
      exact ⟨iff_of_false nofun flash, iff_of_true rfl ⟨⟨c, on⟩, steady⟩, iff_of_false nofun fun h => hc (h c)⟩
    · have none_left : ∀ c : Fin 23, s.lamp.claim l c = none := by simpa using claimed
      rw [if_neg claimed]
      refine ⟨iff_of_false nofun flash, iff_of_false nofun fun ⟨⟨c, hc⟩, _⟩ => ?_, iff_of_true rfl none_left⟩
      exact claimed ⟨c, by simp [hc]⟩
  · exact if_neg (mt s.awake_iff.mp (not_or.mpr ⟨run, off⟩))
  · rw [State.lampOutput_awake (s.awake_iff.mpr on)]
    refine ⟨fun h => by rw [h], fun h => by rw [h], fun f h clock => ?_⟩
    rw [h, clock]
    rfl

/-! ## The lamp events -/

/-- A fold that reaches the chime unit by `g` alone and keeps the service items is the fold of `g`. -/
theorem foldl_chime {β : Type} {f : State → β → State} {g : ChimeUnit → β → ChimeUnit} {l : List β} {s : State}
    (h : ∀ t b, t.service = s.service → (f t b).service = s.service ∧ (f t b).chime = g t.chime b) :
    (l.foldl f s).chime = l.foldl g s.chime := by
  suffices ∀ t : State, t.service = s.service → (l.foldl f t).chime = l.foldl g t.chime from this s rfl
  induction l with
  | nil => exact fun _ _ => rfl
  | cons b l ih =>
    intro t ht
    obtain ⟨service, chime⟩ := h t b ht
    rw [List.foldl_cons, List.foldl_cons, ih _ service, chime]

/-- The key-on chimes of the items, as the statement spells them out (R146, log entry 12). -/
theorem State.keyOnChimes_chime (s : State) :
    s.keyOnChimes.chime = (List.finRange 6).foldl (fun u k =>
      let i := s.service[k]
      if h : i.config.pattern.toNat < 12 then
        (if i.state = .due ∨ i.state = .overdue then
          u.post (serviceSource k) ⟨i.config.pattern.toNat, h⟩ i.config.priority.toNat i.config.passes.toNat
         else u)
      else u) s.chime := by
  refine foldl_chime fun t k ht => ?_
  simp only [ht, ServiceItem.chime?, index?, dueState, Bool.or_eq_true, beq_iff_eq]
  by_cases pattern : s.service[k].config.pattern.toNat < 12
  · simp only [pattern, dif_pos, Option.map_some]
    split
    · exact ⟨ht, rfl⟩
    · exact ⟨ht, rfl⟩
  · simp only [pattern, dif_neg, not_false_eq_true, Option.map_none]
    exact ⟨ht, trivial⟩

theorem State.keyOnChimes_eq (s : State) : s.keyOnChimes = { s with chime := s.keyOnChimes.chime } := by
  apply State.ext_fields <;> simp

theorem LampUnit.turn_early {u : LampUnit} (h : ∀ f, u.flash = some f → f.ms < 500) : u.turn = u := by
  unfold LampUnit.turn
  split
  · next f flash => exact if_neg (Nat.not_le.mpr (h f flash))
  · rfl

theorem LampUnit.turn_due {u : LampUnit} {f : FlashClock} (flash : u.flash = some f) (h : 500 ≤ f.ms) :
    u.turn = { u with flash := some { lit := !f.lit, ms := f.ms - 500 } } := by
  simp only [LampUnit.turn, flash, if_pos h]

/-- The dimming discrete is set and active (R136). -/
def State.dimmed (s : State) : Prop :=
  ∃ k : Fin 12, s.lamp.dimming = some k ∧ s.discretes.inputs[k].level = s.discretes.inputs[k].activeHigh

/-- The duty that DIMMER's presented value gives: at least 16, and full where it is not usable (R136). -/
def dimmerDuty (p : Nat × Validity) : Nat :=
  match p with
  | (v, .valid) => max v 16
  | (v, .held) => max v 16
  | _ => 255

theorem dimmerDuty_usable {p : Nat × Validity} (h : p.2 = .valid ∨ p.2 = .held) :
    dimmerDuty p = if p.1 < 16 then 16 else p.1 := by
  obtain ⟨v, x⟩ := p
  rcases h with rfl | rfl <;> (simp only [dimmerDuty]; split <;> omega)

theorem dimmerDuty_unusable {p : Nat × Validity} (h : p.2 ≠ .valid ∧ p.2 ≠ .held) : dimmerDuty p = 255 := by
  obtain ⟨v, x⟩ := p
  cases x <;> simp [dimmerDuty] at h ⊢

theorem State.dutyNow_dimmed {s : State} (h : s.dimmed) :
    s.dutyNow = dimmerDuty (s.channels.records[(7 : Fin 16)]).presented := by
  obtain ⟨k, dimming, level⟩ := h
  have active : s.discretes.inputs[k].active = true := by simpa [Discrete.active] using level
  simp only [State.dutyNow, dimming, active, if_true]
  rfl

theorem State.dutyNow_full {s : State} (h : ¬ s.dimmed) : s.dutyNow = 255 := by
  unfold State.dutyNow
  split
  · rfl
  · next k dimming => exact if_neg fun active => h ⟨k, dimming, by simpa [Discrete.active] using active⟩

theorem State.dutySetting_iff (s : State) :
    (s.awake && decide (20 ≤ s.lamp.dutyClock)) = true ↔ ¬ (s.awake = false ∨ s.lamp.dutyClock < 20) := by
  simp

/-- Settles O44: each event by what it does when it is due. -/
theorem lampEvents : Obligations.LampEvents := by
  intro s hs
  rw [exec_bulbCheckEnd hs, exec_flashHalfChange hs, exec_dutySetting hs]
  refine ⟨fun h => congrArg _ (if_neg h), fun due => ?_, fun h => ?_, fun f flash due => ?_, fun h => ?_,
    fun on due => ?_⟩
  · rw [State.bulbCheckEnd, if_pos due, State.keyOnChimes_eq, State.keyOnChimes_chime]
    rfl
  · rw [State.flashHalf, LampUnit.turn_early h]
  · rw [State.flashHalf, LampUnit.turn_due flash due]
  · exact congrArg _ (if_neg (s.dutySetting_iff.not_left.mpr h))
  · have set := s.dutySetting_iff.mpr (by simp [on, due])
    refine ⟨s.dutyNow, congrArg _ (if_pos set), fun dim usable => ?_, fun full => ?_⟩
    · rw [State.dutyNow_dimmed dim]
      exact dimmerDuty_usable usable
    · by_cases dim : s.dimmed
      · rw [State.dutyNow_dimmed dim]
        exact dimmerDuty_unusable (full.resolve_left (not_not.mpr dim))
      · exact State.dutyNow_full dim

end Sys2Proof.Machine
end

section
/-!
SUPPORT and proof: the chime requests, served at once (R119, R121, R126, R128 to R131).
-/
namespace Sys2Proof.Machine

/-! ## The patterns -/

theorem ChimeUnit.steps_loaded (u : ChimeUnit) (k : Fin 4) : u.steps ⟨8 + k.val, by omega⟩ = u.loaded[k] := by
  simp [ChimeUnit.steps]

theorem servePatternLoad_length {count : Byte} {steps : List (Byte × Byte)} (pattern : Byte) (s : State)
    (h : steps.length ≠ count.toNat) : servePatternLoad pattern count steps s = refuse s .length := if_pos h

/-- A step of a Pattern Load is sound: a tone code and a duration that is not 0 (R128). -/
theorem tonesOf_sound (steps : List (Byte × Byte)) :
    ((tonesOf steps).all fun t => decide (t.tone ≤ 4) && decide (1 ≤ t.duration)) = true ↔
      ¬ ∃ x ∈ steps, 4 < x.1.toNat ∨ x.2.toNat = 0 := by
  simp [tonesOf, Nat.one_le_iff_ne_zero]

theorem servePatternLoad_bad {pattern count : Byte} {steps : List (Byte × Byte)} (s : State)
    (hl : steps.length = count.toNat)
    (h : pattern.toNat < 8 ∨ 11 < pattern.toNat ∨ count.toNat < 1 ∨ 6 < count.toNat ∨
      ∃ x ∈ steps, 4 < x.1.toNat ∨ x.2.toNat = 0) :
    servePatternLoad pattern count steps s = refuse s .badArgument := by
  refine (if_neg (not_not.mpr hl)).trans ?_
  by_cases named : 8 ≤ pattern.toNat ∧ pattern.toNat < 12
  · obtain ⟨low, high⟩ := named
    rw [if_pos low, index?_some ⟨pattern.toNat - 8, by omega⟩ rfl]
    by_cases counted : count.toNat < 1 ∨ 6 < count.toNat
    · exact if_pos counted
    · have unsound : ∃ x ∈ steps, 4 < x.1.toNat ∨ x.2.toNat = 0 := by
        rcases h with h | h | h | h | h
        · omega
        · omega
        · exact absurd (.inl h) counted
        · exact absurd (.inr h) counted
        · exact h
      exact (if_neg counted).trans (if_neg ((tonesOf_sound steps).not_left.mpr unsound))
  · have none_named : (if 8 ≤ pattern.toNat then index? 4 (pattern.toNat - 8) else none) = none := by
      split
      · exact index?_none (by omega)
      · rfl
    rw [none_named]

theorem servePatternLoad_good {pattern count : Byte} {steps : List (Byte × Byte)} (s : State) (k : Fin 4)
    (hl : steps.length = count.toNat) (hp : pattern.toNat = 8 + k.val)
    (h : ¬ (pattern.toNat < 8 ∨ 11 < pattern.toNat ∨ count.toNat < 1 ∨ 6 < count.toNat ∨
      ∃ x ∈ steps, 4 < x.1.toNat ∨ x.2.toNat = 0)) :
    servePatternLoad pattern count steps s =
      accepted { s with chime := { s.chime with loaded := s.chime.loaded.set k (tonesOf steps) } } := by
  have named : (if 8 ≤ pattern.toNat then index? 4 (pattern.toNat - 8) else none) = some k := by
    rw [if_pos (by omega), index?_some k (by omega)]
  refine (if_neg (not_not.mpr hl)).trans ?_
  rw [named]
  simp only [not_or] at h
  obtain ⟨-, -, low, high, sound⟩ := h
  exact (if_neg (by omega)).trans (if_pos ((tonesOf_sound steps).mpr sound))

/-! ## Chime Post -/

theorem serveChimePost_bad {slot pattern : Byte} (priority passes : Byte) (s : State)
    (h : 3 < slot.toNat ∨ 11 < pattern.toNat) :
    serveChimePost slot pattern priority passes s = refuse s .badArgument := by
  unfold serveChimePost
  split
  · next hj hp =>
    rcases h with h | h
    · cases hj.symm.trans (index?_none h)
    · cases hp.symm.trans (index?_none h)
  · rfl

section
variable {slot pattern : Byte} {s : State} {j : Fin 4} {p : Fin 12}
variable (hj : slot.toNat = j.val) (hp : pattern.toNat = p.val)
include hj hp

theorem serveChimePost_empty (priority passes : Byte) (h : s.chime.steps p = []) :
    serveChimePost slot pattern priority passes s = refuse s .badArgument := by
  rw [serveChimePost, index?_some j hj, index?_some p hp]
  exact if_pos h

/-- A post of a good slot and pattern, with the priority and the passes clamped (R129). -/
theorem serveChimePost_good (priority passes : Byte) (h : s.chime.steps p ≠ []) :
    serveChimePost slot pattern priority passes s = accepted { s with
      chime := s.chime.post (linkSource j) p (if 7 < priority.toNat then 7 else priority.toNat)
        (if 15 < passes.toNat then 15 else passes.toNat) } := by
  rw [serveChimePost, index?_some j hj, index?_some p hp, ← min_def_lt, ← min_def_lt, min_comm 7, min_comm 15]
  exact if_neg h

end

/-! ## Chime Withdraw -/

/-- The requests of the slots named, withdrawn one after another (R130). -/
theorem foldl_withdrawChime (slots : List (Fin 4)) (s : State) :
    slots.foldl (fun s j => s.withdrawChime (linkSource j)) s = { s with
      chime := { s.chime with
        queue := withdrawWhere (fun r => ∃ j ∈ slots, r.source = linkSource j) s.chime.queue } } := by
  induction slots generalizing s with
  | nil => simp [withdrawWhere]
  | cons j slots ih =>
    rw [List.foldl_cons, ih]
    refine congrArg (fun q => ({ s with chime := { s.chime with queue := q } } : State))
      ((withdrawWhere_withdrawWhere _).trans (List.filterMap_congr fun r _ => if_congr ?_ rfl rfl))
    simp only [List.mem_cons, exists_eq_or_imp]

/-- The slots' source codes are the last four (section 7). -/
theorem exists_linkSource (source : Fin 26) :
    (∃ j ∈ List.finRange 4, source = linkSource j) ↔ 22 ≤ source.val := by
  simp only [List.mem_finRange, true_and, linkSource, Fin.ext_iff]
  constructor
  · rintro ⟨j, h⟩
    omega
  · intro h
    exact ⟨⟨source.val - 22, by omega⟩, by simp; omega⟩

theorem request?_link (u : ChimeUnit) (j : Fin 4) :
    (u.request? (linkSource j)).isSome = u.queue.any fun r => decide (r.source.val = 22 + j.val) := by
  rw [Bool.eq_iff_iff]
  simp [ChimeUnit.request?, linkSource, Fin.ext_iff]

theorem serveChimeWithdraw_bad {slot : Byte} (s : State) (h : 3 < slot.toNat) (single : slot ≠ 255) :
    serveChimeWithdraw slot s = refuse s .badArgument := by
  rw [serveChimeWithdraw, slotsOf, if_neg single, index?_none h]
  rfl

/-- The slots named are withdrawn, and the answer is how many of them had a request (R130). -/
theorem serveChimeWithdraw_named {slot : Byte} {slots : List (Fin 4)} (s : State) (h : slotsOf slot = some slots) :
    serveChimeWithdraw slot s = reading
      { s with chime := { s.chime with
        queue := withdrawWhere (fun r => ∃ j ∈ slots, r.source = linkSource j) s.chime.queue } }
      [byte (slots.filter fun j => s.chime.queue.any fun r => decide (r.source.val = 22 + j.val)).length] := by
  rw [serveChimeWithdraw, h]
  simp only [foldl_withdrawChime, request?_link]
  rfl

/-! ## Chime Read -/

/-- A page of the queue, at most six requests from `first` (R131, R182). -/
def chimePage (u : ChimeUnit) (first : Byte) : List Byte :=
  let page := (u.queue.drop first.toNat).take 6
  byte page.length :: page.flatMap ChimeRequest.record

theorem byte_stopCode (x : StopOrder) :
    byte (stopCode x) = match x with | .none => (0 : Byte) | .cut => 1 | .withdraw => 2 := by
  cases x <;> rfl

section
variable {first : Byte} {s : State}

theorem serveChimeRead_bad (h : 25 < first.toNat) : serveChimeRead first s = refuse s .badArgument := if_pos h

variable (h : first.toNat ≤ 25)
include h

theorem serveChimeRead_idle (seq : s.chime.sequencer = .idle) :
    serveChimeRead first s =
      reading s ([0, byte s.chime.queue.length, 255, 0, 0, 0, 0] ++ chimePage s.chime first) := by
  rw [serveChimeRead, if_neg (Nat.not_lt.mpr h), seq]
  rfl

theorem serveChimeRead_gap {left : Nat} (seq : s.chime.sequencer = .gap left) :
    serveChimeRead first s =
      reading s ([2, byte s.chime.queue.length, 255, 0, 0] ++ bytes2 left ++ chimePage s.chime first) := by
  rw [serveChimeRead, if_neg (Nat.not_lt.mpr h), seq]
  rfl

theorem serveChimeRead_playing {steps : List ToneStep} {k left : Nat} {r : ChimeRequest}
    (seq : s.chime.sequencer = .playing steps k left)
    (find : s.chime.queue.find? (fun q => q.playing) = some r) :
    serveChimeRead first s =
      reading s ([1, byte s.chime.queue.length, byte r.source.val, byte k,
        match r.stop with | .none => 0 | .cut => 1 | .withdraw => 2] ++ bytes2 left ++ chimePage s.chime first) := by
  rw [serveChimeRead, if_neg (Nat.not_lt.mpr h), seq, find, ← byte_stopCode]
  rfl

end

/-- Settles O58: each request is served at once, refused or carried out by its service's lemmas. -/
theorem chimeRequests : Obligations.ChimeRequests := by
  intro s hs sound t chime
  have unit := s.chimeSound_iff.mp sound
  have hchime : t.chime = s.chime := by simp [t]
  refine ⟨⟨rfl, rfl, rfl, rfl, rfl, rfl, rfl, rfl, s.chime.steps_loaded⟩, fun slot pattern priority passes => ?_,
    fun slot => ?_, fun pattern count steps => ?_, fun first => ?_⟩
  · intro cmd level count
    refine ⟨fun bad => exec_badArgument hs rfl rfl (serveChimePost_bad priority passes t bad), fun j p hj hp => ?_⟩
    intro source preempted queued
    have answered {u : ChimeUnit} (steps : s.chime.steps p ≠ []) (h : s.chime.post source p level count = u) :
        exec cmd s = .next ((chime u).replied 0x30 0 []) := by
      have served := serveChimePost_good hj hp priority passes (s := t) (hchime ▸ steps)
      rw [hchime] at served
      exact h ▸ exec_accepted hs rfl rfl served
    refine ⟨fun empty => ?_, fun steps new => ?_, fun front r rest steps queue same => ?_⟩
    · exact exec_badArgument hs rfl rfl (serveChimePost_empty hj hp priority passes (hchime ▸ empty))
    · refine ⟨fun seq => ?_, fun left seq => answered steps (ChimeUnit.post_gap seq steps new level count),
        fun _ k left seq => answered steps (ChimeUnit.post_playing seq steps new level count)⟩
      have distinct := sources_append (r := posted source p level count) unit.sources new
      exact ⟨_, answered steps (ChimeUnit.post_idle seq steps new level count), ChimeUnit.select_selects distinct⟩
    · exact answered steps (ChimeUnit.post_again unit.sources steps queue same level count)
  · intro has
    refine ⟨fun bad single => exec_badArgument hs rfl rfl (serveChimeWithdraw_bad t bad single), fun j hj => ?_, ?_⟩
    · have single : slot ≠ 255 := by bv_omega
      have named : slotsOf slot = some [j] := by
        rw [slotsOf, if_neg single, index?_some j hj]
        rfl
      have queue : withdrawWhere (fun r => ∃ i ∈ [j], r.source = linkSource i) s.chime.queue =
          withdrawn (linkSource j) s.chime.queue :=
        List.filterMap_congr fun r _ => if_congr (by simp) rfl rfl
      have count : byte ([j].filter has).length = if has j then 1 else 0 := by
        cases present : has j <;> (rw [List.filter_singleton, present]; rfl)
      have served := serveChimeWithdraw_named t named
      rw [hchime, queue, count] at served
      exact exec_reading hs rfl rfl served
    · intro all leaves
      have named : slotsOf slot = some (List.finRange 4) := if_pos all
      have queue : withdrawWhere (fun r => ∃ i ∈ List.finRange 4, r.source = linkSource i) s.chime.queue =
          s.chime.queue.filterMap leaves :=
        List.filterMap_congr fun r _ => if_congr (exists_linkSource r.source) rfl rfl
      have served := serveChimeWithdraw_named t named
      rw [hchime, queue] at served
      exact exec_reading hs rfl rfl served
  · intro bad
    refine ⟨fun h => exec_refused (r := .length) hs rfl rfl (servePatternLoad_length pattern t h),
      fun hl h => exec_badArgument hs rfl rfl (servePatternLoad_bad t hl h), fun k hl h hp => ?_⟩
    have served := servePatternLoad_good t k hl hp h
    rw [hchime] at served
    exact exec_accepted hs rfl rfl served
  · refine ⟨fun bad => exec_badArgument hs rfl rfl (serveChimeRead_bad bad), fun good => ?_⟩
    intro page n records
    refine ⟨fun seq => ?_, fun left seq => ?_, fun steps k left r seq mem playing => ?_⟩
    · have served := serveChimeRead_idle good (s := t) (hchime ▸ seq)
      rw [hchime] at served
      exact exec_reading hs rfl rfl served
    · have served := serveChimeRead_gap good (s := t) (hchime ▸ seq)
      rw [hchime] at served
      exact exec_reading hs rfl rfl served
    · have find := unit.find_playing mem playing
      have served := serveChimeRead_playing good (s := t) (hchime ▸ seq) (hchime ▸ find)
      rw [hchime] at served
      exact exec_reading hs rfl rfl served

end Sys2Proof.Machine
end

section
/-!
SUPPORT and proof: the end of a second and the end of a day (R141, R143 to R145, R161).
-/
namespace Sys2Proof.Machine

/-- A day end reaches the six items, each of which then stands with its state recomputed (R141, R143). -/
theorem State.serviceDay_result (s : State) :
    (∀ k : Fin 6, s.serviceDay.service[k] =
      { s.service[k] with sinceDays := bump s.service[k].sinceDays Config.sinceDaysMax }.settled) ∧
    serviceActions s s.serviceDay := by
  obtain ⟨items, actions⟩ := foldl_recount (fun i => { i with sinceDays := bump i.sinceDays Config.sinceDaysMax })
    (fun _ => rfl) (fun _ => rfl) (List.finRange 6) (List.nodup_finRange 6) s
  exact ⟨fun k => (items k).trans (if_pos (List.mem_finRange k)), actions⟩

theorem State.serviceDay_eq (s : State) :
    s.serviceDay = { s with service := s.serviceDay.service, lamp := s.serviceDay.lamp, chime := s.serviceDay.chime,
                            notices := s.serviceDay.notices } := by
  apply State.ext_fields <;> simp

/-- The off-duration alone counts with a second, in AWAKE_OFF and ASLEEP (R161). -/
theorem PowerControl.second_eq (p : PowerControl) :
    p.second = { p with
      offDuration := if p.state = .awakeOff ∨ p.state = .asleep then
          p.offDuration.map fun n => bump n Config.offDurationMax
        else p.offDuration } := by
  unfold PowerControl.second
  split <;> rfl

/-- A second that is due counts in the time and in the off-duration (R141, R161). -/
theorem State.secondEnd_due {s : State} (h : 1000 ≤ s.time.ms) :
    s.secondEnd = { s with time := s.time.second, power := s.power.second } := if_pos h

/-- A day that has ended reaches the items once (R141). -/
theorem State.dayEnd_due {s : State} (h : 0 < s.time.dayEnds) :
    s.dayEnd = State.serviceDay { s with time := { s.time with dayEnds := s.time.dayEnds - 1 } } := if_pos h

/-- Settles O23: a second due moves the time and the off-duration, and a day that has ended reaches the items by
`State.serviceDay_result`. -/
theorem calendarResult : Obligations.CalendarResult := by
  intro s hs
  rw [exec_secondEnd hs, exec_dayEnd hs]
  refine ⟨fun early => congrArg _ (if_neg (Nat.not_le.mpr early)), fun due => ?_, fun none => ?_, fun ended => ?_⟩
  · rw [State.secondEnd_due due, PowerControl.second_eq]
    refine ⟨fun within => ?_, fun midnight => ?_⟩
    · rw [TimeBase.second, if_pos within]
      rfl
    · rw [TimeBase.second, if_neg (Nat.not_lt.mpr midnight)]
      rfl
  · exact congrArg _ (if_neg (Nat.not_lt.mpr none.le))
  · let u : State := { s with time := { s.time with dayEnds := s.time.dayEnds - 1 } }
    have frame := u.serviceDay_eq
    obtain ⟨items, actions⟩ := u.serviceDay_result
    refine ⟨u.serviceDay, congrArg _ (State.dayEnd_due ended), ?_⟩
    generalize u.serviceDay = t at *
    exact ⟨frame, items, actions⟩

end Sys2Proof.Machine
end

section
/-!
SUPPORT and proof: every step keeps each service item in the state that its settings and counts give, which does not
fall while the settings stand and the counts do not (R142, R143).
-/
namespace Sys2Proof.Machine

/-! ## The state by the counts -/

/-- With the same settings a higher count gives no lower level (R142). -/
theorem ServiceItem.basisState_mono {i j : ServiceItem} (h : j.config = i.config) (u : Nat) {c d : Nat} (hc : c ≤ d) :
    serviceCode (i.basisState u c) ≤ serviceCode (j.basisState u d) := by
  have late : u * 100 ≤ u * (100 + i.config.grace.toNat) := Nat.mul_le_mul_left u (Nat.le_add_right _ _)
  have soon : u * (100 - i.config.margin.toNat) ≤ u * 100 := Nat.mul_le_mul_left u (Nat.sub_le _ _)
  unfold ServiceItem.basisState basisLevel
  rw [h]
  (repeat' split) <;> simp only [serviceCode] <;> omega

/-- The higher of two states rises with both of them. -/
theorem highest_mono {a b c d : ServiceState} (h : serviceCode a ≤ serviceCode c) (g : serviceCode b ≤ serviceCode d) :
    serviceCode (highest a b) ≤ serviceCode (highest c d) :=
  (le_serviceCode_highest _ _ _).mpr (((le_serviceCode_highest _ _ _).mp le_rfl).imp (·.trans h) (·.trans g))

/-- With the same settings higher counts give no lower state (R143). -/
theorem ServiceItem.computed_mono {i j : ServiceItem} (h : j.config = i.config) (du : i.sinceDu ≤ j.sinceDu)
    (days : i.sinceDays ≤ j.sinceDays) (kr : i.sinceKr ≤ j.sinceKr) :
    serviceCode i.computed ≤ serviceCode j.computed := by
  by_cases enabled : i.config.enabled = 0
  · rw [ServiceItem.computed, if_pos enabled]
    exact Nat.zero_le _
  · rw [ServiceItem.computed_enabled enabled, ServiceItem.computed_enabled (h ▸ enabled), h]
    exact highest_mono (highest_mono (basisState_mono h _ du) (basisState_mono h _ days)) (basisState_mono h _ kr)

/-- An item with the default settings is DISABLED, whatever its counts (R143). -/
theorem ServiceItem.computed_defaults {i : ServiceItem} (h : i.config = serviceDefaults) : i.computed = .disabled := by
  rw [ServiceItem.computed, h]
  rfl

/-! ## Items that stand in their computed state -/

/-- Every item stands in the state that its settings and counts give (R143). -/
def State.itemsSettled (s : State) : Prop := ∀ k : Fin 6, s.service[k].state = s.service[k].computed

/-- The items of a part held in reset have their default settings (R154). -/
def State.heldDefaults (s : State) : Prop :=
  s.power.state = .held → ∀ k : Fin 6, s.service[k].config = serviceDefaults

theorem State.serviceSound_iff (s : State) : s.serviceSound ↔ s.itemsSettled ∧ s.heldDefaults :=
  forall_and.trans (and_congr_right' forall_comm)

/-- A change that leaves the items in their computed states where it finds them so. -/
def ItemsKept (s t : State) : Prop := s.itemsSettled → t.itemsSettled

theorem ItemsKept.of_eq {s t : State} (h : t.service = s.service) : ItemsKept s t := by
  intro settled k
  rw [h]
  exact settled k

theorem ItemsKept.trans {s t u : State} (h : ItemsKept s t) (g : ItemsKept t u) : ItemsKept s u := g ∘ h

theorem ItemsKept.foldl {β : Type} {f : State → β → State} (h : ∀ s b, ItemsKept s (f s b)) (l : List β) (s : State) :
    ItemsKept s (l.foldl f s) :=
  fun settled => List.foldlRecOn l f settled fun t ht b _ => h t b ht

/-- One item replaced by one in its computed state. -/
theorem ItemsKept.of_set {s t : State} {k : Fin 6} {i : ServiceItem} (h : t.service = s.service.set k i)
    (hi : i.state = i.computed) : ItemsKept s t := by
  intro settled j
  rw [h, set_get]
  split
  · exact hi
  · exact settled j

/-- Items that were all recomputed stand in their computed states. -/
theorem State.itemsSettled_of_settled {s : State} {f : Fin 6 → ServiceItem}
    (h : ∀ k : Fin 6, s.service[k] = (f k).settled) : s.itemsSettled := by
  intro k
  rw [h]
  rfl

/-! ## The counts -/

theorem State.addDistance_items (s : State) : ItemsKept s s.addDistance := by
  unfold State.addDistance
  refine keeps_ite' (fun _ _ => ?_) id
  let u : State := State.countDu { s with accum := { s.accum with rd := s.accum.rd + 100 - s.consts.kvss } }
  have counted : u.serviceDu.itemsSettled := State.itemsSettled_of_settled u.serviceDu_result.1
  exact ItemsKept.of_eq (by simp [State.emitDu, u]) counted

theorem State.addRevolution_items (s : State) : ItemsKept s s.addRevolution := by
  unfold State.addRevolution
  exact keeps_ite' (fun _ _ => State.itemsSettled_of_settled (State.serviceKr_result _).1) id

theorem State.takeSpd_items (s : State) (sub : BitVec 8) : ItemsKept s (s.takeSpd sub) := by
  rw [State.takeSpd_eq]
  exact keeps_ite' (fun _ => (ItemsKept.of_eq rfl).trans (broughtTo s sub).spdEdge.addDistance_items) id

theorem State.takeTac_items (s : State) (sub : BitVec 8) : ItemsKept s (s.takeTac sub) := by
  rw [State.takeTac_eq]
  exact keeps_ite' (fun _ => (ItemsKept.of_eq rfl).trans (broughtTo s sub).tacEdge.addRevolution_items) id

theorem State.dayEnd_items (s : State) : ItemsKept s s.dayEnd := by
  unfold State.dayEnd
  exact keeps_ite' (fun _ _ => State.itemsSettled_of_settled (State.serviceDay_result _).1) id

/-! ## The services -/

theorem State.configureItem_items (s : State) (k : Fin 6) (f : ServiceFields) : ItemsKept s (s.configureItem k f) :=
  .of_set (by rw [State.configureItem_eq]) rfl

theorem State.resetItem_items (s : State) (k : Fin 6) : ItemsKept s (s.resetItem k) :=
  .of_set (by rw [State.resetItem_eq]) rfl

/-- Soft Restart puts every item at the default settings, DISABLED (R154). -/
theorem State.restartService_items (s : State) : ItemsKept s s.restartService :=
  .foldl (fun t k => .of_set (k := k) (i := { t.service[k] with config := serviceDefaults, state := .disabled })
    (by simp) (ServiceItem.computed_defaults rfl).symm) _ s

/-- What Soft Restart restores before the items leaves them, and what it restores after them too. -/
theorem State.restore_service (s : State) :
    ∃ u : State, s.restore.service = u.restartService.service ∧ u.service = s.service :=
  ⟨_, by rw [State.restore], by simp⟩

theorem State.restore_items (s : State) : ItemsKept s s.restore := by
  obtain ⟨u, after, before⟩ := s.restore_service
  exact ((ItemsKept.of_eq before).trans u.restartService_items).trans (.of_eq after)

theorem serveServiceConfigure_items (item : Byte) (f : ServiceFields) (s : State) :
    ItemsKept s (serveServiceConfigure item f s).state := by
  unfold serveServiceConfigure
  split
  · exact id
  · split
    · exact id
    · exact s.configureItem_items _ f

theorem serveServiceReset_items (item : Byte) (s : State) : ItemsKept s (serveServiceReset item s).state := by
  unfold serveServiceReset
  split
  · exact id
  · split
    · exact (ItemsKept.foldl State.resetItem_items _ s).trans (.of_eq rfl)
    · exact id

theorem service_itemsKept {c : Instr} {f : Service} (hc : service? c = some f) (s : State) :
    ItemsKept s (f s).state := by
  cases c <;> simp only [service?, reduceCtorEq, Option.some.injEq] at hc <;> subst hc
  case softRestart => exact s.restore_items.trans (.of_eq rfl)
  case serviceConfigure item fields => exact serveServiceConfigure_items item fields s
  case serviceReset item => exact serveServiceReset_items item s
  all_goals exact .of_eq (by simp)

/-- The end of INIT looks at the pins first (log entry 7) and does not reach the items. -/
theorem State.takeInitEnd_items (s : State) (m : Moment) : ItemsKept s (s.takeInitEnd m) := by
  unfold State.takeInitEnd
  exact keeps_ite' (fun _ => .of_eq (by simp)) id

theorem State.takeRunEntry_items (s : State) (m : Moment) : ItemsKept s (s.takeRunEntry m) := by
  unfold State.takeRunEntry
  exact keeps_ite' (fun _ => keeps_ite' (fun _ => .of_eq (by simp)) id) id

theorem itemsSettled_link : LinkKeeps State.itemsSettled where
  link _ _ := id
  reach s _ := ItemsKept.of_eq (s := s) (by simp)
  wake s := ItemsKept.of_eq (s := s) (by simp)
  serve _ _ s hc := service_itemsKept hc s

/-! ## What a command can do to the items -/

/-- A command keeps the items in their computed states, or is a power-on reset or the release of RESETN. -/
inductive ItemStep (s t : State) : Prop
  | kept (h : ItemsKept s t)
  | reset (di : BitVec 12) (ign : Bool) (pulse : BitVec 5) (lrate drumfit : Bool)
      (h : t = s.powerOnReset di ign pulse lrate drumfit)
  | release (h : t = s.release)

/-- An event as a row: in a part held in reset it does not take place (R155). -/
theorem ItemStep.event {s u : State} (h : ItemsKept s u) : ItemStep s (if s.power.state = .held then s else u) :=
  .kept (keeps_ite id fun _ => h)

/-- Every command is one of the three: a request row by its service, an event row by its operation. -/
theorem exec_itemStep {c : Instr} {s t : State} (he : exec c s = .next t) : ItemStep s t := by
  have link := itemsSettled_link
  rcases hc : service? c with _ | f
  case some => exact .kept fun settled => link.exec_request hc settled he
  cases c <;> simp only [service?, reduceCtorEq] at hc <;> obtain rfl := Host.Outcome.next.inj he
  case powerOnReset => exact .reset _ _ _ _ _ rfl
  case resetnRelease => exact .release rfl
  case initEnd m => exact .event (s.takeInitEnd_items m)
  case runEntry m => exact .event (s.takeRunEntry_items m)
  case dayEnd => exact .event s.dayEnd_items
  case spdEdge sub => exact .event (s.takeSpd_items sub)
  case tacEdge sub => exact .event (s.takeTac_items sub)
  case characterReceived b stop m => exact .event fun settled => link.receive settled b stop m
  case characterGapTimeout => exact .event link.gapTimeout
  case replyEnd m => exact .event fun settled => link.replyEnd settled m
  -- the other events do not reach the Service Schedule
  all_goals exact .event (.of_eq (by simp))

/-! ## A part held in reset -/

theorem running_link : LinkKeeps fun s => s.power.state ≠ .held :=
  .of_meters (fun _ _ h hs => hs ∘ h.held) fun _ _ _ _ _ s hs => by simpa using hs

/-- A part that runs is held in reset by a power-on reset alone (R155). -/
theorem exec_running {c : Instr} {s t : State} (hs : s.power.state ≠ .held) (he : exec c s = .next t) :
    t.power.state ≠ .held ∨ ∃ di ign pulse lrate drumfit, t = s.powerOnReset di ign pulse lrate drumfit := by
  have run {u v : State} (hu : u.power.state = .run) (hv : v.power = u.power) : v.power.state ≠ .held := by
    simp [hv, hu]
  cases exec_meterStep he with
  | kept h => exact .inl (hs ∘ h.held)
  | link h => exact .inl (h _ running_link hs)
  | reset di ign pulse lrate drumfit hc h => exact .inr ⟨di, ign, pulse, lrate, drumfit, h⟩
  | release hc h => exact .inl (h.trans (if_neg hs) ▸ hs)
  | distance sub hc u hu hrun h => exact .inl (run hrun (by simp [h]))
  | revolution u hu hrun h => exact .inl (run hrun (by simp [h]))
  | window tripFirst hrun h => exact .inl (run hrun (by simp [h]))
  | drumStep hd h => exact .inl (h ▸ hs)

/-- In a part held in reset only a power-on reset and the release of RESETN act (R155). -/
theorem exec_held {c : Instr} {s t : State} (hs : s.power.state = .held) (he : exec c s = .next t) :
    t = s ∨ (∃ di ign pulse lrate drumfit, t = s.powerOnReset di ign pulse lrate drumfit) ∨ t = s.release := by
  rcases hc : service? c with _ | f
  case some =>
    have request : (frame? c).isSome = true := by rw [frame?_isSome, hc]; rfl
    exact .inl (Host.Outcome.next.inj (he.symm.trans (exec_request_held request hs)))
  cases c <;> simp only [service?, reduceCtorEq] at hc <;> obtain rfl := Host.Outcome.next.inj he
  case powerOnReset => exact .inr (.inl ⟨_, _, _, _, _, rfl⟩)
  case resetnRelease => exact .inr (.inr rfl)
  all_goals exact .inl (if_pos hs)

/-! ## The law -/

theorem State.powerOnReset_serviceSound (s : State) (di : BitVec 12) (ign : Bool) (pulse : BitVec 5)
    (lrate drumfit : Bool) : (s.powerOnReset di ign pulse lrate drumfit).serviceSound := by
  intro k
  have initial : (s.powerOnReset di ign pulse lrate drumfit).service[k] = ServiceItem.initial := by
    change (Vector.replicate 6 ServiceItem.initial)[k] = ServiceItem.initial
    simp
  rw [initial]
  exact ⟨rfl, fun _ => rfl⟩

/-- The reading of the service block moves an item's counts alone (R151). -/
theorem ServiceItem.load_keeps (i : ServiceItem) (m : Memory) (valid : Bool) (k : Nat) :
    (i.load m valid k).config = i.config ∧ (i.load m valid k).state = i.state := by
  unfold ServiceItem.load
  split <;> exact ⟨rfl, rfl⟩

/-- The counts that INIT reads leave DISABLED the items that it finds with their default settings (R151, R154). -/
theorem State.release_serviceSound {s : State} (hs : s.serviceSound) : s.release.serviceSound := by
  by_cases held : s.power.state = .held
  · intro k
    obtain ⟨settled, defaults⟩ := hs k
    have defaults := defaults held
    have item : s.release.service[k] =
        s.service[k].load s.eeprom.memory (serviceBlockValid s.eeprom.memory) k.val := by
      rw [State.release, if_pos held]
      exact loadService_get s.loadHeader.loadRing k
    obtain ⟨config, state⟩ :=
      s.service[k].load_keeps s.eeprom.memory (serviceBlockValid s.eeprom.memory) k.val
    rw [item, state, config, settled, ServiceItem.computed_defaults defaults,
      ServiceItem.computed_defaults (config.trans defaults)]
    exact ⟨rfl, fun _ => defaults⟩
  · rw [State.release, if_neg held]
    exact hs

/-- Every command keeps each item in its computed state, and the default settings in a part held in reset. -/
theorem exec_serviceSound {c : Instr} {s t : State} (hs : s.serviceSound) (he : exec c s = .next t) :
    t.serviceSound := by
  by_cases held : s.power.state = .held
  · rcases exec_held held he with rfl | ⟨di, ign, pulse, lrate, drumfit, rfl⟩ | rfl
    · exact hs
    · exact s.powerOnReset_serviceSound di ign pulse lrate drumfit
    · exact State.release_serviceSound hs
  rcases exec_running held he with running | ⟨di, ign, pulse, lrate, drumfit, rfl⟩
  · cases exec_itemStep he with
    | kept h =>
      obtain ⟨settled, -⟩ := s.serviceSound_iff.mp hs
      exact t.serviceSound_iff.mpr ⟨h settled, fun h => absurd h running⟩
    | reset di ign pulse lrate drumfit h => exact h ▸ s.powerOnReset_serviceSound di ign pulse lrate drumfit
    | release h => exact h ▸ State.release_serviceSound hs
  · exact s.powerOnReset_serviceSound di ign pulse lrate drumfit

/-- Settles O10: a step keeps every item in its computed state, and the computed state rises with the counts. -/
theorem serviceStateLaw : Obligations.ServiceStateLaw := by
  intro s t hs he
  have sound : t.serviceSound := by
    obtain ⟨-, rfl⟩ | ⟨c, rest, -, he⟩ := step_cases he
    · exact hs
    · exact exec_serviceSound (s := s.setPending rest) hs he
  refine ⟨sound, fun k config du days kr => ?_⟩
  rw [(hs k).1, (sound k).1]
  exact ServiceItem.computed_mono config du days kr

end Sys2Proof.Machine
end

section
/-!
SUPPORT: the bulb check's timer, which its start, its stop and the tick alone move (R134).
-/
namespace Sys2Proof.Machine

@[simp] theorem State.setClaim_bulbCheck (s : State) (l : Fin 12) (k : Fin 23) (c : Option LampMode) :
    (s.setClaim l k c).lamp.bulbCheck = s.lamp.bulbCheck := rfl

@[simp] theorem State.startLamps_bulbCheck (s : State) : s.startLamps.lamp.bulbCheck = s.lamp.bulbCheck := rfl

@[simp] theorem State.startClocks_bulbCheck (s : State) : s.startClocks.lamp.bulbCheck = s.lamp.bulbCheck := rfl

@[simp] theorem State.wake_bulbCheck (s : State) (cause : Nat) : (s.wake cause).lamp.bulbCheck = s.lamp.bulbCheck := rfl

@[simp] theorem State.restartLamps_bulbCheck (s : State) : s.restartLamps.lamp.bulbCheck = s.lamp.bulbCheck := rfl

@[simp] theorem State.dutySetting_bulbCheck (s : State) : s.dutySetting.lamp.bulbCheck = s.lamp.bulbCheck := by
  unfold State.dutySetting
  split <;> rfl

@[simp] theorem State.flashHalf_bulbCheck (s : State) : s.flashHalf.lamp.bulbCheck = s.lamp.bulbCheck := by
  unfold State.flashHalf LampUnit.turn
  cases s.lamp.flash with
  | none => rfl
  | some f => dsimp only; split <;> rfl

/-! ## The monitors' claims -/

@[simp] theorem State.setMonitorClaim_bulbCheck (s : State) (i : Fin 16) (c : Option LampMode) :
    (s.setMonitorClaim i c).lamp.bulbCheck = s.lamp.bulbCheck := by
  unfold State.setMonitorClaim
  split <;> rfl

@[simp] theorem State.enterActive_bulbCheck (s : State) (i : Fin 16) :
    (s.enterActive i).lamp.bulbCheck = s.lamp.bulbCheck := by
  simp [State.enterActive]

@[simp] theorem State.enterClear_bulbCheck (s : State) (i : Fin 16) :
    (s.enterClear i).lamp.bulbCheck = s.lamp.bulbCheck := by
  simp [State.enterClear]

@[simp] theorem State.startAssert_bulbCheck (s : State) (i : Fin 16) :
    (s.startAssert i).lamp.bulbCheck = s.lamp.bulbCheck := by
  unfold State.startAssert
  dsimp only
  split <;> simp

@[simp] theorem State.startRelease_bulbCheck (s : State) (i : Fin 16) :
    (s.startRelease i).lamp.bulbCheck = s.lamp.bulbCheck := by
  unfold State.startRelease
  dsimp only
  split <;> simp

@[simp] theorem State.stateRules_bulbCheck (s : State) (i : Fin 16) :
    (s.stateRules i).lamp.bulbCheck = s.lamp.bulbCheck := by
  unfold State.stateRules
  dsimp only
  split
  case h_2 => split <;> simp
  case h_4 => split <;> [skip; split] <;> simp
  all_goals simp

@[simp] theorem State.evaluate_bulbCheck (s : State) (i : Fin 16) :
    (s.evaluate i).lamp.bulbCheck = s.lamp.bulbCheck := by
  unfold State.evaluate
  dsimp only
  split <;> simp

@[simp] theorem State.acknowledge_bulbCheck (s : State) (i : Fin 16) :
    (s.acknowledge i).lamp.bulbCheck = s.lamp.bulbCheck := by
  unfold State.acknowledge
  dsimp only
  split
  · simp
  · split <;> simp

@[simp] theorem State.configureMonitor_bulbCheck (s : State) (i : Fin 16) (f : MonitorFields) :
    (s.configureMonitor i f).lamp.bulbCheck = s.lamp.bulbCheck := by
  simp [State.configureMonitor]

@[simp] theorem State.restartMonitors_bulbCheck (s : State) : s.restartMonitors.lamp.bulbCheck = s.lamp.bulbCheck :=
  foldl_keeps (fun s => s.lamp.bulbCheck) _ (fun s i => by simp [State.restartMonitor]) _ s

/-! ## The items' claims -/

@[simp] theorem State.setItemClaim_bulbCheck (s : State) (k : Fin 6) (l : Option (Fin 12)) (c : Option LampMode) :
    (s.setItemClaim k l c).lamp.bulbCheck = s.lamp.bulbCheck := by
  cases l <;> rfl

@[simp] theorem State.recount_bulbCheck (s : State) (k : Fin 6) (i : ServiceItem) :
    (s.recount k i).lamp.bulbCheck = s.lamp.bulbCheck := by
  unfold State.recount
  split
  · rfl
  · simp [State.alignItem_lamp]

@[simp] theorem State.serviceDu_bulbCheck (s : State) : s.serviceDu.lamp.bulbCheck = s.lamp.bulbCheck := by
  unfold State.serviceDu
  exact foldl_keeps (fun s => s.lamp.bulbCheck) _ (fun _ _ => State.recount_bulbCheck _ _ _) _ s

@[simp] theorem State.serviceKr_bulbCheck (s : State) : s.serviceKr.lamp.bulbCheck = s.lamp.bulbCheck := by
  unfold State.serviceKr
  exact foldl_keeps (fun s => s.lamp.bulbCheck) _ (fun _ _ => State.recount_bulbCheck _ _ _) _ s

@[simp] theorem State.serviceDay_bulbCheck (s : State) : s.serviceDay.lamp.bulbCheck = s.lamp.bulbCheck := by
  unfold State.serviceDay
  exact foldl_keeps (fun s => s.lamp.bulbCheck) _ (fun _ _ => State.recount_bulbCheck _ _ _) _ s

@[simp] theorem State.restartService_bulbCheck (s : State) : s.restartService.lamp.bulbCheck = s.lamp.bulbCheck :=
  foldl_keeps (fun s => s.lamp.bulbCheck) _ (fun s k => by simp) _ s

theorem State.moveItemClaim_bulbCheck (s : State) (k : Fin 6) (old new : ServiceItem) :
    (s.moveItemClaim k old new).lamp.bulbCheck = s.lamp.bulbCheck := by
  unfold State.moveItemClaim
  split <;> simp

@[simp] theorem State.configureItem_bulbCheck (s : State) (k : Fin 6) (f : ServiceFields) :
    (s.configureItem k f).lamp.bulbCheck = s.lamp.bulbCheck := by
  rw [State.configureItem_eq]
  exact s.moveItemClaim_bulbCheck k _ _

@[simp] theorem State.resetItem_bulbCheck (s : State) (k : Fin 6) :
    (s.resetItem k).lamp.bulbCheck = s.lamp.bulbCheck := by
  simp [State.resetItem]

@[simp] theorem State.emitDu_bulbCheck (s : State) : s.emitDu.lamp.bulbCheck = s.lamp.bulbCheck := by
  rw [State.emitDu_eq]
  simp

@[simp] theorem State.addDistance_bulbCheck (s : State) : s.addDistance.lamp.bulbCheck = s.lamp.bulbCheck := by
  unfold State.addDistance
  split <;> simp

@[simp] theorem State.addRevolution_bulbCheck (s : State) : s.addRevolution.lamp.bulbCheck = s.lamp.bulbCheck := by
  unfold State.addRevolution
  split <;> simp

end Sys2Proof.Machine
end

section
/-!
SUPPORT and proof: every step keeps the law of sleep (R134, R156, R162, R164).
-/
namespace Sys2Proof.Machine

/-! ## Operations that leave the power state -/

theorem State.awake_congr {s t : State} (h : t.power.state = s.power.state) : t.awake = s.awake := by
  simp only [State.awake, h]

/-- What leaves the blocks of the law of sleep leaves a quiet part quiet. -/
theorem State.quiet.of_eq {s t : State} (hs : s.quiet) (h : t.chime.queue = s.chime.queue ∧
    t.gauge.gauges = s.gauge.gauges ∧ t.eeprom.queue = s.eeprom.queue ∧ t.eeprom.flight = s.eeprom.flight ∧
    t.drum.state = s.drum.state ∧ t.drum.debt = s.drum.debt) : t.quiet := by
  obtain ⟨chime, gauges, queue, flight, state, debt⟩ := h
  unfold State.quiet
  rwa [chime, gauges, queue, flight, state, debt]

/-- An operation that keeps the power state and the link's frames, and does not disturb a part that does not run: it
starts no bulb check and leaves a part that is not awake quiet. -/
structure SleepKept (s t : State) : Prop where
  state : t.power.state = s.power.state
  queue : t.link.queue = s.link.queue
  reply : t.link.reply = s.link.reply
  bulb : s.lamp.bulbCheck = none → t.lamp.bulbCheck = none
  quiet : s.awake = false → s.quiet → t.quiet

theorem SleepKept.refl (s : State) : SleepKept s s := ⟨rfl, rfl, rfl, id, fun _ => id⟩

theorem SleepKept.trans {s t u : State} (h : SleepKept s t) (g : SleepKept t u) : SleepKept s u where
  state := g.state.trans h.state
  queue := g.queue.trans h.queue
  reply := g.reply.trans h.reply
  bulb := g.bulb ∘ h.bulb
  quiet asleep := g.quiet ((State.awake_congr h.state).trans asleep) ∘ h.quiet asleep

/-- In a part that is awake only the power state, the link and the bulb check count. -/
theorem SleepKept.of_awake {s t : State} (awake : s.awake = true)
    (h : t.power.state = s.power.state ∧ t.link = s.link ∧ t.lamp.bulbCheck = s.lamp.bulbCheck) : SleepKept s t where
  state := h.1
  queue := congrArg Link.queue h.2.1
  reply := congrArg Link.reply h.2.1
  bulb := h.2.2.trans
  quiet asleep := absurd (awake.symm.trans asleep) (by decide)

/-- What leaves the blocks of the law of sleep keeps it. -/
theorem SleepKept.of_eq {s t : State} (h : (t.power.state = s.power.state ∧ t.link = s.link ∧
      t.lamp.bulbCheck = s.lamp.bulbCheck) ∧ t.chime.queue = s.chime.queue ∧ t.gauge.gauges = s.gauge.gauges ∧
      t.eeprom = s.eeprom ∧ t.drum = s.drum) : SleepKept s t := by
  obtain ⟨⟨state, link, bulb⟩, chime, gauges, eeprom, drum⟩ := h
  refine ⟨state, congrArg _ link, congrArg _ link, bulb.trans, fun _ quiet => quiet.of_eq ?_⟩
  exact ⟨chime, gauges, congrArg _ eeprom, congrArg _ eeprom, congrArg _ drum, congrArg _ drum⟩

/-- What keeps the power state keeps the law of sleep. -/
theorem SleepKept.sleepSound {s t : State} (h : SleepKept s t) (hs : s.sleepSound) : t.sleepSound := by
  obtain ⟨quiet, bulb, asleep, init, held⟩ := hs
  unfold State.sleepSound
  rw [State.awake_congr h.state, h.state, h.queue, h.reply]
  exact ⟨fun e => h.quiet e (quiet e), fun e => h.bulb (bulb e), asleep, init, held⟩

/-- An operation that happens only in a part that is awake. -/
theorem SleepKept.ite_awake {s t : State} {p : Prop} [Decidable p] (awake : p → s.awake = true)
    (h : t.power.state = s.power.state ∧ t.link = s.link ∧ t.lamp.bulbCheck = s.lamp.bulbCheck) :
    SleepKept s (if p then t else s) := by
  split
  · next due => exact .of_awake (awake due) h
  · exact .refl s

theorem State.awake_of_inRun {s : State} (h : s.inRun = true) : s.awake = true := by
  simp [State.awake, show (s.power.state == .run) = true from h]

theorem State.awake_of_admits {s : State} {m : Monitor} (h : s.admits m = true) : s.awake = true := by
  unfold State.admits at h
  split at h
  · exact State.awake_of_inRun h
  · exact h

/-! ## The events -/

theorem State.tick_sleepKept {s : State} (h : s.power.state ≠ .held) (di : BitVec 12) (ign : Bool)
    (pulse : BitVec 5) : SleepKept s (s.tick di ign pulse) := by
  have state : s.power.tick.state = s.power.state := by
    unfold PowerControl.tick
    split <;> rfl
  have link : s.link.tick.queue = s.link.queue ∧ s.link.tick.reply = s.link.reply := by
    unfold Link.tick
    split <;> exact ⟨rfl, rfl⟩
  rw [State.tick_eq h]
  refine ⟨state, link.1, link.2, fun bulb => ?_, fun asleep quiet => ?_⟩
  · exact congrArg countDown bulb
  · obtain ⟨chime, gauges, queue, flight, drum⟩ := quiet
    refine ⟨?_, gauges, queue, ?_, ?_⟩
    · simpa [asleep] using chime
    · exact congrArg (Option.map _) flight
    · simpa [asleep] using drum

theorem State.secondEnd_sleepKept (s : State) : SleepKept s s.secondEnd := by
  have state : s.power.second.state = s.power.state := by
    unfold PowerControl.second
    split <;> rfl
  unfold State.secondEnd
  split
  · exact .of_eq ⟨⟨state, rfl, rfl⟩, rfl, rfl, rfl, rfl⟩
  · exact .refl s

theorem State.recount_empty {s : State} (h : s.chime.queue = []) (k : Fin 6) (i : ServiceItem) :
    (s.recount k i).chime.queue = [] := by
  unfold State.recount
  split
  · exact h
  · rw [State.alignItem_chime]
    split
    · exact h
    · exact congrArg (List.filterMap _) h

theorem State.serviceDay_empty {s : State} (h : s.chime.queue = []) : s.serviceDay.chime.queue = [] := by
  unfold State.serviceDay
  exact List.foldlRecOn (motive := fun t : State => t.chime.queue = []) _ _ h fun _ ht _ _ => State.recount_empty ht _ _

theorem State.dayEnd_empty {s : State} (h : s.chime.queue = []) : s.dayEnd.chime.queue = [] := by
  unfold State.dayEnd
  split
  · refine State.serviceDay_empty ?_
    exact h
  · exact h

theorem State.dayEnd_sleepKept (s : State) : SleepKept s s.dayEnd := by
  have bulb : s.dayEnd.lamp.bulbCheck = s.lamp.bulbCheck := by
    unfold State.dayEnd
    split <;> simp
  refine ⟨by simp, by simp, by simp, bulb.trans, fun _ quiet => ?_⟩
  exact quiet.of_eq ⟨(State.dayEnd_empty quiet.1).trans quiet.1.symm, by simp⟩

theorem State.lingerExpiry_sleepKept (s : State) : SleepKept s s.lingerExpiry := by
  unfold State.lingerExpiry
  split
  · next due => exact .of_eq ⟨⟨due.1.symm, rfl, rfl⟩, rfl, rfl, rfl, rfl⟩
  · exact .refl s

theorem State.takeSpd_sleepKept (s : State) (sub : BitVec 8) : SleepKept s (s.takeSpd sub) :=
  .ite_awake (fun due => State.awake_of_inRun (by simp at due; exact due.1)) (by simp)

theorem State.takeTac_sleepKept (s : State) (sub : BitVec 8) : SleepKept s (s.takeTac sub) :=
  .ite_awake (fun due => State.awake_of_inRun (by simp at due; exact due.1)) (by simp)

theorem State.takeIdx_sleepKept (s : State) : SleepKept s s.takeIdx :=
  .ite_awake (fun due => by simp at due; exact due.1) (by simp)

/-! ## The gauges -/

/-- A gauge that is PARKED stays so in a motion step outside RUN (R86). -/
theorem State.gaugesStepped_parked {s : State} (asleep : s.awake = false)
    (h : ∀ k : Fin 6, s.gauge.gauges[k].mode = .parked) : s.gaugesStepped.gauge.gauges = s.gauge.gauges := by
  refine vector_ext_get fun k => (s.gaugesStepped_gauge k).trans (State.steppedGauge_stays ⟨h k, fun run => ?_⟩)
  have awake := State.awake_of_inRun (beq_iff_eq.mpr run.1)
  exact absurd (awake.symm.trans asleep) (by decide)

theorem State.motionStep_sleepKept (s : State) : SleepKept s s.motionStep := by
  by_cases due : 10 ≤ s.gauge.clock
  · obtain ⟨w, q, checked, -⟩ := s.gaugesStepped.checkSweep_touches
    rw [State.motionStep_due due, checked]
    refine ⟨rfl, rfl, rfl, id, fun asleep quiet => quiet.of_eq ?_⟩
    exact ⟨rfl, State.gaugesStepped_parked asleep quiet.2.1, rfl, rfl, rfl, rfl⟩
  · rw [State.motionStep_idle (Nat.lt_of_not_le due)]
    exact .refl s

/-- No PARKED gauge is ARMED. -/
theorem State.moveArmed_parked {s : State} (h : ∀ k : Fin 6, s.gauge.gauges[k].mode = .parked) (m : GaugeMode) :
    (s.moveArmed m).gauge.gauges = s.gauge.gauges := by
  refine vector_ext_get fun k => ?_
  rw [State.moveArmed, State.setGauges_gauge, vmap_get, if_neg]
  rw [h k]
  decide

theorem State.checkSweep_gauges (s : State) : s.checkSweep.gauge.gauges = s.gauge.gauges := by
  obtain ⟨w, q, checked, -⟩ := s.checkSweep_touches
  rw [checked]

theorem State.startSweep_gauges (s : State) (cause : SweepCause) :
    (s.startSweep cause).gauge.gauges = s.gauge.gauges ∨
      (s.startSweep cause).gauge.gauges = (s.moveArmed .sweepUp).gauge.gauges := by
  unfold State.startSweep
  split
  · refine .inr ?_
    dsimp only
    split <;> rfl
  · exact .inl rfl

theorem State.sweepDelayExpiry_sleepKept (s : State) : SleepKept s s.sweepDelayExpiry := by
  refine ⟨by simp, by simp, by simp, by simp, fun _ quiet => quiet.of_eq ⟨by simp, ?_, by simp⟩⟩
  unfold State.sweepDelayExpiry
  split
  · rcases (s.setSweep { s.gauge.sweep with delayTimer := none }).startSweep_gauges .delay with h | h
    · exact h
    · exact h.trans (State.moveArmed_parked quiet.2.1 _)
  · rfl

theorem State.sweepTimeoutExpiry_sleepKept (s : State) : SleepKept s s.sweepTimeoutExpiry := by
  refine ⟨by simp, by simp, by simp, by simp, fun _ quiet => quiet.of_eq ⟨by simp, ?_, by simp⟩⟩
  unfold State.sweepTimeoutExpiry
  split
  · exact (State.checkSweep_gauges _).trans (State.moveArmed_parked quiet.2.1 _)
  · rfl

theorem State.syncEdge_sleepKept (s : State) : SleepKept s s.syncEdge :=
  .ite_awake (fun due => State.awake_of_inRun (by simp at due; exact due.1.1)) (by simp)

theorem State.syncPulseEnd_sleepKept (s : State) : SleepKept s s.syncPulseEnd := by
  unfold State.syncPulseEnd
  split
  · exact .of_eq ⟨⟨rfl, rfl, rfl⟩, rfl, rfl, rfl, rfl⟩
  · exact .refl s

/-! ## The monitors, the chimes, the drum and the EEPROM port -/

theorem State.monitorEvaluation_sleepKept (s : State) (i : Fin 16) : SleepKept s (s.monitorEvaluation i) := by
  have taken : SleepKept s (s.setMonitor i { s.monitorAt i with due := false }) :=
    .of_eq ⟨⟨rfl, rfl, rfl⟩, rfl, rfl, rfl, rfl⟩
  unfold State.monitorEvaluation
  dsimp only
  split
  · refine taken.trans (.ite_awake (fun due => ?_) (by simp))
    rw [Bool.and_eq_true] at due
    exact State.awake_of_admits due.2
  · exact .refl s

theorem State.assertExpiry_sleepKept (s : State) (i : Fin 16) : SleepKept s (s.assertExpiry i) :=
  .ite_awake (fun due => State.awake_of_admits due.2.2) (by simp)

theorem State.releaseExpiry_sleepKept (s : State) (i : Fin 16) : SleepKept s (s.releaseExpiry i) :=
  .ite_awake (fun due => State.awake_of_admits due.2.2) (by simp)

theorem State.reminderExpiry_sleepKept (s : State) (i : Fin 16) : SleepKept s (s.reminderExpiry i) :=
  .ite_awake (fun due => State.awake_of_admits due.2.2) (by simp)

theorem ChimeUnit.stepEnd_empty {u : ChimeUnit} (h : u.queue = []) : u.stepEnd.queue = [] := by
  unfold ChimeUnit.stepEnd
  rw [h]
  split
  · next r _ none => cases none
  · exact h

theorem ChimeUnit.gapEnd_empty {u : ChimeUnit} (h : u.queue = []) : u.gapEnd.queue = [] := by
  unfold ChimeUnit.gapEnd
  split
  · simp [ChimeUnit.select, h, bestWaiting]
  · exact h

theorem State.chime_sleepKept {s : State} {u : ChimeUnit} (h : s.chime.queue = [] → u.queue = []) :
    SleepKept s { s with chime := u } :=
  ⟨rfl, rfl, rfl, id, fun _ quiet => quiet.of_eq ⟨(h quiet.1).trans quiet.1.symm, rfl, rfl, rfl, rfl, rfl⟩⟩

/-- The bulb check ends in RUN alone, where the key-on chimes are posted (R134, R146). -/
theorem State.bulbCheckEnd_sleepKept {s : State} (hs : s.sleepSound) : SleepKept s s.bulbCheckEnd := by
  by_cases due : s.lamp.bulbCheck = some 0
  · have run : s.power.state = .run := by
      by_contra e
      rw [hs.2.1 e] at due
      cases due
    refine ⟨by simp, by simp, by simp, fun none => ?_, fun asleep => ?_⟩
    · rw [none] at due
      cases due
    · have awake := State.awake_of_inRun (beq_iff_eq.mpr run)
      exact absurd (awake.symm.trans asleep) (by decide)
  · rw [State.bulbCheckEnd, if_neg due]
    exact .refl s

theorem State.stepDrum_sleepKept (s : State) : SleepKept s s.stepDrum :=
  .ite_awake (fun due => by simp at due; exact due.1.1) (by simp)

theorem State.releaseCoils_sleepKept (s : State) : SleepKept s s.releaseCoils := by
  unfold State.releaseCoils
  split
  · exact ⟨rfl, rfl, rfl, id, fun _ quiet => quiet.of_eq ⟨rfl, rfl, rfl, rfl, rfl, rfl⟩⟩
  · exact .refl s

/-- A miss leaves the debt, and the state as it was or FAULT (R59). -/
theorem State.missIndex_quiet {s : State} (h : s.drum.state = .absent ∨ s.drum.state = .fault ∨ s.drum.debt = 0) :
    s.missIndex.drum.state = .absent ∨ s.missIndex.drum.state = .fault ∨ s.missIndex.drum.debt = 0 := by
  unfold State.missIndex
  split
  · dsimp only
    split
    · unfold State.countMiss
      split
      · exact h
      · exact .inr (.inl rfl)
    · exact h
  · exact h

theorem State.missIndex_sleepKept (s : State) : SleepKept s s.missIndex := by
  refine ⟨by simp, by simp, by simp, by simp, fun _ quiet => ?_⟩
  obtain ⟨chime, gauges, queue, flight, drum⟩ := quiet
  exact ⟨by simpa, by simpa, by simpa, by simpa, State.missIndex_quiet drum⟩

theorem State.beginWrite_sleepKept (s : State) : SleepKept s s.beginWrite := by
  have begun : s.awake = true → SleepKept s s.beginWrite := fun awake => .of_awake awake (by simp)
  by_cases awake : s.awake = true
  · exact begun awake
  · rw [State.beginWrite, if_neg awake]
    exact .refl s

theorem State.completeWord_idle {s : State} (h : s.eeprom.flight = none) : s.completeWord = s := by
  unfold State.completeWord
  rw [h]

theorem State.failWord_idle {s : State} (h : s.eeprom.flight = none) : s.failWord = s := by
  unfold State.failWord
  rw [h]

theorem State.completeWord_sleepKept (s : State) : SleepKept s s.completeWord :=
  ⟨by simp, by simp, by simp, by simp, fun _ quiet => (State.completeWord_idle quiet.2.2.2.1).symm ▸ quiet⟩

theorem State.failWord_sleepKept (s : State) : SleepKept s s.failWord :=
  ⟨by simp, by simp, by simp, by simp, fun _ quiet => (State.failWord_idle quiet.2.2.2.1).symm ▸ quiet⟩

end Sys2Proof.Machine
end

section
/-!
SUPPORT and proof: every step keeps the law of sleep: the changes of power state, the link, the law (R155, R156, R160,
R162, R164, R172 to R174).
-/
namespace Sys2Proof.Machine

/-! ## Changes of power state -/

/-- A part that is awake meets the law of sleep when its bulb check runs in RUN alone. -/
theorem State.sleepSound_of_awake {s : State} (awake : s.awake = true)
    (bulb : s.power.state ≠ .run → s.lamp.bulbCheck = none) : s.sleepSound := by
  have up {p : PowerState} (h : s.power.state = p) : (p == .run || p == .awakeOff) = true := h ▸ awake
  refine ⟨fun asleep => absurd (awake.symm.trans asleep) (by decide), bulb, fun h => ?_, fun h => ?_, fun h => ?_⟩ <;>
    exact absurd (up h) (by decide)

theorem State.sleepSound_of_run {s : State} (h : s.power.state = .run) : s.sleepSound :=
  State.sleepSound_of_awake (State.awake_of_inRun (beq_iff_eq.mpr h)) fun e => absurd h e

theorem State.sleepSound_of_awakeOff {s : State} (h : s.power.state = .awakeOff) (bulb : s.lamp.bulbCheck = none) :
    s.sleepSound :=
  State.sleepSound_of_awake (by simp [State.awake, h]) fun _ => bulb

theorem State.awake_of_ne {s : State} (held : s.power.state ≠ .held) (init : s.power.state ≠ .init)
    (asleep : s.power.state ≠ .asleep) : s.awake = true := by
  unfold State.awake
  revert held init asleep
  cases s.power.state <;> decide

theorem State.reach_sleepKept (s : State) (m : Moment) : SleepKept s (s.reach m) := .of_eq (by simp)

theorem State.wake_sleepSound {s : State} (h : s.lamp.bulbCheck = none) (cause : Nat) : (s.wake cause).sleepSound :=
  State.sleepSound_of_awakeOff rfl h

theorem State.powerOnReset_sleepSound (s : State) (di : BitVec 12) (ign : Bool) (pulse : BitVec 5)
    (lrate drumfit : Bool) : (s.powerOnReset di ign pulse lrate drumfit).sleepSound := by
  have parked (k : Fin 6) : (s.powerOnReset di ign pulse lrate drumfit).gauge.gauges[k] = Gauge.initial := by
    change (Vector.replicate 6 Gauge.initial)[k] = Gauge.initial
    simp
  refine ⟨fun _ => ⟨rfl, fun k => ?_, rfl, rfl, .inr (.inr rfl)⟩, fun _ => rfl, nofun, nofun, fun _ => ⟨rfl, rfl⟩⟩
  rw [parked]
  rfl

theorem State.release_sleepSound {s : State} (hs : s.sleepSound) : s.release.sleepSound := by
  unfold State.release
  split
  · next held =>
    obtain ⟨quiet, bulb, -, -, link⟩ := hs
    have asleep : s.awake = false := by simp [State.awake, held]
    refine ⟨fun _ => (quiet asleep).of_eq ⟨rfl, rfl, rfl, rfl, rfl, rfl⟩, fun _ => ?_, nofun, fun _ f hf => ?_, nofun⟩
    · exact bulb (by simp [held])
    · have frames : f ∈ s.link.queue := hf
      rw [(link held).1] at frames
      cases frames
  · exact hs

/-- INIT ends in RUN, in AWAKE_OFF, or in ASLEEP when the link has nothing to do (R156). -/
theorem State.enterFirst_sleepSound {s : State} (hs : s.sleepSound) (init : s.power.state = .init) :
    s.enterFirst.sleepSound := by
  obtain ⟨quiet, bulb, -⟩ := hs
  have noBulb := bulb (by simp [init])
  unfold State.enterFirst State.firstState
  by_cases ign : s.discretes.ign.level = true
  · rw [if_pos ign]
    exact State.sleepSound_of_run (State.enterRun_state _)
  rw [if_neg ign]
  by_cases busy : (!s.link.queue.isEmpty || s.link.reply.isSome) = true
  · rw [if_pos busy]
    exact State.sleepSound_of_awakeOff rfl noBulb
  · rw [if_neg busy]
    have idle : s.link.queue = [] ∧ s.link.reply = none := by simpa using busy
    have asleep : s.awake = false := by simp [State.awake, init]
    exact ⟨fun _ => (quiet asleep).of_eq ⟨rfl, rfl, rfl, rfl, rfl, rfl⟩, fun _ => noBulb, fun _ => idle, nofun, nofun⟩

theorem State.endInit_sleepSound {s : State} (hs : s.sleepSound) : s.endInit.sleepSound := by
  unfold State.endInit
  split
  · next init =>
    have timed : SleepKept s { s with gauge := { s.gauge with clock := 0 } } := .of_eq ⟨⟨rfl, rfl, rfl⟩, rfl, rfl, rfl, rfl⟩
    have entered := State.enterFirst_sleepSound (timed.sleepSound hs) init
    exact SleepKept.sleepSound (.of_eq (by simp)) entered
  · exact hs

theorem State.takeInitEnd_sleepSound {s : State} (hs : s.sleepSound) (m : Moment) : (s.takeInitEnd m).sleepSound :=
  keeps_ite' (P := State.sleepSound) (fun _ => State.endInit_sleepSound ((s.reach_sleepKept m).sleepSound hs)) hs

theorem State.runEntry_sleepSound {s : State} (hs : s.sleepSound) : s.runEntry.sleepSound := by
  unfold State.runEntry
  split
  · split
    · exact State.sleepSound_of_run (State.enterRun_state _)
    · exact State.sleepSound_of_run (State.enterRun_state _)
    · exact hs
  · exact hs

theorem State.takeRunEntry_sleepSound {s : State} (hs : s.sleepSound) (m : Moment) :
    (s.takeRunEntry m).sleepSound := by
  have entered := State.runEntry_sleepSound ((s.reach_sleepKept m).sleepSound hs)
  exact keeps_ite' (P := State.sleepSound) (fun _ => keeps_ite' (fun _ => entered) hs) hs

theorem State.runExit_sleepSound {s : State} (hs : s.sleepSound) (serviceFirst : Bool) :
    (s.runExit serviceFirst).sleepSound := by
  unfold State.runExit
  split
  · exact State.sleepSound_of_awakeOff (by simp [State.exitRun]) (by simp [State.exitRun])
  · exact hs

/-- ASLEEP entry finds the part quiet and the link idle (R162). -/
theorem State.asleepEntry_sleepSound {s : State} (hs : s.sleepSound) : s.asleepEntry.sleepSound := by
  unfold State.asleepEntry
  split
  · next due =>
    obtain ⟨off, -, -, chime, gauges, drum, -, queue, flight, frames, reply⟩ := s.maySleep_iff.mp due
    obtain ⟨-, bulb, -⟩ := hs
    have quiet : s.quiet := ⟨chime, gauges, queue, flight, drum⟩
    refine ⟨fun _ => quiet.of_eq ⟨rfl, rfl, rfl, rfl, rfl, rfl⟩, fun _ => ?_, fun _ => ⟨frames, reply⟩, nofun, nofun⟩
    exact bulb (by simp [off])
  · exact hs

/-! ## Discrete changes -/

theorem State.setDiscrete_sleepKept (s : State) (k : Fin 12) (d : Discrete) : SleepKept s (s.setDiscrete k d) :=
  .of_eq ⟨⟨rfl, rfl, rfl⟩, rfl, rfl, rfl, rfl⟩

theorem State.restartLinger_sleepKept (s : State) : SleepKept s s.restartLinger := by
  unfold State.restartLinger
  split
  · next off => exact .of_eq ⟨⟨off.symm, rfl, rfl⟩, rfl, rfl, rfl, rfl⟩
  · exact .refl s

/-- A discrete change keeps the power state, or wakes an ASLEEP part (R162, R164). -/
theorem State.changeDiscrete_cases (s : State) (k : Fin 12) (d : Discrete) :
    SleepKept s (s.changeDiscrete k d) ∨
      (s.power.state = .asleep ∧ s.changeDiscrete k d = (s.setDiscrete k d).wake 2) := by
  have set := s.setDiscrete_sleepKept k d
  unfold State.changeDiscrete State.reportDiscrete
  split
  · exact .inl set
  split
  · exact .inl (set.trans (State.restartLinger_sleepKept _))
  · next asleep =>
    split
    · exact .inr ⟨asleep, rfl⟩
    · exact .inl set
  · exact .inl set

theorem State.changeDiscrete_sleepSound {s : State} (hs : s.sleepSound) (k : Fin 12) (d : Discrete) :
    (s.changeDiscrete k d).sleepSound := by
  rcases s.changeDiscrete_cases k d with kept | ⟨asleep, woken⟩
  · exact kept.sleepSound hs
  · rw [woken]
    exact State.wake_sleepSound (hs.2.1 (by simp [asleep])) 2

theorem State.discreteChange_sleepSound {s : State} (hs : s.sleepSound) (k : Fin 12) :
    (s.discreteChange k).sleepSound :=
  keeps_ite' (P := State.sleepSound) (fun _ => State.changeDiscrete_sleepSound hs k _) hs

/-! ## The services -/

/-- An operation that keeps the power state and the bulb check. -/
def SamePower (s t : State) : Prop := t.power.state = s.power.state ∧ t.lamp.bulbCheck = s.lamp.bulbCheck

theorem SamePower.trans {s t u : State} (h : SamePower s t) (g : SamePower t u) : SamePower s u :=
  ⟨g.1.trans h.1, g.2.trans h.2⟩

theorem State.changeDiscrete_samePower {s : State} (awake : s.power.state ≠ .asleep) (k : Fin 12) (d : Discrete) :
    SamePower s (s.changeDiscrete k d) := by
  have linger (t : State) : SamePower t t.restartLinger := by
    unfold State.restartLinger
    split
    · next off => exact ⟨off.symm, rfl⟩
    · exact ⟨rfl, rfl⟩
  unfold State.changeDiscrete State.reportDiscrete
  split
  · exact ⟨rfl, rfl⟩
  split
  · exact linger (s.setDiscrete k d)
  · next asleep => exact absurd asleep awake
  · exact ⟨rfl, rfl⟩

theorem State.restartDiscretes_samePower {s : State} (awake : s.power.state ≠ .asleep) :
    SamePower s s.restartDiscretes := by
  unfold State.restartDiscretes
  refine List.foldlRecOn (motive := SamePower s) _ _ ⟨rfl, rfl⟩ fun t ht k _ => ?_
  exact ht.trans (State.changeDiscrete_samePower (fun e => awake (ht.1.symm.trans e)) k _)

theorem serveSoftRestart_samePower {s : State} (awake : s.power.state ≠ .asleep) :
    SamePower s (serveSoftRestart s).state := by
  let u := { s with
    curves := Vector.replicate 12 [], pulse := s.pulse.restart s.inRun s.now, sampler := s.sampler.restart }
  have discretes : SamePower u u.restartDiscretes := State.restartDiscretes_samePower awake
  have others : SamePower u.restartDiscretes (serveSoftRestart s).state := by
    constructor <;> simp [serveSoftRestart, State.restore, u]
  exact discretes.trans others

theorem serveDiscreteInputConfigure_samePower (input polarity debounce wake : Byte) {s : State}
    (awake : s.power.state ≠ .asleep) : SamePower s (serveDiscreteInputConfigure input polarity debounce wake s).state := by
  unfold serveDiscreteInputConfigure
  split
  · exact ⟨rfl, rfl⟩
  · split
    · exact ⟨rfl, rfl⟩
    · exact State.changeDiscrete_samePower awake _ _

/-- What the services of the lamps, monitors and items do to the bulb check: nothing. -/
theorem foldl_bulbCheck {β : Type} {f : State → β → State} (h : ∀ s b, (f s b).lamp.bulbCheck = s.lamp.bulbCheck)
    (l : List β) (s : State) : (l.foldl f s).lamp.bulbCheck = s.lamp.bulbCheck :=
  foldl_keeps (fun s => s.lamp.bulbCheck) f h l s

theorem serveLampSet_bulbCheck (lamp mode : Byte) (s : State) :
    (serveLampSet lamp mode s).state.lamp.bulbCheck = s.lamp.bulbCheck := by
  unfold serveLampSet
  split
  · exact foldl_bulbCheck (fun t l => t.setClaim_bulbCheck l linkClaim _) _ s
  · rfl

theorem serveLampConfigure_bulbCheck (discrete : Byte) (s : State) :
    (serveLampConfigure discrete s).state.lamp.bulbCheck = s.lamp.bulbCheck := by
  unfold serveLampConfigure
  split <;> rfl

theorem serveMonitorConfigure_bulbCheck (monitor : Byte) (f : MonitorFields) (s : State) :
    (serveMonitorConfigure monitor f s).state.lamp.bulbCheck = s.lamp.bulbCheck := by
  unfold serveMonitorConfigure
  split
  · rfl
  · split
    · rfl
    · exact s.configureMonitor_bulbCheck _ f

theorem serveMonitorAcknowledge_bulbCheck (monitor : Byte) (s : State) :
    (serveMonitorAcknowledge monitor s).state.lamp.bulbCheck = s.lamp.bulbCheck := by
  unfold serveMonitorAcknowledge
  split
  · exact foldl_bulbCheck State.acknowledge_bulbCheck _ s
  split
  · rfl
  · split
    · exact s.acknowledge_bulbCheck _
    · rfl

theorem serveServiceConfigure_bulbCheck (item : Byte) (f : ServiceFields) (s : State) :
    (serveServiceConfigure item f s).state.lamp.bulbCheck = s.lamp.bulbCheck := by
  unfold serveServiceConfigure
  split
  · rfl
  · split
    · rfl
    · exact s.configureItem_bulbCheck _ f

theorem serveServiceReset_bulbCheck (item : Byte) (s : State) :
    (serveServiceReset item s).state.lamp.bulbCheck = s.lamp.bulbCheck := by
  unfold serveServiceReset
  split
  · rfl
  · split
    · exact foldl_bulbCheck State.resetItem_bulbCheck _ s
    · rfl

/-- No service changes the power state of a part that is not ASLEEP, nor the bulb check. -/
theorem service_samePower {c : Instr} {f : Service} (hc : service? c = some f) {s : State}
    (awake : s.power.state ≠ .asleep) : SamePower s (f s).state := by
  cases c <;> simp only [service?, reduceCtorEq, Option.some.injEq] at hc <;> subst hc
  case softRestart => exact serveSoftRestart_samePower awake
  case discreteInputConfigure => exact serveDiscreteInputConfigure_samePower _ _ _ _ awake
  case lampSet => exact ⟨by simp, serveLampSet_bulbCheck _ _ s⟩
  case lampConfigure => exact ⟨by simp, serveLampConfigure_bulbCheck _ s⟩
  case monitorConfigure => exact ⟨by simp, serveMonitorConfigure_bulbCheck _ _ s⟩
  case monitorAcknowledge => exact ⟨by simp, serveMonitorAcknowledge_bulbCheck _ s⟩
  case serviceConfigure => exact ⟨by simp, serveServiceConfigure_bulbCheck _ _ s⟩
  case serviceReset => exact ⟨by simp, serveServiceReset_bulbCheck _ s⟩
  -- the other services reach neither Power Control nor the Lamp Unit
  all_goals constructor <;> simp

/-! ## The link -/

/-- A part that takes frames for service: not held in reset and not ASLEEP. -/
structure State.Listening (s : State) : Prop where
  sound : s.sleepSound
  held : s.power.state ≠ .held
  asleep : s.power.state ≠ .asleep

theorem SleepKept.listening {s t : State} (h : SleepKept s t) (hs : s.Listening) : t.Listening :=
  ⟨h.sleepSound hs.sound, h.state ▸ hs.held, h.state ▸ hs.asleep⟩

theorem State.Listening.of_awakeOff {s : State} (h : s.power.state = .awakeOff) (bulb : s.lamp.bulbCheck = none) :
    s.Listening :=
  ⟨State.sleepSound_of_awakeOff h bulb, by simp [h], by simp [h]⟩

namespace State.Listening

variable {s : State}

/-- The frames that wait may be any, but in INIT those that came in INIT. -/
theorem setLink (h : s.Listening) {l : Link} (frames : s.power.state = .init → ∀ f ∈ l.queue, f.inInit = true) :
    State.Listening { s with link := l } := by
  obtain ⟨⟨quiet, bulb, -⟩, held, asleep⟩ := h
  exact ⟨⟨quiet, bulb, fun e => absurd e asleep, frames, fun e => absurd e held⟩, held, asleep⟩

/-- The frames that wait stay. -/
theorem sameQueue (h : s.Listening) {l : Link} (queue : l.queue = s.link.queue) :
    State.Listening { s with link := l } :=
  h.setLink fun init => queue ▸ h.sound.2.2.2.1 init

theorem answer {a : Answer} (h : a.state.Listening) (k : Byte) : (State.sendAnswer k a).Listening :=
  h.sameQueue rfl

theorem serve (h : s.Listening) (init : s.power.state ≠ .init) {c : Instr} {f : Service} (hc : service? c = some f) :
    (f s).state.Listening := by
  obtain ⟨state, bulb⟩ := service_samePower hc h.asleep
  have awake : (f s).state.awake = true := (State.awake_congr state).trans (State.awake_of_ne h.held init h.asleep)
  refine ⟨State.sleepSound_of_awake awake fun off => ?_, state ▸ h.held, state ▸ h.asleep⟩
  exact bulb.trans (h.sound.2.1 (state ▸ off))

/-- A frame taken in INIT came in INIT, and is answered NOT_READY (R156, R174). -/
theorem serveFrame (h : s.Listening) {f : Frame} (frame : s.power.state = .init → f.inInit = true) :
    (s.serveFrame f).Listening := by
  unfold State.serveFrame
  split
  · exact h.sameQueue rfl
  split
  · exact h.sameQueue rfl
  next late =>
  split
  · exact h.sameQueue rfl
  · next served =>
    have init : s.power.state ≠ .init := fun e => late (frame e)
    rcases serveKind_service served with rfl | ⟨c, hc⟩
    · exact answer h _
    · exact answer (h.serve init hc) _

theorem takeNext (h : s.Listening) : s.takeNext.Listening := by
  unfold State.takeNext
  split
  · next f rest _ queue =>
    have frames := h.sound.2.2.2.1
    rw [queue] at frames
    have taken := h.setLink (l := { s.link with queue := rest }) fun init g hg => frames init g (List.mem_cons_of_mem f hg)
    exact taken.serveFrame fun init => frames init f List.mem_cons_self
  · exact h

theorem enqueue (h : s.Listening) {f : Frame} (frame : s.power.state = .init → f.inInit = true) :
    (s.enqueue f).Listening := by
  unfold State.enqueue
  split
  · refine h.setLink fun init g hg => ?_
    rcases List.mem_append.mp hg with hg | hg
    · exact h.sound.2.2.2.1 init g hg
    · exact List.mem_singleton.mp hg ▸ frame init
  · exact h

end State.Listening

/-- A frame's arrival finds the part listening, ASLEEP or not (R162, R164). -/
theorem State.frameActivity_listening {s : State} (hs : s.sleepSound) (held : s.power.state ≠ .held) :
    s.frameActivity.Listening := by
  unfold State.frameActivity
  split
  · next asleep => exact .of_awakeOff rfl (hs.2.1 (by simp [asleep]))
  · next awake => exact s.restartLinger_sleepKept.listening ⟨hs, held, awake⟩

theorem State.frameActivity_init {s : State} (h : s.frameActivity.power.state = .init) : s.power.state = .init := by
  unfold State.frameActivity at h
  split at h
  · cases h
  · exact s.restartLinger_sleepKept.state.symm.trans h

theorem State.completeFrame_listening {s : State} (hs : s.sleepSound) (held : s.power.state ≠ .held) {f : Frame}
    (frame : s.power.state = .init → f.inInit = true) : (s.completeFrame f).Listening :=
  ((State.frameActivity_listening hs held).enqueue fun init => frame (State.frameActivity_init init)).takeNext

theorem State.request_sleepSound {s : State} (hs : s.sleepSound) {c : Instr} {g : Service} (hc : service? c = some g)
    (k : Byte) (p : List Byte) : (State.request k p g s).sleepSound := by
  simp only [State.request]
  split
  · exact hs
  next held =>
  have listening := State.frameActivity_listening hs held
  split
  · split
    · exact (State.Listening.answer listening k).sound
    · next init => exact (State.Listening.answer (listening.serve init hc) k).sound
  · exact ((listening.enqueue fun init => decide_eq_true init).takeNext).sound

/-- A reply ends only where one is being sent, in no part that is held in reset or ASLEEP (R173). -/
theorem State.replyEnd_sleepSound {s : State} (hs : s.sleepSound) (m : Moment) : (s.replyEnd m).sleepSound := by
  unfold State.replyEnd
  split
  · next sending =>
    have idle {p : PowerState} (h : s.power.state = p → s.link.queue = [] ∧ s.link.reply = none) :
        s.power.state ≠ p := fun e => by simp [(h e).2] at sending
    have ⟨_, _, asleep, _, held⟩ := hs
    have listening : s.Listening := ⟨hs, idle held, idle asleep⟩
    have reached := (s.reach_sleepKept m).listening listening
    refine (reached.sameQueue ?_).takeNext.sound
    simp
  · exact hs

theorem State.assemble_sleepKept (s : State) (a : Assembler) : SleepKept s (s.assemble a) :=
  ⟨rfl, rfl, rfl, id, fun _ quiet => quiet.of_eq ⟨rfl, rfl, rfl, rfl, rfl, rfl⟩⟩

theorem State.leadTaken_sleepSound {s : State} (hs : s.sleepSound) (m : Moment) : (s.leadTaken m).sleepSound := by
  unfold State.leadTaken
  refine (State.assemble_sleepKept _ _).sleepSound ?_
  split
  · next asleep =>
    refine State.wake_sleepSound ?_ 3
    simpa using hs.2.1 (by simp [asleep])
  · exact hs

theorem State.receive_sleepSound {s : State} (hs : s.sleepSound) (b : Byte) (stopHigh : Bool) (m : Moment) :
    (s.receive b stopHigh m).sleepSound := by
  have assembled (a : Assembler) : (s.assemble a).sleepSound := (s.assemble_sleepKept a).sleepSound hs
  unfold State.receive
  split
  · exact hs
  next held =>
  split
  · unfold State.character
    split
    · exact keeps_ite' (P := State.sleepSound) (fun _ => State.leadTaken_sleepSound hs m) hs
    · split
      · exact assembled _
      · exact keeps_ite' (P := State.sleepSound) (fun _ => State.leadTaken_sleepSound hs m) (assembled _)
    · next taken _ _ =>
      split
      · exact assembled _
      · have kept := (s.reach_sleepKept m).trans ((s.reach m).assemble_sleepKept .hunt)
        have complete := State.completeFrame_listening (kept.sleepSound hs) (kept.state ▸ held)
          (f := frameOf (taken ++ [b]) (decide (s.power.state = .init))) fun init => decide_eq_true (kept.state.symm.trans init)
        exact complete.sound
  · split
    · exact hs
    · exact assembled _

theorem State.gapTimeout_sleepSound {s : State} (hs : s.sleepSound) : s.gapTimeout.sleepSound := by
  unfold State.gapTimeout
  split
  · exact hs
  · exact keeps_ite' (P := State.sleepSound) (fun _ => (s.assemble_sleepKept .hunt).sleepSound hs) hs

/-! ## The law -/

/-- A request row in whatever state it finds the part (R172 to R174). -/
theorem exec_request_sleepSound {c : Instr} {f : Service} (hc : service? c = some f) {s t : State}
    (hs : s.sleepSound) (he : exec c s = .next t) : t.sleepSound := by
  have hf : (frame? c).isSome = true := by rw [frame?_isSome, hc]; rfl
  by_cases held : s.power.state = .held
  · obtain rfl := Host.Outcome.next.inj ((exec_request_held hf held).symm.trans he)
    exact hs
  · obtain ⟨⟨k, p⟩, hq⟩ := Option.isSome_iff_exists.mp hf
    obtain rfl := Host.Outcome.next.inj ((exec_request s hq hc held).symm.trans he)
    refine State.request_sleepSound ?_ hc k p
    unfold atCommand
    cases moment? c with
    | none => exact hs
    | some m =>
      rw [Option.map_some, Option.getD_some, ← s.reach_eq]
      exact (s.reach_sleepKept m).sleepSound hs

/-- Every command keeps the law of sleep. -/
theorem exec_sleepSound {c : Instr} {s t : State} (hs : s.sleepSound) (he : exec c s = .next t) : t.sleepSound := by
  rcases hc : service? c with _ | f
  case some => exact exec_request_sleepSound hc hs he
  have event {u : State} (h : s.power.state ≠ .held → u.sleepSound) :
      (if s.power.state = .held then s else u).sleepSound := keeps_ite (P := State.sleepSound) hs h
  have kept {u : State} (h : SleepKept s u) : (if s.power.state = .held then s else u).sleepSound :=
    event fun _ => h.sleepSound hs
  cases c <;> simp only [service?, reduceCtorEq] at hc <;> obtain rfl := Host.Outcome.next.inj he
  case powerOnReset di ign pulse lrate drumfit => exact s.powerOnReset_sleepSound di ign pulse lrate drumfit
  case resetnRelease => exact State.release_sleepSound hs
  case initEnd m => exact event fun _ => State.takeInitEnd_sleepSound hs m
  case tick di ign pulse => exact event fun running => (State.tick_sleepKept running di ign pulse).sleepSound hs
  case discreteChange k => exact event fun _ => State.discreteChange_sleepSound hs k
  case runEntry m => exact event fun _ => State.takeRunEntry_sleepSound hs m
  case runExit serviceFirst => exact event fun _ => State.runExit_sleepSound hs serviceFirst
  case asleepEntry => exact event fun _ => State.asleepEntry_sleepSound hs
  case characterReceived b stop m => exact event fun _ => State.receive_sleepSound hs b stop m
  case characterGapTimeout => exact event fun _ => State.gapTimeout_sleepSound hs
  case replyEnd m => exact event fun _ => State.replyEnd_sleepSound hs m
  case secondEnd => exact kept s.secondEnd_sleepKept
  case dayEnd => exact kept s.dayEnd_sleepKept
  case lingerExpiry => exact kept s.lingerExpiry_sleepKept
  case spdEdge sub => exact kept (s.takeSpd_sleepKept sub)
  case tacEdge sub => exact kept (s.takeTac_sleepKept sub)
  case idxEdge => exact kept s.takeIdx_sleepKept
  case gaugeMotionStep => exact kept s.motionStep_sleepKept
  case sweepDelayExpiry => exact kept s.sweepDelayExpiry_sleepKept
  case sweepTimeoutExpiry => exact kept s.sweepTimeoutExpiry_sleepKept
  case syncFallingEdge => exact kept s.syncEdge_sleepKept
  case syncPulseEnd => exact kept s.syncPulseEnd_sleepKept
  case monitorEvaluation i => exact kept (s.monitorEvaluation_sleepKept i)
  case assertTimerExpiry i => exact kept (s.assertExpiry_sleepKept i)
  case releaseTimerExpiry i => exact kept (s.releaseExpiry_sleepKept i)
  case reminderExpiry i => exact kept (s.reminderExpiry_sleepKept i)
  case chimeStepEnd => exact kept (State.chime_sleepKept ChimeUnit.stepEnd_empty)
  case gapEnd => exact kept (State.chime_sleepKept ChimeUnit.gapEnd_empty)
  case bulbCheckEnd => exact kept (State.bulbCheckEnd_sleepKept hs)
  case drumStep => exact kept s.stepDrum_sleepKept
  case drumIndexMiss => exact kept s.missIndex_sleepKept
  case drumCoilOff => exact kept s.releaseCoils_sleepKept
  case eepromWriteBegin => exact kept s.beginWrite_sleepKept
  case eepromWordComplete => exact kept s.completeWord_sleepKept
  case eepromWordFail => exact kept s.failWord_sleepKept
  -- the other events leave the blocks of the law alone
  all_goals exact kept (.of_eq (by simp))

/-- Settles O7: what each command does to the blocks of the law of sleep, and to the power state, keeps the law. -/
theorem sleepLaw : Obligations.SleepLaw := by
  intro s t hs he
  obtain ⟨-, rfl⟩ | ⟨c, rest, -, he⟩ := step_cases he
  · exact hs
  · exact exec_sleepSound (s := s.setPending rest) hs he

end Sys2Proof.Machine
end

section
/-!
SUPPORT and proof: every step keeps the EEPROM port sound and stores in the device only the word in flight (R51 to R53,
R152, R155, R165, R166, R168).
-/
namespace Sys2Proof.Machine

/-! ## The port at rest -/

/-- No word has been stored and none of another write has been commanded: the contents stand, the words in flight are
those that were, and what joins the write queue is sound. -/
structure PortKept (p q : EepromPort) : Prop where
  memory : q.memory = p.memory
  flight : ∀ g, q.flight = some g → ∃ f, p.flight = some f ∧ g.words = f.words
  queue : ∀ e ∈ q.queue, e ∈ p.queue ∨ e.sound

theorem PortKept.refl (p : EepromPort) : PortKept p p := ⟨rfl, fun g h => ⟨g, h, rfl⟩, fun _ => .inl⟩

theorem PortKept.of_eq {p q : EepromPort} (h : q = p) : PortKept p q := h ▸ .refl p

/-- What posts sound entries alone keeps the port. -/
theorem PortKept.of_queue (p : EepromPort) {q : List Entry} (h : ∀ e ∈ q, e ∈ p.queue ∨ e.sound) :
    PortKept p { p with queue := q } := ⟨rfl, fun g hg => ⟨g, hg, rfl⟩, h⟩

theorem PortKept.trans {p q r : EepromPort} (h : PortKept p q) (g : PortKept q r) : PortKept p r where
  memory := g.memory.trans h.memory
  flight f hf := by
    obtain ⟨f', hf', words'⟩ := g.flight f hf
    obtain ⟨f'', hf'', words''⟩ := h.flight f' hf'
    exact ⟨f'', hf'', words'.trans words''⟩
  queue e he := (g.queue e he).elim (h.queue e) .inr

theorem PortKept.eepromSound {s t : State} (h : PortKept s.eeprom t.eeprom) (hs : s.eepromSound) : t.eepromSound := by
  obtain ⟨canonical, inside, flight, queue⟩ := hs
  unfold State.eepromSound
  rw [h.memory]
  refine ⟨canonical, inside, fun g hg => ?_, fun e he => (h.queue e he).elim (queue e) id⟩
  obtain ⟨f, hf, words⟩ := h.flight g hg
  exact words ▸ flight f hf

/-! ## Posts -/

theorem bindOdometer_sound {v : Nat} {q : List Entry} {e : Entry} (h : e ∈ bindOdometer v q) : e ∈ q ∨ e.sound := by
  unfold bindOdometer at h
  split at h
  · obtain ⟨d, hd, rfl⟩ := List.mem_map.mp h
    split
    · exact .inr trivial
    · exact .inl hd
  · rcases List.mem_append.mp h with h | h
    · exact .inl h
    · exact .inr (List.mem_singleton.mp h ▸ trivial)

theorem postOnce_sound {d : Entry} (hd : d.sound) {q : List Entry} {e : Entry} (h : e ∈ postOnce d q) :
    e ∈ q ∨ e.sound := by
  unfold postOnce at h
  split at h
  · exact .inl h
  · rcases List.mem_append.mp h with h | h
    · exact .inl h
    · exact .inr (List.mem_singleton.mp h ▸ hd)

theorem State.postOdometer_portKept (s : State) : PortKept s.eeprom s.postOdometer.eeprom := by
  unfold State.postOdometer
  split
  · exact .refl _
  · exact .of_queue _ fun _ => bindOdometer_sound

theorem State.postService_portKept (s : State) : PortKept s.eeprom s.postService.eeprom :=
  .of_queue _ fun _ => postOnce_sound (d := .service) trivial

theorem State.postHeader_portKept (s : State) : PortKept s.eeprom s.postHeader.eeprom :=
  .of_queue _ fun _ => postOnce_sound (d := .header) trivial

theorem State.emitDu_portKept (s : State) : PortKept s.eeprom s.emitDu.eeprom := by
  let u := s.countDu.serviceDu.drumDu
  have before : PortKept s.eeprom u.eeprom := .of_eq (by simp [u])
  have hundred : PortKept u.eeprom u.postHundred.eeprom := by
    unfold State.postHundred
    split
    · exact u.postOdometer_portKept
    · exact .refl _
  refine (before.trans hundred).trans ?_
  change PortKept _ u.postHundred.postTenThousand.eeprom
  unfold State.postTenThousand
  split
  · exact State.postService_portKept _
  · exact .refl _

theorem State.addDistance_portKept (s : State) : PortKept s.eeprom s.addDistance.eeprom := by
  unfold State.addDistance
  split
  · exact State.emitDu_portKept { s with accum := { s.accum with rd := s.accum.rd + 100 - s.consts.kvss } }
  · exact .refl _

theorem State.takeSpd_portKept (s : State) (sub : BitVec 8) : PortKept s.eeprom (s.takeSpd sub).eeprom := by
  unfold State.takeSpd
  dsimp only
  split
  · have before : (s.advancePulse sub).spdEdge.eeprom = s.eeprom := by simp
    exact (PortKept.of_eq before).trans (State.addDistance_portKept _)
  · exact .refl _

theorem State.takeInitEnd_eeprom (s : State) (m : Moment) : (s.takeInitEnd m).eeprom = s.eeprom := by
  unfold State.takeInitEnd
  split <;> simp

theorem State.takeRunEntry_eeprom (s : State) (m : Moment) : (s.takeRunEntry m).eeprom = s.eeprom := by
  unfold State.takeRunEntry
  split
  · split <;> simp
  · rfl

theorem State.runExit_portKept (s : State) (serviceFirst : Bool) :
    PortKept s.eeprom (s.runExit serviceFirst).eeprom := by
  have posts (u : State) : PortKept u.eeprom (u.exitPosts serviceFirst).eeprom := by
    unfold State.exitPosts
    split
    · exact u.postService_portKept.trans (State.postOdometer_portKept _)
    · exact u.postOdometer_portKept.trans (State.postService_portKept _)
  unfold State.runExit
  split
  · simp only [State.notifyPower_frame, State.exitRun, State.startOff_frame, State.setBulbCheck_frame,
      State.monitorsExit_frame, State.gaugeExit_frame]
    exact (PortKept.of_eq (by simp)).trans (posts _)
  · exact .refl _

theorem State.tick_portKept (s : State) (di : BitVec 12) (ign : Bool) (pulse : BitVec 5) :
    PortKept s.eeprom (s.tick di ign pulse).eeprom := by
  by_cases held : s.power.state = .held
  · exact .of_eq (congrArg State.eeprom (if_pos held))
  · rw [State.tick_eq held]
    refine ⟨rfl, fun g hg => ?_, fun _ => .inl⟩
    obtain ⟨f, hf, rfl⟩ := Option.map_eq_some_iff.mp hg
    exact ⟨f, hf, rfl⟩

theorem serveEepromWrite_portKept (address : Byte) (value : Word) (s : State) :
    PortKept s.eeprom (serveEepromWrite address value s).state.eeprom := by
  unfold serveEepromWrite
  split
  · exact .refl _
  next area =>
  split
  · exact .refl _
  · refine .of_queue _ fun e he => ?_
    rcases List.mem_append.mp he with he | he
    · exact .inl he
    · rw [List.mem_singleton.mp he]
      exact .inr (by unfold Entry.sound; omega)

/-- A service posts at most: a host word, the header or the service block (R149, R158, R168). -/
theorem service_portKept {c : Instr} {f : Service} (hc : service? c = some f) (s : State) :
    PortKept s.eeprom (f s).state.eeprom := by
  cases c <;> simp only [service?, reduceCtorEq, Option.some.injEq] at hc <;> subst hc
  case eepromWrite address value => exact serveEepromWrite_portKept address value s
  case vehicleConstantsWrite =>
    unfold serveVehicleConstantsWrite
    split
    · exact .refl _
    · split
      · exact .refl _
      · exact State.postHeader_portKept (s.putConstants _)
  case serviceReset =>
    unfold serveServiceReset
    split
    · exact .refl _
    · split
      · refine PortKept.trans (.of_eq ?_) (State.postService_portKept _)
        exact foldl_keeps State.eeprom _ (fun _ _ => by simp) _ s
      · exact .refl _
  all_goals exact .of_eq (by simp)

theorem portKept_link (p : EepromPort) : LinkKeeps fun t => PortKept p t.eeprom where
  link _ _ := id
  reach t m h := h.trans (.of_eq (by simp))
  wake t h := h.trans (.of_eq (by simp))
  serve _ _ t hc h := h.trans (service_portKept hc t)

/-! ## The words of a write -/

theorem mem_wordsFrom {first : Nat} {ws : List Nat} {p : Nat × Word} (h : p ∈ wordsFrom first ws) :
    p.1 < first + ws.length := by
  obtain ⟨⟨k, w⟩, hk, rfl⟩ := List.mem_map.mp h
  have := List.mem_range.mp (List.of_mem_zip hk).1
  dsimp only
  omega

theorem withCheck_length (ws : List Nat) : (withCheck ws).length = ws.length + 1 := by simp [withCheck]

theorem sinceWords_length (items : Vector ServiceItem 6) : (sinceWords items).length = 18 := by
  simp [sinceWords, List.length_flatMap]

/-- The words of a sound entry's write lie in the device (R48, R152, R157, R168). -/
theorem State.flightOf_inEeprom (s : State) {e : Entry} (he : e.sound) :
    ∀ p ∈ (s.flightOf e).words, inEeprom p.1 := by
  intro p hp
  have below {first : Nat} {ws : List Nat} (room : first + (ws.length + 1) ≤ 128)
      (h : p ∈ wordsFrom first (withCheck ws)) : inEeprom p.1 := by
    have lt := mem_wordsFrom h
    rw [withCheck_length] at lt
    exact Nat.lt_of_lt_of_le lt room
  cases e with
  | odometer v =>
    refine below (ws := [v / 65536, v % 65536]) ?_ hp
    have slot := (targetSlot s.accum.newestSlot).isLt
    dsimp only [List.length_cons, List.length_nil]
    omega
  | service => exact below (ws := sinceWords s.service) (by rw [sinceWords_length]; decide) hp
  | header =>
    refine below (ws := [Config.headerMarker, s.consts.kvss, s.consts.cinj, s.consts.ppr, s.consts.consumption,
      s.consts.reserve]) (Nat.le_of_ble_eq_true rfl) hp
  | host a v =>
    rw [List.mem_singleton.mp hp]
    exact Nat.lt_succ_of_le he.2

/-! ## What a command can do to the port -/

/-- The word in flight is stored, as it is, torn or cut off; the rest of its write may stay in flight. -/
structure WordStored (s t : State) (f : Flight) (a : Nat) (w : Word) (rest : List (Nat × Word)) : Prop where
  flight : s.eeprom.flight = some f
  words : f.words = (a, w) :: rest
  stored : ∃ x, t.eeprom.memory = writeWord s.eeprom.memory a x
  left : ∀ g, t.eeprom.flight = some g → g.words = rest
  queue : ∀ e ∈ t.eeprom.queue, e ∈ s.eeprom.queue

theorem WordStored.eepromSound {s t : State} {f : Flight} {a : Nat} {w : Word} {rest : List (Nat × Word)}
    (h : WordStored s t f a w rest) (hs : s.eepromSound) : t.eepromSound := by
  obtain ⟨canonical, inside, flight, queue⟩ := hs
  obtain ⟨x, stored⟩ := h.stored
  have words := flight f h.flight
  rw [h.words] at words
  unfold State.eepromSound
  rw [stored]
  refine ⟨memoryWf_writeWord a x canonical, fun p hp => ?_, fun g hg p hp => ?_, fun e he => queue e (h.queue e he)⟩
  · rcases mem_writeWord hp with e | hp
    · rw [e]
      exact words (a, w) List.mem_cons_self
    · exact inside p hp
  · rw [h.left g hg] at hp
    exact words p (List.mem_cons_of_mem _ hp)

/-- A write begun: its entry has left the queue and its words are in flight. -/
structure WriteBegun (s t : State) (e : Entry) : Prop where
  entry : e ∈ s.eeprom.queue
  memory : t.eeprom.memory = s.eeprom.memory
  flight : t.eeprom.flight = some (s.flightOf e)
  queue : ∀ d ∈ t.eeprom.queue, d ∈ s.eeprom.queue

theorem WriteBegun.eepromSound {s t : State} {e : Entry} (h : WriteBegun s t e) (hs : s.eepromSound) :
    t.eepromSound := by
  obtain ⟨canonical, inside, -, queue⟩ := hs
  unfold State.eepromSound
  rw [h.memory, h.flight]
  refine ⟨canonical, inside, fun g hg => ?_, fun d hd => queue d (h.queue d hd)⟩
  rw [← Option.some.inj hg]
  exact s.flightOf_inEeprom (queue e h.entry)

inductive PortStep (s t : State) : Prop
  | kept (h : PortKept s.eeprom t.eeprom)
  | begun (e : Entry) (h : WriteBegun s t e)
  | stored (f : Flight) (a : Nat) (w : Word) (rest : List (Nat × Word)) (h : WordStored s t f a w rest)

theorem State.beginWrite_portStep (s : State) : PortStep s s.beginWrite := by
  unfold State.beginWrite
  split
  · split
    · next e rest _ queue =>
      refine .begun e ⟨?_, rfl, rfl, fun d hd => ?_⟩
      · rw [queue]
        exact List.mem_cons_self
      · rw [queue]
        exact List.mem_cons_of_mem e hd
    · exact .kept (.refl _)
  · exact .kept (.refl _)

theorem State.completeWord_portStep (s : State) : PortStep s s.completeWord := by
  unfold State.completeWord
  split
  · next kind a w rest wait flight =>
    split
    · dsimp only
      split
      · exact .stored _ a w rest ⟨flight, rfl, ⟨w, rfl⟩, nofun, fun _ => id⟩
      · refine .stored _ a w rest ⟨flight, rfl, ⟨w, rfl⟩, fun g hg => ?_, fun _ => id⟩
        exact Option.some.inj hg ▸ rfl
    · exact .kept (.refl _)
  · exact .kept (.refl _)

/-- A torn word is stored as one word or another (log entry 9). -/
theorem tearWord_stored (m : Memory) (a : Nat) (x : Word) : ∃ y, tearWord m a x = writeWord m a y :=
  (tearWord_eq m a x).elim (fun h => ⟨x, h⟩) fun h => ⟨x + 1, h⟩

theorem State.failWord_portStep (s : State) : PortStep s s.failWord := by
  unfold State.failWord
  split
  · next a w rest wait flight =>
    split
    · exact .stored _ a w rest ⟨flight, rfl, tearWord_stored _ _ _, nofun, fun _ => id⟩
    · exact .kept (.refl _)
  · exact .kept (.refl _)

theorem State.powerOnReset_portStep (s : State) (di : BitVec 12) (ign : Bool) (pulse : BitVec 5)
    (lrate drumfit : Bool) : PortStep s (s.powerOnReset di ign pulse lrate drumfit) := by
  have port : (s.powerOnReset di ign pulse lrate drumfit).eeprom =
      { memory := s.cutEeprom.eeprom.memory, queue := [], flight := none } := rfl
  have memory : s.cutEeprom.eeprom.memory = (match s.eeprom.flight with
    | some { words := (a, _) :: _, .. } => s.leaveWord a
    | _ => s).eeprom.memory := rfl
  split at memory
  · next a w rest wait flight =>
    refine .stored _ a w rest ⟨flight, rfl, ?_, ?_, ?_⟩
    · rw [port, memory]
      exact tearWord_stored _ _ _
    · rw [port]; exact nofun
    · rw [port]; exact nofun
  · refine .kept ?_
    rw [port]
    exact ⟨memory, nofun, nofun⟩

/-- An event as a row: in a part held in reset it does not take place (R155). -/
theorem PortStep.event {s u : State} (h : PortStep s u) : PortStep s (if s.power.state = .held then s else u) := by
  split
  · exact .kept (.refl _)
  · exact h

/-- Every command keeps the port, begins a write, or stores the word in flight. -/
theorem exec_portStep {c : Instr} {s t : State} (he : exec c s = .next t) : PortStep s t := by
  have link := portKept_link s.eeprom
  rcases hc : service? c with _ | f
  case some => exact .kept (link.exec_request hc (.refl _) he)
  cases c <;> simp only [service?, reduceCtorEq] at hc <;> obtain rfl := Host.Outcome.next.inj he
  case powerOnReset di ign pulse lrate drumfit => exact s.powerOnReset_portStep di ign pulse lrate drumfit
  case resetnRelease => exact .kept (.of_eq (by simp))
  case eepromWriteBegin => exact s.beginWrite_portStep.event
  case eepromWordComplete => exact s.completeWord_portStep.event
  case eepromWordFail => exact s.failWord_portStep.event
  case initEnd m => exact .event (.kept (.of_eq (s.takeInitEnd_eeprom m)))
  case runEntry m => exact .event (.kept (.of_eq (s.takeRunEntry_eeprom m)))
  case tick di ign pulse => exact .event (.kept (s.tick_portKept di ign pulse))
  case runExit serviceFirst => exact .event (.kept (s.runExit_portKept serviceFirst))
  case spdEdge sub => exact .event (.kept (s.takeSpd_portKept sub))
  case characterReceived b stop m => exact .event (.kept (link.receive (.refl _) b stop m))
  case characterGapTimeout => exact .event (.kept (link.gapTimeout (.refl _)))
  case replyEnd m => exact .event (.kept (link.replyEnd (.refl _) m))
  -- the other events do not reach the port
  all_goals exact .event (.kept (.of_eq (by simp)))

/-- Settles O14: of what a command can do to the port only the word in flight is stored. -/
theorem eepromKept : Obligations.EepromKept := by
  intro s t hs he
  obtain ⟨-, rfl⟩ | ⟨c, rest, -, he⟩ := step_cases he
  · exact ⟨hs, fun _ _ => rfl⟩
  cases exec_portStep he with
  | kept h => exact ⟨PortKept.eepromSound (s := s) h hs, fun a _ => congrArg (readWord · a) h.memory⟩
  | begun e h => exact ⟨h.eepromSound hs, fun a _ => congrArg (readWord · a) h.memory⟩
  | stored f a w rest h =>
    refine ⟨h.eepromSound hs, fun b other => ?_⟩
    obtain ⟨x, stored⟩ := h.stored
    rw [stored]
    refine readWord_writeWord_ne _ x fun e => ?_
    exact other f w rest h.flight (e ▸ h.words)

end Sys2Proof.Machine
end

section
/-!
SUPPORT and proof: the EEPROM port's events, and the value last bound for the ring (R51, R52, R53, R153, R165, R166).
-/
namespace Sys2Proof.Machine

/-! ## The words of a write -/

/-- Words stored one after another, and their check word, as the statements spell them out (R52). -/
theorem wordsFrom_withCheck (first : Nat) (ws : List Nat) :
    wordsFrom first (withCheck ws) =
      (let sum := ws ++ [(0xA5A5 + 65536 - ws.sum % 65536) % 65536]
       (List.range sum.length).zipWith (fun k w => (first + k, BitVec.ofNat 16 w)) sum) :=
  List.map_zipWith

theorem targetSlot_eq (newest : Option (Fin 8)) : targetSlot newest = (newest.map fun k => k + 1).getD 0 := by
  cases newest <;> rfl

/-! ## A write begins -/

theorem State.beginWrite_not_due {s : State} (h : s.awake = false ∨ s.eeprom.flight ≠ none ∨ s.eeprom.queue = []) :
    s.beginWrite = s := by
  unfold State.beginWrite
  split
  · next awake =>
    split
    · next flight queue => simp [awake, flight, queue] at h
    · rfl
  · rfl

theorem State.beginWrite_due {s : State} {e : Entry} {rest : List Entry} (awake : s.awake = true)
    (flight : s.eeprom.flight = none) (queue : s.eeprom.queue = e :: rest) :
    s.beginWrite = { s with eeprom := { s.eeprom with queue := rest, flight := some (s.flightOf e) } } := by
  rw [State.beginWrite, if_pos awake, flight, queue]

/-! ## A word completes or fails -/

theorem State.completeWord_due {s : State} {f : Flight} {a : Nat} {w : Word} {rest : List (Nat × Word)}
    (flight : s.eeprom.flight = some f) (words : f.words = (a, w) :: rest) (wait : f.wait ≤ 25) :
    s.completeWord =
      if rest = [] then
        { s with eeprom := { s.eeprom with memory := writeWord s.eeprom.memory a w, flight := none },
                 accum := s.accum.stored f.kind }
      else
        { s with eeprom := { s.eeprom with memory := writeWord s.eeprom.memory a w,
                                           flight := some { kind := f.kind, words := rest, wait := 0 } } } := by
  obtain ⟨kind, _, _⟩ := f
  subst words
  rw [State.completeWord, flight]
  exact if_pos wait

theorem State.completeWord_late {s : State} {f : Flight} (flight : s.eeprom.flight = some f) (wait : 25 < f.wait) :
    s.completeWord = s := by
  unfold State.completeWord
  split
  · next h =>
    obtain rfl := Option.some.inj (flight.symm.trans h)
    exact if_neg (Nat.not_le.mpr wait)
  · rfl

theorem Accumulators.stored_other (a : Accumulators) {kind : FlightKind} (h : ∀ slot v, kind ≠ .odometer slot v) :
    a.stored kind = a := by
  cases kind with
  | odometer slot v => exact absurd rfl (h slot v)
  | service => rfl
  | header => rfl
  | host => rfl

theorem State.failWord_due {s : State} {f : Flight} {a : Nat} {w : Word} {rest : List (Nat × Word)}
    (flight : s.eeprom.flight = some f) (words : f.words = (a, w) :: rest) (wait : 25 ≤ f.wait) :
    s.failWord = State.notify { s with
      eeprom := { memory := tearWord s.eeprom.memory a (Config.leftWord s.freeCount), queue := s.eeprom.queue,
                  flight := none },
      freeCount := s.freeCount + 1 } .store (storeWord a) := by
  obtain ⟨kind, _, _⟩ := f
  subst words
  rw [State.failWord, flight]
  exact if_pos wait

theorem State.failWord_early {s : State} {f : Flight} (flight : s.eeprom.flight = some f) (wait : f.wait < 25) :
    s.failWord = s := by
  unfold State.failWord
  split
  · next h =>
    obtain rfl := Option.some.inj (flight.symm.trans h)
    exact if_neg (Nat.not_le.mpr wait)
  · rfl

/-- With no word in flight none completes and none fails. -/
theorem State.no_word_in_flight {s : State} (h : ∀ f, s.eeprom.flight = some f → f.words = []) :
    s.completeWord = s ∧ s.failWord = s := by
  constructor
  · unfold State.completeWord
    split
    · next flight => cases h _ flight
    · rfl
  · unfold State.failWord
    split
    · next flight => cases h _ flight
    · rfl

/-! ## What the device leaves of a word -/

/-- The record of an address is as the statements give it (R48, R151, R157). -/
theorem recordAt_of_slot {a : Nat} (slot : Fin 8) (low : 7 + 3 * slot.val ≤ a) (high : a < 10 + 3 * slot.val) :
    recordAt a = some (7 + 3 * slot.val, 3) := by
  have lt := slot.isLt
  unfold recordAt
  rw [if_neg (by omega), if_pos (by omega)]
  congr
  omega

theorem not_checks_of_recordAt {m : Memory} {a first count : Nat} (h : recordChecks m a = false)
    (record : recordAt a = some (first, count)) : checks (readRun m first count) = false := by
  unfold recordChecks at h
  rwa [record] at h

theorem headerConstants_eq_none {m : Memory} (h : checks (readRun m 0 7) = false) : headerConstants m = none := by
  unfold headerConstants
  dsimp only
  split
  · refine if_neg fun ⟨_, sums, _⟩ => ?_
    exact absurd (h.symm.trans sums) (by decide)
  · rfl

theorem ringRecord_eq_none {m : Memory} {slot : Fin 8} (h : checks (readRun m (7 + 3 * slot.val) 3) = false) :
    ringRecord m slot = none := by
  unfold ringRecord
  split
  · next words =>
    rw [words] at h
    refine if_neg fun ⟨sums, _⟩ => ?_
    exact absurd (h.symm.trans sums) (by decide)
  · rfl

/-- A word left unfinished tears its record (R53, R153, R155, R166). -/
theorem tornAt_tearWord (m : Memory) (a : Nat) (left : Word) : tornAt m (tearWord m a left) a left := by
  refine ⟨fun b hb => readWord_tearWord m left hb, fun canonical => ?_⟩
  have reads (x : Word) : readWord (writeWord m a x) a = x := by rw [readWord_writeWord a a x canonical, if_pos rfl]
  have torn {first count : Nat} : recordAt a = some (first, count) →
      checks (readRun (tearWord m a left) first count) = false :=
    not_checks_of_recordAt (recordChecks_tearWord a left canonical)
  refine ⟨fun host => ?_, ?_, fun header => ?_, fun slot low high => ?_, fun low high => ?_⟩
  · rw [tearWord_host m left host, reads]
  · rcases tearWord_eq m a left with e | e
    · exact .inl (e ▸ reads left)
    · exact .inr (e ▸ reads (left + 1))
  · exact headerConstants_eq_none (torn (if_pos header))
  · exact ringRecord_eq_none (torn (recordAt_of_slot slot low high))
  · have record : recordAt a = some (31, 19) := by
      unfold recordAt
      rw [if_neg (by omega), if_neg (by omega), if_pos high]
    rw [serviceBlockValid, torn record, Bool.false_and]

/-- A STORE notice carries the address (R166). -/
theorem storeWord_eq (a : Nat) : storeWord a = BitVec.ofNat 16 (a % 256) := by
  apply BitVec.eq_of_toNat_eq
  change ((0 : Byte) ++ byte a).toNat = _
  rw [BitVec.toNat_append]
  simp [byte]
  omega

/-! ## The value last bound -/

theorem waitingOdometer_eq_none {q : List Entry} (h : ∀ e ∈ q, ∀ x, e ≠ .odometer x) : waitingOdometer q = none := by
  refine List.findSome?_eq_none_iff.mpr fun e he => ?_
  cases e with
  | odometer v => exact absurd rfl (h _ he v)
  | service => rfl
  | header => rfl
  | host a v => rfl

theorem flyingOdometer_eq_none {flight : Option Flight}
    (h : ∀ f slot v, flight = some f → f.kind ≠ .odometer slot v) : flyingOdometer flight = none := by
  cases flight with
  | none => rfl
  | some f =>
    obtain ⟨kind, _, _⟩ := f
    cases kind with
    | odometer slot v => exact absurd rfl (h _ slot v rfl)
    | service => rfl
    | header => rfl
    | host => rfl

/-- The entry that waits comes before the write in flight, and that before the newest record (R51). -/
theorem State.lastBound_eq (s : State) :
    s.lastBound = (waitingOdometer s.eeprom.queue).or ((flyingOdometer s.eeprom.flight).or
      (s.accum.newestSlot.map fun _ => s.accum.newestValue)) := by
  have waits : s.lastBound = match waitingOdometer s.eeprom.queue with
      | some v => some v
      | none =>
        match s.eeprom.flight with
        | some { kind := .odometer _ v, .. } => some v
        | _ => s.accum.newestSlot.map fun _ => s.accum.newestValue := rfl
  rw [waits]
  cases waitingOdometer s.eeprom.queue with
  | some v => rfl
  | none =>
    cases s.eeprom.flight with
    | none => rfl
    | some f => obtain ⟨kind, _, _⟩ := f; cases kind <;> rfl

theorem State.lastBound_waiting {s : State} {v : Nat} {front rest : List Entry}
    (queue : s.eeprom.queue = front ++ .odometer v :: rest) (h : ∀ e ∈ front, ∀ x, e ≠ .odometer x) :
    s.lastBound = some v := by
  have waiting : waitingOdometer (front ++ .odometer v :: rest) = some v :=
    List.findSome?_append.trans (congrArg (Option.or · (some v)) (waitingOdometer_eq_none h))
  rw [State.lastBound_eq, queue, waiting]
  rfl

/-- An entry with an ODOMETER value put in it, if it is one for a value. -/
def Entry.rebind (v : Nat) (e : Entry) : Entry := match e with | .odometer _ => .odometer v | e => e

theorem bindOdometer_eq (v : Nat) (q : List Entry) :
    bindOdometer v q = if odometerWaits q then q.map (Entry.rebind v) else q ++ [.odometer v] := rfl

theorem odometerWaits_eq_false {q : List Entry} (h : ∀ e ∈ q, ∀ x, e ≠ .odometer x) : odometerWaits q = false := by
  refine List.any_eq_false.mpr fun e he => ?_
  cases e with
  | odometer v => exact absurd rfl (h _ he v)
  | service => decide
  | header => decide
  | host a v => exact Bool.false_ne_true

theorem map_rebind {v : Nat} {q : List Entry} (h : ∀ e ∈ q, ∀ x, e ≠ .odometer x) : q.map (Entry.rebind v) = q := by
  refine (List.map_congr_left fun e he => ?_).trans (List.map_id q)
  cases e with
  | odometer w => exact absurd rfl (h _ he w)
  | service => rfl
  | header => rfl
  | host a v => rfl

/-- A value bound joins at the back, or replaces the one that waits in its place (R51). -/
theorem bindOdometer_new (v : Nat) {q : List Entry} (h : ∀ e ∈ q, ∀ x, e ≠ .odometer x) :
    bindOdometer v q = q ++ [.odometer v] := by
  rw [bindOdometer_eq, odometerWaits_eq_false h]
  rfl

theorem bindOdometer_in_place (v w : Nat) {front rest : List Entry} (hf : ∀ e ∈ front, ∀ x, e ≠ .odometer x)
    (hr : ∀ e ∈ rest, ∀ x, e ≠ .odometer x) :
    bindOdometer v (front ++ .odometer w :: rest) = front ++ .odometer v :: rest := by
  have waits : odometerWaits (front ++ .odometer w :: rest) = true := by simp [odometerWaits]
  rw [bindOdometer_eq, if_pos waits, List.map_append, List.map_cons, map_rebind hf, map_rebind hr]
  rfl

/-- Settles O46: each event by its due and its not-due case, the ring's value by the three places it can be in. -/
theorem eepromEvents : Obligations.EepromEvents := by
  intro s hs record
  refine ⟨fun h => ?_, fun e rest awake flight queue => ?_, fun h => ?_, fun f flight wait => ?_,
    fun f a w rest flight words wait => ?_, fun f a w rest flight words => ⟨fun wait => ?_, fun wait => ?_⟩,
    fun v front rest => State.lastBound_waiting, fun waits => ⟨fun f slot v flight kind => ?_, fun other => ?_⟩,
    fun v w front rest none => ?_⟩
  · rw [exec_eepromWriteBegin hs, State.beginWrite_not_due h]
  · rw [exec_eepromWriteBegin hs, State.beginWrite_due awake flight queue]
    cases e <;> simp only [State.flightOf, ringWords, serviceWords, headerWords, wordsFrom_withCheck, targetSlot_eq] <;> rfl
  · obtain ⟨complete, fail⟩ := State.no_word_in_flight h
    exact ⟨(exec_eepromWordComplete hs).trans (congrArg _ complete), (exec_eepromWordFail hs).trans (congrArg _ fail)⟩
  · rw [exec_eepromWordComplete hs, State.completeWord_late flight wait]
  · refine ⟨_, exec_eepromWordComplete hs, ?_⟩
    have stored (b : Nat) (canonical : memoryWf s.eeprom.memory = true) := readWord_writeWord a b w canonical
    have others (b : Nat) (hb : b ≠ a) := readWord_writeWord_ne s.eeprom.memory w hb
    rw [State.completeWord_due flight words wait]
    split
    · next last =>
      refine ⟨fun canonical => (stored a canonical).trans (if_pos rfl), others, rfl, fun more => absurd last more,
        fun _ => ⟨rfl, fun slot v kind => ?_, fun other => ?_⟩, rfl⟩
      · rw [kind]
        rfl
      · exact Accumulators.stored_other s.accum other
    · next more =>
      exact ⟨fun canonical => (stored a canonical).trans (if_pos rfl), others, rfl, fun _ => ⟨rfl, rfl⟩,
        fun last => absurd last more, rfl⟩
  · rw [exec_eepromWordFail hs, State.failWord_early flight wait]
  · refine ⟨_, exec_eepromWordFail hs, ?_⟩
    rw [State.failWord_due flight words wait]
    exact ⟨tornAt_tearWord _ _ _, by rw [storeWord_eq]; rfl⟩
  · rw [State.lastBound_eq, waitingOdometer_eq_none waits, flight]
    obtain ⟨_, _, _⟩ := f
    subst kind
    rfl
  · rw [State.lastBound_eq, waitingOdometer_eq_none waits, flyingOdometer_eq_none other]
    cases s.accum.newestSlot <;> rfl
  · exact ⟨bindOdometer_new v none, bindOdometer_in_place v w
      (fun e he => none e (List.mem_append_left _ he)) (fun e he => none e (List.mem_append_right _ he))⟩

end Sys2Proof.Machine
end

section
/-!
SUPPORT and proof: the power-on reset, the part held in reset, and the release of RESETN with what INIT reads (R50, R53,
R74, R151, R155 to R157).
-/
namespace Sys2Proof.Machine

/-! ## The part held in reset -/

/-- The reset state is what a power-on reset with every level low leaves of a part with a blank device (R155). -/
theorem reset_eq_powerOnReset : State.reset = State.reset.powerOnReset 0 false 0 false false := by decide

theorem reset_noClaims (l : Fin 12) (c : Fin 23) : State.reset.lamp.claim l c = none := by
  change (Vector.replicate 12 (Vector.replicate 23 none))[l][c] = none
  simp

/-- Settles O2: the reset state is a power-on reset's, which meets each law, with no notice, request, claim or word. -/
theorem resetMeetsTheLaws : Obligations.ResetMeetsTheLaws := by
  have residues : State.reset.residuesSound :=
    reset_eq_powerOnReset ▸ State.reset.powerOnReset_residuesSound 0 false 0 false false
  have sleep : State.reset.sleepSound :=
    reset_eq_powerOnReset ▸ State.reset.powerOnReset_sleepSound 0 false 0 false false
  have service : State.reset.serviceSound :=
    reset_eq_powerOnReset ▸ State.reset.powerOnReset_serviceSound 0 false 0 false false
  have gauges : State.reset.gaugesSound :=
    reset_eq_powerOnReset ▸ State.reset.powerOnReset_gaugesSound 0 false 0 false false
  have drum : State.reset.drumSound :=
    reset_eq_powerOnReset ▸ State.reset.powerOnReset_drumSound 0 false 0 false false
  have chime : State.reset.chimeSound := State.reset.chimeSound_iff.mpr ⟨List.nodup_nil, rfl, fun _ => rfl⟩
  have warnings : State.reset.warningsSound :=
    ⟨fun i l h => absurd (reset_noClaims l _) h, nofun, fun k l h => absurd (reset_noClaims l _) h, nofun⟩
  have eeprom : State.reset.eepromSound := ⟨reset_memoryWf, nofun, nofun, nofun⟩
  exact ⟨List.nodup_nil, residues, Nat.zero_le _, sleep, chime, warnings, service, gauges, drum, eeprom⟩

/-- Settles O3: a request row in a part held in reset changes nothing, and an event row does not take place. -/
theorem heldPartStandsStill : Obligations.HeldPartStandsStill := by
  intro c s held notReset notRelease
  rcases hc : service? c with _ | f
  case some => exact exec_request_held (by rw [frame?_isSome, hc]; rfl) held
  cases c <;> simp only [service?, reduceCtorEq] at hc
  case powerOnReset di ign pulse lrate drumfit => exact absurd rfl (notReset di ign pulse lrate drumfit)
  case resetnRelease => exact absurd rfl notRelease
  all_goals exact congrArg Host.Outcome.next (if_pos held)

/-! ## A power-on reset -/

theorem DiscreteUnit.sampled_input (di : BitVec 12) (ign : Bool) (k : Fin 12) :
    (DiscreteUnit.sampled di ign).inputs[k] = Discrete.sampled (di.getLsbD k.val) := by
  simp [DiscreteUnit.sampled]

/-- A power-on reset without a word in flight leaves the device's words (R155). -/
theorem State.cutEeprom_idle {s : State} (h : s.eeprom.flight = none) :
    s.cutEeprom.eeprom.memory = s.eeprom.memory ∧ s.cutEeprom.freeCount = s.freeCount := by
  unfold State.cutEeprom
  rw [h]
  exact ⟨rfl, rfl⟩

/-- A power-on reset tears the word in flight (R53, R155). -/
theorem State.cutEeprom_flying {s : State} {f : Flight} {a : Nat} {w : Word} {rest : List (Nat × Word)}
    (flight : s.eeprom.flight = some f) (words : f.words = (a, w) :: rest) :
    s.cutEeprom.eeprom.memory = tearWord s.eeprom.memory a (Config.leftWord s.freeCount) ∧
      s.cutEeprom.freeCount = s.freeCount + 1 := by
  obtain ⟨_, _, _⟩ := f
  subst words
  unfold State.cutEeprom
  rw [flight]
  exact ⟨rfl, rfl⟩

/-- Settles O15: every block at its initial value, and the device as `cutEeprom` leaves it. -/
theorem powerOnResetResult : Obligations.PowerOnResetResult := by
  intro s di ign pulse lrate drumfit
  refine ⟨s.powerOnReset di ign pulse lrate drumfit, rfl, DiscreteUnit.sampled_input di ign, rfl, fun flight => ?_,
    fun f a w rest flight words => ?_, rfl⟩
  · exact State.cutEeprom_idle flight
  · obtain ⟨memory, free⟩ := State.cutEeprom_flying flight words
    refine ⟨?_, free⟩
    change tornAt s.eeprom.memory s.cutEeprom.eeprom.memory a _
    rw [memory]
    exact tornAt_tearWord _ _ _

/-! ## What INIT reads -/

theorem serviceBlockValid_iff (m : Memory) :
    serviceBlockValid m = true ↔
      ((List.range 19).map fun k => (readWord m (31 + k)).toNat).sum % 65536 = 0xA5A5 ∧
        ∀ k : Nat, k < 6 → (readWord m (32 + 3 * k)).toNat ≤ 4095 := by
  have sums : checks (readRun m 31 19) = true ↔
      ((List.range 19).map fun k => (readWord m (31 + k)).toNat).sum % 65536 = 0xA5A5 := beq_iff_eq
  simp only [serviceBlockValid, Bool.and_eq_true, sums, List.all_eq_true, List.mem_range, decide_eq_true_eq]

theorem readRun_header (m : Memory) : readRun m 0 7 =
    [(readWord m 0).toNat, (readWord m 1).toNat, (readWord m 2).toNat, (readWord m 3).toNat, (readWord m 4).toNat,
      (readWord m 5).toNat, (readWord m 6).toNat] := rfl

/-- The constants that words 1 to 5 of the header hold (9.2). -/
def headerWordsRead (m : Memory) : Constants :=
  { kvss := (readWord m 1).toNat, cinj := (readWord m 2).toNat, ppr := (readWord m 3).toNat,
    consumption := (readWord m 4).toNat, reserve := (readWord m 5).toNat, origin := .header }

/-- The header gives its constants when its marker, its sum and their ranges are right (R157). -/
theorem headerConstants_eq (m : Memory) :
    headerConstants m =
      if (readWord m 0).toNat = 0x4E5A ∧ checks (readRun m 0 7) = true ∧
          constantsInRange (readWord m 1).toNat (readWord m 2).toNat (readWord m 3).toNat (readWord m 4).toNat
            (readWord m 5).toNat = true
      then some (headerWordsRead m) else none := rfl

theorem constantsInRange_iff (kvss cinj ppr consumption reserve : Nat) :
    constantsInRange kvss cinj ppr consumption reserve = true ↔
      500 ≤ kvss ∧ kvss ≤ 25000 ∧ 256 ≤ cinj ∧ cinj ≤ 65535 ∧ 1 ≤ ppr ∧ ppr ≤ 8 ∧ 20 ≤ consumption ∧
        consumption ≤ 500 ∧ reserve ≤ 200 := by
  simp only [constantsInRange, Bool.and_eq_true, decide_eq_true_eq, and_assoc]

/-- Settles O17: the seven words of the header, its marker, its sum and the ranges. -/
theorem headerValidity : Obligations.HeaderValidity := by
  intro m c
  have marker : (readWord m 0).toNat = 0x4E5A ↔ readWord m 0 = 0x4E5A := BitVec.toNat_inj (y := 0x4E5A)
  have sums : checks (readRun m 0 7) = true ↔
      ((readWord m 0).toNat + (readWord m 1).toNat + (readWord m 2).toNat + (readWord m 3).toNat +
        (readWord m 4).toNat + (readWord m 5).toNat + (readWord m 6).toNat) % 65536 = 0xA5A5 := by
    simp [readRun_header, checks, sum16, Config.checkSum, Nat.add_assoc]
  simp only [headerConstants_eq, marker, sums, constantsInRange_iff]
  constructor
  · intro h
    split at h
    · next valid =>
      obtain ⟨mark, sum, ranges⟩ := valid
      obtain rfl := Option.some.inj h
      exact ⟨mark, sum, rfl, ranges⟩
    · cases h
  · rintro ⟨mark, sum, rfl, ranges⟩
    exact if_pos ⟨mark, sum, ranges⟩

/-- What the release of RESETN leaves of a part held in reset (R155, R156; log entry 37). -/
theorem State.release_held {s : State} (h : s.power.state = .held) :
    s.release = { s with
      power := { s.power with
        state := .init, headerDefaulted := (headerConstants s.eeprom.memory).isNone,
        ringEmpty := (newestRecord s.eeprom.memory).isNone,
        serviceDefaulted := !serviceBlockValid s.eeprom.memory, clockLost := true },
      consts := (headerConstants s.eeprom.memory).getD .initial,
      trip := { s.trip with
        rbDist := 10000, rbFuel := ((headerConstants s.eeprom.memory).getD .initial).consumption * 100 },
      accum := { s.accum with
        total := ((newestRecord s.eeprom.memory).map Prod.snd).getD 0,
        newestSlot := (newestRecord s.eeprom.memory).map Prod.fst,
        newestValue := ((newestRecord s.eeprom.memory).map Prod.snd).getD 0 },
      service := s.loadService.service } := by
  rw [State.release, if_pos h]
  simp only [State.loadHeader, State.loadRing, State.loadService]

theorem ServiceItem.load_eq (i : ServiceItem) (m : Memory) (valid : Bool) (k : Nat) :
    i.load m valid k = { i with
      sinceDu := if valid then (readWord m (31 + 3 * k)).toNat * 100 else 0,
      sinceDays := if valid then (readWord m (32 + 3 * k)).toNat else 0,
      sinceKr := if valid then (readWord m (33 + 3 * k)).toNat else 0 } := by
  cases valid <;> rfl

/-- Settles O16: the release of RESETN by its three reads. -/
theorem releaseReadsTheEeprom : Obligations.ReleaseReadsTheEeprom := by
  refine ⟨serviceBlockValid_iff, fun s => ⟨fun running => congrArg _ (if_neg running), fun held => ?_⟩⟩
  refine ⟨s.release, rfl, ?_⟩
  rw [State.release_held held]
  refine ⟨rfl, fun slot value newest => ?_, fun empty => ?_, fun k => ?_, rfl⟩
  · simp only [newest]
    exact ⟨rfl, rfl, rfl⟩
  · simp only [empty]
    exact ⟨rfl, rfl, rfl⟩
  · exact (loadService_get s k).trans (ServiceItem.load_eq _ _ _ _)

end Sys2Proof.Machine
end

section
/-!
SUPPORT and proof: what RUN entry does in every block, from RUN entry itself and from the end of INIT (R156, R160).
-/
namespace Sys2Proof.Machine

/-! ## The Trip B auto-reset check (R68) -/

/-- The off-duration is known and as long as the auto-reset hours set (R68). -/
abbrev State.autoResetDue (s : State) : Prop :=
  1 ≤ s.trip.hours ∧ s.trip.hours ≤ 24 ∧ ∃ off, s.power.offDuration = some off ∧ s.trip.hours * 3600 ≤ off

theorem State.autoReset_due {s : State} {off : Nat} (known : s.power.offDuration = some off)
    (low : 1 ≤ s.trip.hours) (high : s.trip.hours ≤ 24) (long : s.trip.hours * 3600 ≤ off) :
    s.autoReset = State.notify { s with trip := { s.trip with b := s.trip.b.zeroed } } .trip (tripWord off) := by
  simp only [State.autoReset, known, if_pos (And.intro low (And.intro high long))]

theorem State.autoReset_not_due {s : State} (h : ¬ s.autoResetDue) : s.autoReset = s := by
  unfold State.autoReset
  split
  · next off known => exact if_neg fun due => h ⟨due.1, due.2.1, off, known, due.2.2⟩
  · rfl

/-! ## The gauges and the sweep at RUN entry (R87) -/

/-- A gauge is ARMED at RUN entry exactly when it is bound and its sweep is on (R87). -/
theorem State.enteredGauge_armed (s : State) (g : Gauge) :
    (s.enteredGauge g).mode = .armed ↔ s.bound g = true ∧ g.config.sweep = true := by
  unfold State.enteredGauge Gauge.drive Gauge.park
  cases s.bound g <;> cases g.config.sweep <;> simp

theorem Sweep.enter_eq (w : Sweep) (armed : Bool) :
    w.enter armed =
      if armed = true then
        { w with isOpen := true, completed := Vector.replicate 6 false, cause := .none, timeout := some 5000,
                 delayTimer := if w.delay = 0 then none else some (w.delay * 10) }
      else { w with timeout := none, delayTimer := none } := rfl

theorem State.gaugeEntry_gauge (s : State) :
    s.gaugeEntry.gauge =
      { s.gauge with
          gauges := vmap s.enteredGauge s.gauge.gauges,
          sweep := s.gauge.sweep.enter (s.setGauges (vmap s.enteredGauge s.gauge.gauges)).anyArmed,
          sync := s.gauge.sync.enable s.now } := rfl

theorem State.gaugeEntry_armed (s : State) :
    (s.setGauges (vmap s.enteredGauge s.gauge.gauges)).anyArmed = true ↔
      ∃ k : Fin 6, s.bound s.gauge.gauges[k] = true ∧ s.gauge.gauges[k].config.sweep = true := by
  rw [State.anyArmed_iff]
  refine exists_congr fun k => ?_
  rw [← s.enteredGauge_armed]
  exact (congrArg (fun g : Gauge => g.mode = .armed) (vmap_get s.enteredGauge s.gauge.gauges k)).to_iff

/-! ## RUN entry in every block (R160) -/

/-- The part in RUN with the PIU and the sampler started, before the Trip Computer and the gauges (R160). -/
def State.enteringRun (s : State) : State :=
  { s.setPower .run .stopped with pulse := s.pulse.runEntry s.now, sampler := s.sampler.runEntry }

theorem State.enterRun_eq (s : State) :
    s.enterRun = (s.enteringRun.autoReset.startTripClock.gaugeEntry).setBulbCheck (some 3000) := rfl

theorem State.enterRun_trip (s : State) :
    s.enterRun.trip = { s.enteringRun.autoReset.trip with clock := some 0 } := by
  simp [State.enterRun_eq, State.startTripClock]

theorem State.enterRun_notices (s : State) : s.enterRun.notices = s.enteringRun.autoReset.notices := by
  simp [State.enterRun_eq]

/-- Before the gauges' entry nothing they read has changed. -/
theorem State.enterRun_gauge (s : State) : s.enterRun.gauge = s.gaugeEntry.gauge := by
  have kept := s.enteringRun.autoReset_frame
  have gauge : s.enteringRun.autoReset.startTripClock.gauge = s.gauge := by simp [State.enteringRun]
  have bound : s.enteringRun.autoReset.startTripClock.enteredGauge = s.enteredGauge := by
    funext g
    simp [State.enteredGauge, State.bound, State.curveOf, State.enteringRun]
  have now : s.enteringRun.autoReset.startTripClock.now = s.now := by simp [State.now, State.enteringRun]
  calc s.enterRun.gauge = s.enteringRun.autoReset.startTripClock.gaugeEntry.gauge := rfl
    _ = s.gaugeEntry.gauge := by
        rw [State.gaugeEntry_gauge, State.gaugeEntry_gauge, gauge, bound, now]
        rfl

theorem State.enterRun_entered (s : State) : runEntered s s.enterRun := by
  have gauges : ∀ k : Fin 6, s.enterRun.gauge.gauges[k] = s.enteredGauge s.gauge.gauges[k] := by
    intro k
    rw [s.enterRun_gauge]
    exact vmap_get s.enteredGauge s.gauge.gauges k
  refine ⟨by simp [State.enterRun, State.setPower], by simp [State.enterRun]; rfl, fun i => ?_, by simp [State.enterRun]; rfl,
    ⟨?_, ?_, ?_⟩, fun k => ?_, ?_, ?_, ?_, ?_, by simp [State.enterRun]; rfl, ?_⟩
  · have sampled : s.enterRun.sampler = s.sampler.runEntry := by simp [State.enterRun]
    rw [sampled]
    exact vmap_get _ s.sampler.inputs i
  · rintro ⟨low, high, off, known, long⟩
    rw [s.enterRun_trip, State.autoReset_due (s := s.enteringRun) known low high long]
    rfl
  · intro h
    rw [s.enterRun_trip, s.enterRun_notices, State.autoReset_not_due (s := s.enteringRun) h]
    exact ⟨rfl, rfl⟩
  · rintro ⟨low, high, off', known', long⟩ off known
    obtain rfl : off' = off := Option.some_injective _ (known'.symm.trans known)
    rw [s.enterRun_notices, State.autoReset_due (s := s.enteringRun) known low high long]
    rfl
  · exact gauges k
  · rw [s.enterRun_gauge, State.gaugeEntry_gauge, Sweep.enter_eq]
    simp only [s.gaugeEntry_armed]
  · rw [s.enterRun_gauge]
    rfl
  · rw [s.enterRun_gauge]
    rfl
  · rw [s.enterRun_gauge]
    rfl
  · exact State.ext_fields (by simp) rfl (by simp) rfl rfl (by simp) (by simp) (by simp) (by simp) (by simp) rfl rfl
      (by simp) (by simp) rfl (by simp) (by simp) (by simp) rfl (by simp) (by simp)

/-! ## RUN entry and the end of INIT -/

@[simp] theorem atMoment_power (s : State) (m : Moment) : (atMoment s m).power = s.power := rfl
@[simp] theorem atMoment_discretes (s : State) (m : Moment) : (atMoment s m).discretes = s.discretes := rfl
@[simp] theorem atMoment_link (s : State) (m : Moment) : (atMoment s m).link = s.link := rfl

/-- RUN entry's notice (R163). -/
theorem State.enterRun_notifyPower (s : State) : s.enterRun.notifyPower 0 = s.enterRun.notify .power 0x0002 := by
  have word : powerWord 0 .run = 0x0002 := by decide
  rw [State.notifyPower, s.enterRun_state, word]

/-- RUN entry, due in AWAKE_OFF and ASLEEP with IGN active (R160). -/
theorem State.takeRunEntry_due {s : State} (m : Moment) (off : s.power.state = .awakeOff ∨ s.power.state = .asleep)
    (ign : s.discretes.ign.level = true) : s.takeRunEntry m = (atMoment s m).runEntry := by
  rw [State.takeRunEntry, if_pos off, if_pos ign, s.reach_eq]

/-- Settles O21: RUN entry is taken at its moment, in every block by `State.enterRun_entered`. -/
theorem runEntryResult : Obligations.RunEntryResult := by
  intro s m hs
  rw [exec_runEntry hs]
  refine ⟨fun ign off => ⟨(atMoment s m).enterRun, ?_, State.enterRun_entered _⟩,
    fun ign asleep => ⟨(atMoment s m).startClocks.enterRun, ?_, State.enterRun_entered _⟩, fun h => ?_⟩
  · rw [State.takeRunEntry_due m (.inl off) ign, ← State.enterRun_notifyPower]
    simp only [State.runEntry, atMoment_discretes, atMoment_power, ign, off, if_true]
  · rw [State.takeRunEntry_due m (.inr asleep) ign, ← State.enterRun_notifyPower]
    simp only [State.runEntry, atMoment_discretes, atMoment_power, ign, asleep, if_true]
  · congr 1
    unfold State.takeRunEntry
    obtain ign | run | init := h
    · simp [ign]
    · simp [run]
    · simp [init]

/-- STARTUP carries the start-up flags in its low byte (R156, R181). -/
theorem PowerControl.startupWord_eq (p : PowerControl) :
    p.startupWord = BitVec.ofNat 16 ((if p.headerDefaulted then 1 else 0) + (if p.ringEmpty then 2 else 0) +
      (if p.serviceDefaulted then 4 else 0) + (if p.clockLost then 8 else 0)) := by
  have word : ∀ a b c d : Bool, noticeValue 0 (flagByte [a, b, c, d]) =
      BitVec.ofNat 16 ((if a then 1 else 0) + (if b then 2 else 0) + (if c then 4 else 0) + (if d then 8 else 0)) := by
    decide
  exact word _ _ _ _

/-- The end of INIT: the motion steps counted from its moment, the first power state entered, and STARTUP posted
(R156). -/
theorem State.takeInitEnd_due {s : State} (m : Moment) (init : s.power.state = .init) :
    s.takeInitEnd m =
      (let t := State.enterFirst { atMoment s m with gauge := { (atMoment s m).gauge with clock := 0 } }
       t.notify .startup t.power.startupWord) := by
  rw [State.takeInitEnd, if_pos init, s.reach_eq, State.endInit]
  exact if_pos init

/-- The link has a frame queued or a reply being sent (R156). -/
theorem State.linkBusy_iff (s : State) :
    (!s.link.queue.isEmpty || s.link.reply.isSome) = true ↔ s.link.queue ≠ [] ∨ s.link.reply ≠ none := by
  simp [Option.isSome_iff_ne_none]

/-- Settles O20: the first power state is the case that `State.firstState` finds, and RUN is entered as by
`State.enterRun_entered`. -/
theorem initEndResult : Obligations.InitEndResult := by
  intro s m hs u g flags
  have word : ∀ p : PowerControl, p.headerDefaulted = s.power.headerDefaulted → p.ringEmpty = s.power.ringEmpty →
      p.serviceDefaulted = s.power.serviceDefaulted → p.clockLost = s.power.clockLost → p.startupWord = flags := by
    intro p header ring service clock
    rw [p.startupWord_eq, header, ring, service, clock]
  have ended : ∀ {t : State}, s.power.state = .init → g.enterFirst = t → t.power.startupWord = flags →
      exec (.initEnd m) s = .next (t.notify .startup flags) := by
    rintro t init rfl flagged
    rw [exec_initEnd hs, State.takeInitEnd_due m init, ← flagged]
  refine ⟨fun h => ?_, fun init ign queue reply => ?_, fun init ign busy => ?_, fun init ign => ?_⟩
  · rw [exec_initEnd hs, State.takeInitEnd, if_neg h]
  · have first : g.firstState = .asleep := by
      simp [State.firstState, g, u, ign, queue, reply]
    exact ended init (by rw [State.enterFirst, first]; rfl) (word _ rfl rfl rfl rfl)
  · have first : g.firstState = .awakeOff := by
      have off : g.discretes.ign.level ≠ true := by simp [g, u, ign]
      rw [State.firstState, if_neg off, if_pos (g.linkBusy_iff.mpr busy)]
    exact ended init (by rw [State.enterFirst, first]; rfl) (word _ rfl rfl rfl rfl)
  · have first : g.firstState = .run := if_pos ign
    have power := (State.enterRun_entered g.startClocks).1
    refine ⟨g.startClocks.enterRun, ended init (by rw [State.enterFirst, first]) ?_, State.enterRun_entered _⟩
    rw [power]
    exact word _ rfl rfl rfl rfl

end Sys2Proof.Machine
end

section
/-!
SUPPORT. What a block takes back of its lamp claims and chime requests, source after source: the monitors at RUN exit
(R112), and the monitors and the service items at Soft Restart (R118, R154).
-/
namespace Sys2Proof.Machine

/-! ## Claims and requests taken back -/

/-- From `s` to `t` the claims that meet `claims` are gone and the requests whose source meets `sources` withdrawn; the
lamp and chime units are else as they were. -/
structure TakenBack (claims : Fin 12 → Fin 23 → Prop) (sources : Fin 26 → Prop) [∀ l c, Decidable (claims l c)]
    [DecidablePred sources] (s t : State) : Prop where
  claim : ∀ (l : Fin 12) (c : Fin 23), t.lamp.claim l c = if claims l c then none else s.lamp.claim l c
  lamp : t.lamp = { s.lamp with claims := t.lamp.claims }
  chime : t.chime = { s.chime with queue := withdrawWhere (fun r => sources r.source) s.chime.queue }

section
variable {claims claims' : Fin 12 → Fin 23 → Prop} {sources sources' : Fin 26 → Prop}
  [∀ l c, Decidable (claims l c)] [∀ l c, Decidable (claims' l c)] [DecidablePred sources] [DecidablePred sources']
  {s t u : State}

theorem TakenBack.congr (h : TakenBack claims sources s t) (hc : ∀ l c, claims l c ↔ claims' l c)
    (hr : ∀ r, sources r ↔ sources' r) : TakenBack claims' sources' s t where
  claim l c := (h.claim l c).trans (if_congr (hc l c) rfl rfl)
  lamp := h.lamp
  chime := h.chime.trans (congrArg (fun q => ({ s.chime with queue := q } : ChimeUnit))
    (List.filterMap_congr fun r _ => if_congr (hr r.source) rfl rfl))

theorem TakenBack.nothing (hl : t.lamp = s.lamp) (hc : t.chime = s.chime) (noClaim : ∀ l c, ¬ claims l c)
    (noSource : ∀ r, ¬ sources r) : TakenBack claims sources s t where
  claim l c := by rw [hl, if_neg (noClaim l c)]
  lamp := by rw [hl]
  chime := by
    rw [hc, withdrawWhere]
    simp [noSource]

theorem TakenBack.trans (h : TakenBack claims sources s t) (g : TakenBack claims' sources' t u) :
    TakenBack (fun l c => claims l c ∨ claims' l c) (fun r => sources r ∨ sources' r) s u where
  claim l c := by
    rw [g.claim, h.claim, ← ite_or]
    exact if_congr or_comm rfl rfl
  lamp := by
    rw [g.lamp, h.lamp]
  chime := by
    rw [g.chime, h.chime]
    exact congrArg (fun q => ({ s.chime with queue := q } : ChimeUnit)) (withdrawWhere_withdrawWhere _)

end

/-- Distinct entries of a table worked off one after another, each step changing its own entry and taking back its own
claims and requests: every entry named is changed, and the claims and requests of all of them are taken back. -/
theorem foldl_takenBack {n : Nat} {α : Type} {item : State → Fin n → α} {step : State → Fin n → State} {after : α → α}
    {claims : Fin n → α → Fin 12 → Fin 23 → Prop} {sources : Fin n → α → Fin 26 → Prop}
    [∀ i a l c, Decidable (claims i a l c)] [∀ i a, DecidablePred (sources i a)]
    (changed : ∀ s i k, item (step s i) k = if k = i then after (item s i) else item s k)
    (taken : ∀ s i, TakenBack (claims i (item s i)) (sources i (item s i)) s (step s i)) (named : List (Fin n))
    (distinct : named.Nodup) (s : State) :
    (∀ k, item (named.foldl step s) k = if k ∈ named then after (item s k) else item s k) ∧
    TakenBack (fun l c => ∃ i ∈ named, claims i (item s i) l c) (fun r => ∃ i ∈ named, sources i (item s i) r) s
      (named.foldl step s) := by
  induction named generalizing s with
  | nil => exact ⟨by simp, .nothing rfl rfl (fun _ _ => by simp) fun _ => by simp⟩
  | cons i named ih =>
    obtain ⟨fresh, distinct⟩ := List.nodup_cons.mp distinct
    obtain ⟨items, rest⟩ := ih distinct (step s i)
    have other : ∀ k ∈ named, item (step s i) k = item s k := fun k hk =>
      (changed s i k).trans (if_neg fun e : k = i => fresh (e ▸ hk))
    refine ⟨fun k => ?_, ((taken s i).trans rest).congr (fun l c => ?_) fun r => ?_⟩
    · rw [List.foldl_cons, items, changed]
      by_cases e : k = i
      · subst e
        simp [fresh]
      · simp [e]
    · rw [List.exists_mem_cons_iff]
      exact or_congr_right (exists_congr fun k => and_congr_right fun hk => by rw [other k hk])
    · rw [List.exists_mem_cons_iff]
      exact or_congr_right (exists_congr fun k => and_congr_right fun hk => by rw [other k hk])

/-- As `foldl_takenBack`, over the whole table. -/
theorem foldl_takenBack_all {n : Nat} {α : Type} {item : State → Fin n → α} {step : State → Fin n → State}
    {after : α → α} {claims : Fin n → α → Fin 12 → Fin 23 → Prop} {sources : Fin n → α → Fin 26 → Prop}
    [∀ i a l c, Decidable (claims i a l c)] [∀ i a, DecidablePred (sources i a)]
    (changed : ∀ s i k, item (step s i) k = if k = i then after (item s i) else item s k)
    (taken : ∀ s i, TakenBack (claims i (item s i)) (sources i (item s i)) s (step s i)) (s : State) :
    (∀ k, item ((List.finRange n).foldl step s) k = after (item s k)) ∧
    TakenBack (fun l c => ∃ i, claims i (item s i) l c) (fun r => ∃ i, sources i (item s i) r) s
      ((List.finRange n).foldl step s) := by
  obtain ⟨items, back⟩ := foldl_takenBack changed taken (List.finRange n) (List.nodup_finRange n) s
  refine ⟨fun k => (items k).trans (if_pos (List.mem_finRange k)), back.congr (fun l c => ?_) fun r => ?_⟩
  · simp only [List.mem_finRange, true_and]
  · simp only [List.mem_finRange, true_and]

/-! ## A monitor's claim -/

theorem State.setMonitorClaim_eq (s : State) (i : Fin 16) (m : Option LampMode) :
    s.setMonitorClaim i m =
      { s with lamp := { s.lamp with claims := (s.setMonitorClaim i m).lamp.claims } } := by
  unfold State.setMonitorClaim
  split <;> rfl

/-- A monitor's claim is set on the lamp that its setting names, if any (R104). -/
theorem State.setMonitorClaim_claim (s : State) (i : Fin 16) (m : Option LampMode) (l : Fin 12) (c : Fin 23) :
    (s.setMonitorClaim i m).lamp.claim l c =
      if c = monitorClaim i ∧ (s.monitorAt i).config.lamp.toNat = l.val then m else s.lamp.claim l c := by
  unfold State.setMonitorClaim Monitor.lamp? index?
  by_cases h : (s.monitorAt i).config.lamp.toNat < 12
  · simp only [h, dif_pos, State.setClaim_claim, Fin.ext_iff, eq_comm (a := l.val), and_comm]
  · have hl : (s.monitorAt i).config.lamp.toNat ≠ l.val := by omega
    simp [h, hl]

/-- A monitor's claim and request are taken back together (R104). -/
theorem State.takeBackMonitor (s : State) (i : Fin 16) :
    TakenBack (fun l c => c = monitorClaim i ∧ (s.monitorAt i).config.lamp.toNat = l.val) (· = monitorSource i) s
      ((s.setMonitorClaim i none).withdrawChime (monitorSource i)) where
  claim := s.setMonitorClaim_claim i none
  lamp := by
    rw [s.setMonitorClaim_eq]
    rfl
  chime := by
    rw [s.setMonitorClaim_eq]
    rfl

/-! ## The monitors at Soft Restart (R118) -/

theorem State.restartMonitor_monitor (s : State) (i k : Fin 16) :
    (s.restartMonitor i).monitor.monitors[k] = if k = i then .initial else s.monitor.monitors[k] := by
  rw [State.restartMonitor, State.setMonitor_monitor]
  refine (set_get _ _ _ _).trans ?_
  simp

theorem State.restartMonitor_takenBack (s : State) (i : Fin 16) :
    TakenBack (fun l c => c = monitorClaim i ∧ s.monitor.monitors[i].config.lamp.toNat = l.val) (· = monitorSource i) s
      (s.restartMonitor i) := by
  obtain ⟨claim, lamp, chime⟩ := s.takeBackMonitor i
  exact ⟨claim, lamp, chime⟩

theorem State.restartMonitors_takenBack (s : State) :
    (∀ k : Fin 16, s.restartMonitors.monitor.monitors[k] = .initial) ∧
    TakenBack (fun l c => ∃ i, c = monitorClaim i ∧ s.monitor.monitors[i].config.lamp.toNat = l.val)
      (fun r => ∃ i, r = monitorSource i) s s.restartMonitors :=
  foldl_takenBack_all (item := fun s i => s.monitor.monitors[i]) (after := fun _ => .initial)
    (claims := fun i m l c => c = monitorClaim i ∧ m.config.lamp.toNat = l.val)
    (sources := fun i _ r => r = monitorSource i) State.restartMonitor_monitor State.restartMonitor_takenBack s

/-! ## The service items at Soft Restart (R154) -/

/-- One item's settings back at their defaults, disabled, its claim and request taken back (R154). -/
def State.restartItem (s : State) (k : Fin 6) : State :=
  let i := s.service[k]
  ((s.setItemClaim k i.lamp? none).withdrawChime (serviceSource k)).setItem k
    { i with config := serviceDefaults, state := .disabled }

theorem State.restartService_eq (s : State) : s.restartService = (List.finRange 6).foldl State.restartItem s := rfl

theorem State.restartItem_item (s : State) (i k : Fin 6) :
    (s.restartItem i).service[k] =
      if k = i then { s.service[i] with config := serviceDefaults, state := .disabled } else s.service[k] := by
  have setItem : ∀ (t : State) (x : ServiceItem), (t.setItem i x).service[k] = if k = i then x else t.service[k] :=
    fun t x => set_get _ _ _ _
  rw [State.restartItem, setItem]
  simp

theorem State.restartItem_takenBack (s : State) (i : Fin 6) :
    TakenBack (fun l c => c = serviceClaim i ∧ s.service[i].config.lamp.toNat = l.val) (· = serviceSource i) s
      (s.restartItem i) where
  claim l c := by
    have set : (s.restartItem i).lamp = (s.setItemClaim i s.service[i].lamp? none).lamp := rfl
    rw [set, State.setItemClaim_claim]
    exact if_congr and_comm rfl rfl
  lamp := s.setItemClaim_lamp i _ none
  chime := by
    have set : (s.restartItem i).chime = (s.setItemClaim i s.service[i].lamp? none).chime.withdraw (serviceSource i) := rfl
    rw [set, State.setItemClaim_eq]
    rfl

theorem State.restartService_takenBack (s : State) :
    (∀ k : Fin 6, s.restartService.service[k] = { s.service[k] with config := serviceDefaults, state := .disabled }) ∧
    TakenBack (fun l c => ∃ i : Fin 6, c = serviceClaim i ∧ s.service[i].config.lamp.toNat = l.val)
      (fun r => ∃ i, r = serviceSource i) s s.restartService :=
  foldl_takenBack_all (item := fun s i => s.service[i])
    (after := fun i : ServiceItem => { i with config := serviceDefaults, state := .disabled })
    (claims := fun i x l c => c = serviceClaim i ∧ x.config.lamp.toNat = l.val)
    (sources := fun i _ r => r = serviceSource i) State.restartItem_item State.restartItem_takenBack s

end Sys2Proof.Machine
end

section
/-!
SUPPORT. What RUN exit does to the monitors, the channels and the gauges (R10, R27, R71 to R73, R93, R112).
-/
namespace Sys2Proof.Machine

/-! ## The monitors (R112) -/

/-- A monitor as RUN exit leaves it (R112). -/
def Monitor.exited (m : Monitor) : Monitor :=
  if m.config.runIn ≠ 0 then m
  else if m.state = .off ∨ m.state = .clear then { m with raw := false }
  else m.cleared .clear

/-- RUN exit ends what the monitor does: it is RUN-only and neither OFF nor CLEAR (R112). -/
abbrev Monitor.Leaves (m : Monitor) : Prop :=
  m.config.runIn = 0 ∧ (m.state = .pending ∨ m.state = .active ∨ m.state = .releasing)

theorem Monitor.leaves_iff (m : Monitor) : m.Leaves ↔ m.config.runIn = 0 ∧ ¬ (m.state = .off ∨ m.state = .clear) := by
  refine and_congr_right fun _ => ?_
  cases m.state <;> simp

/-- The state that a monitor's exit begins with: the monitor CLEAR, its claim and request taken back (R112). -/
def State.endMonitor (s : State) (i : Fin 16) : State :=
  ((s.setMonitor i ((s.monitorAt i).cleared .clear)).setMonitorClaim i none).withdrawChime (monitorSource i)

theorem State.monitorExit_stays {s : State} {i : Fin 16} (h : s.monitor.monitors[i].config.runIn ≠ 0) :
    s.monitorExit i = s :=
  if_pos (decide_eq_false h)

theorem State.monitorExit_idle {s : State} {i : Fin 16} (run : s.monitor.monitors[i].config.runIn = 0)
    (idle : s.monitor.monitors[i].state = .off ∨ s.monitor.monitors[i].state = .clear) :
    s.monitorExit i = s.setMonitor i { s.monitor.monitors[i] with raw := false } := by
  have runOnly : ¬ (s.monitorAt i).runOnly = false := by
    rw [Monitor.runOnly, decide_eq_false_iff_not]
    exact not_not.mpr run
  exact (if_neg runOnly).trans (if_pos idle)

theorem State.monitorExit_leaves {s : State} {i : Fin 16} (h : s.monitor.monitors[i].Leaves) :
    s.monitorExit i = if (s.monitorAt i).warning then (s.endMonitor i).notifyMonitor i else s.endMonitor i := by
  obtain ⟨run, busy⟩ := (Monitor.leaves_iff _).mp h
  have runOnly : ¬ (s.monitorAt i).runOnly = false := by
    rw [Monitor.runOnly, decide_eq_false_iff_not]
    exact not_not.mpr run
  exact (if_neg runOnly).trans (if_neg busy)

theorem State.setMonitor_get (s : State) (i : Fin 16) (m : Monitor) (k : Fin 16) :
    (s.setMonitor i m).monitor.monitors[k] = if k = i then m else s.monitor.monitors[k] := set_get _ _ _ _

theorem State.endMonitor_monitor (s : State) (i : Fin 16) :
    (s.endMonitor i).monitor = (s.setMonitor i ((s.monitorAt i).cleared .clear)).monitor := by
  simp [State.endMonitor]

theorem State.endMonitor_get (s : State) (i k : Fin 16) :
    (s.endMonitor i).monitor.monitors[k] =
      if k = i then s.monitor.monitors[i].cleared .clear else s.monitor.monitors[k] := by
  rw [State.endMonitor_monitor]
  exact s.setMonitor_get i _ k

theorem State.endMonitor_takenBack (s : State) (i : Fin 16) :
    TakenBack (fun l c => c = monitorClaim i ∧ s.monitor.monitors[i].config.lamp.toNat = l.val) (· = monitorSource i) s
      (s.endMonitor i) := by
  obtain ⟨claim, lamp, chime⟩ := (s.setMonitor i ((s.monitorAt i).cleared .clear)).takeBackMonitor i
  have own : (s.setMonitor i ((s.monitorAt i).cleared .clear)).monitorAt i = (s.monitorAt i).cleared .clear :=
    (s.setMonitor_get i _ i).trans (if_pos rfl)
  rw [own] at claim
  exact ⟨claim, lamp, chime⟩

/-- MONITOR carries CLEAR, with the snapshot it may hold (R107). -/
theorem Monitor.cleared_noticeWord (m : Monitor) :
    (m.cleared .clear).noticeWord = BitVec.ofNat 16 (1 + if m.snapshot = none then 0 else 512) := by
  rw [Monitor.noticeWord_eq]
  rfl

/-- The exit of a monitor that does something: with its notice exactly when `exitNotice` has it (R107, R112). -/
theorem State.monitorExit_ends {s : State} {i : Fin 16} (h : s.monitor.monitors[i].Leaves) :
    s.monitorExit i =
      if exitNotice s i then (s.endMonitor i).notify (.monitor i)
        (BitVec.ofNat 16 (1 + if s.monitor.monitors[i].snapshot = none then 0 else 512))
      else s.endMonitor i := by
  have after : (s.endMonitor i).monitorAt i = s.monitor.monitors[i].cleared .clear :=
    (s.endMonitor_get i i).trans (if_pos rfl)
  have warns : (s.monitorAt i).warning = true ↔
      s.monitor.monitors[i].state = .active ∨ s.monitor.monitors[i].state = .releasing := by
    simp [Monitor.warning, State.monitorAt]
  have posts : (s.endMonitor i).notifyMonitor i = if s.monitor.monitors[i].config.notice = 0 then s.endMonitor i
      else (s.endMonitor i).notify (.monitor i)
        (BitVec.ofNat 16 (1 + if s.monitor.monitors[i].snapshot = none then 0 else 512)) := by
    rw [State.notifyMonitor, after, Monitor.cleared_noticeWord]
    rfl
  rw [State.monitorExit_leaves h, posts]
  by_cases w : s.monitor.monitors[i].state = .active ∨ s.monitor.monitors[i].state = .releasing
  · rw [if_pos (warns.mpr w)]
    by_cases n : s.monitor.monitors[i].config.notice = 0
    · rw [if_pos n, if_neg fun e : exitNotice s i => e.2.2 n]
    · rw [if_neg n, if_pos (show exitNotice s i from ⟨h.1, w, n⟩)]
  · rw [if_neg (warns.not.mpr w), if_neg fun e : exitNotice s i => w e.2.1]

/-- What a monitor's exit does, by the three cases of R112: it stays, it forgets its raw condition, or it ends. -/
theorem State.monitorExit_cases (s : State) (i : Fin 16) {P : State → Prop}
    (stays : s.monitor.monitors[i].config.runIn ≠ 0 → P s)
    (idle : s.monitor.monitors[i].config.runIn = 0 →
      s.monitor.monitors[i].state = .off ∨ s.monitor.monitors[i].state = .clear →
      P (s.setMonitor i { s.monitor.monitors[i] with raw := false }))
    (ends : s.monitor.monitors[i].Leaves → ¬ exitNotice s i → P (s.endMonitor i))
    (notes : s.monitor.monitors[i].Leaves → exitNotice s i → P ((s.endMonitor i).notify (.monitor i)
      (BitVec.ofNat 16 (1 + if s.monitor.monitors[i].snapshot = none then 0 else 512)))) : P (s.monitorExit i) := by
  by_cases run : s.monitor.monitors[i].config.runIn = 0
  · by_cases quiet : s.monitor.monitors[i].state = .off ∨ s.monitor.monitors[i].state = .clear
    · rw [State.monitorExit_idle run quiet]
      exact idle run quiet
    · have leaves := (Monitor.leaves_iff _).mpr ⟨run, quiet⟩
      rw [State.monitorExit_ends leaves]
      by_cases e : exitNotice s i
      · rw [if_pos e]
        exact notes leaves e
      · rw [if_neg e]
        exact ends leaves e
  · rw [State.monitorExit_stays run]
    exact stays run

theorem State.monitorExit_get (s : State) (i k : Fin 16) :
    (s.monitorExit i).monitor.monitors[k] =
      if k = i then s.monitor.monitors[i].exited else s.monitor.monitors[k] := by
  refine s.monitorExit_cases i (P := fun t => t.monitor.monitors[k] = if k = i then _ else _) (fun run => ?_)
    (fun run idle => ?_) (fun leaves _ => ?_) fun leaves _ => ?_
  · rw [Monitor.exited, if_pos run]
    split
    · next e => rw [e]
    · rfl
  · rw [Monitor.exited, if_neg (not_not.mpr run), if_pos idle]
    exact s.setMonitor_get i _ k
  all_goals
    obtain ⟨run, busy⟩ := (Monitor.leaves_iff _).mp leaves
    rw [Monitor.exited, if_neg (not_not.mpr run), if_neg busy]
    exact s.endMonitor_get i k

/-- The claims of a monitor that RUN exit ends (R112). -/
abbrev exitClaim (i : Fin 16) (m : Monitor) (l : Fin 12) (c : Fin 23) : Prop :=
  c = monitorClaim i ∧ m.config.runIn = 0 ∧ (m.state = .pending ∨ m.state = .active ∨ m.state = .releasing) ∧
    m.config.lamp.toNat = l.val

/-- The chime request of a monitor that RUN exit ends (R112). -/
abbrev exitSource (i : Fin 16) (m : Monitor) (r : Fin 26) : Prop :=
  r = monitorSource i ∧ m.config.runIn = 0 ∧ (m.state = .pending ∨ m.state = .active ∨ m.state = .releasing)

theorem State.monitorExit_takenBack (s : State) (i : Fin 16) :
    TakenBack (exitClaim i s.monitor.monitors[i]) (exitSource i s.monitor.monitors[i]) s (s.monitorExit i) := by
  have stands : ∀ {t : State}, t.lamp = s.lamp → t.chime = s.chime → ¬ s.monitor.monitors[i].Leaves →
      TakenBack (exitClaim i s.monitor.monitors[i]) (exitSource i s.monitor.monitors[i]) s t :=
    fun hl hc stays => .nothing hl hc (fun _ _ h => stays ⟨h.2.1, h.2.2.1⟩) fun _ h => stays ⟨h.2.1, h.2.2⟩
  have ends : s.monitor.monitors[i].Leaves →
      TakenBack (exitClaim i s.monitor.monitors[i]) (exitSource i s.monitor.monitors[i]) s (s.endMonitor i) :=
    fun leaves => s.endMonitor_takenBack i |>.congr
      (fun _ _ => ⟨fun ⟨hc, hl⟩ => ⟨hc, leaves.1, leaves.2, hl⟩, fun ⟨hc, _, _, hl⟩ => ⟨hc, hl⟩⟩)
      fun _ => ⟨fun h => ⟨h, leaves⟩, And.left⟩
  refine s.monitorExit_cases i (P := TakenBack _ _ s) (fun run => ?_) (fun run idle => ?_)
    (fun leaves _ => ends leaves) fun leaves _ => ?_
  · exact stands rfl rfl fun leaves => run leaves.1
  · exact stands rfl rfl fun leaves => ((Monitor.leaves_iff _).mp leaves).2 idle
  · obtain ⟨claim, lamp, chime⟩ := ends leaves
    exact ⟨claim, lamp, chime⟩

theorem State.monitorsExit_takenBack (s : State) :
    (∀ i : Fin 16, s.monitorsExit.monitor.monitors[i] = s.monitor.monitors[i].exited) ∧
    TakenBack (fun l c => ∃ i : Fin 16, exitClaim i s.monitor.monitors[i] l c)
      (fun r => ∃ i : Fin 16, exitSource i s.monitor.monitors[i] r) s s.monitorsExit := by
  unfold State.monitorsExit
  exact foldl_takenBack_all (item := fun s i => s.monitor.monitors[i]) (after := Monitor.exited) 
    (claims := exitClaim) (sources := exitSource) State.monitorExit_get State.monitorExit_takenBack s

theorem State.monitorExit_clock (s : State) (i : Fin 16) : (s.monitorExit i).monitor.clock = s.monitor.clock :=
  s.monitorExit_cases i (P := fun t => t.monitor.clock = s.monitor.clock) (fun _ => rfl) (fun _ _ => rfl)
    (fun _ _ => (congrArg MonitorTable.clock (s.endMonitor_monitor i)).trans rfl)
    fun _ _ => (congrArg MonitorTable.clock (s.endMonitor_monitor i)).trans rfl

theorem State.monitorsExit_clock (s : State) : s.monitorsExit.monitor.clock = s.monitor.clock := by
  unfold State.monitorsExit
  exact foldl_keeps (fun t => t.monitor.clock) _ (fun t i => t.monitorExit_clock i) _ s

/-! ### Their notices -/

theorem State.monitorExit_noted {s : State} {i : Fin 16} (h : exitNotice s i) :
    (s.monitorExit i).notices = postNotice (.monitor i)
      (BitVec.ofNat 16 (1 + if s.monitor.monitors[i].snapshot = none then 0 else 512)) s.notices := by
  have leaves : s.monitor.monitors[i].Leaves := ⟨h.1, .inr h.2.1⟩
  have kept : (s.endMonitor i).notices = s.notices := by simp [State.endMonitor]
  rw [State.monitorExit_ends leaves, if_pos h, State.notify_notices, kept]

theorem State.monitorExit_unnoted {s : State} {i : Fin 16} (h : ¬ exitNotice s i) :
    (s.monitorExit i).notices = s.notices :=
  s.monitorExit_cases i (P := fun t => t.notices = s.notices) (fun _ => rfl) (fun _ _ => rfl)
    (fun _ _ => by simp [State.endMonitor]) fun _ e => absurd e h

/-- Of the exit of distinct monitors: the notices it posts, and every other notice as it was (R107, R112). -/
theorem foldl_monitorExit_notices (named : List (Fin 16)) (distinct : named.Nodup) (s : State) :
    (∀ i ∈ named, exitNotice s i → (named.foldl State.monitorExit s).posted (.monitor i)
      (BitVec.ofNat 16 (1 + if s.monitor.monitors[i].snapshot = none then 0 else 512))) ∧
    ∀ p : Notice → Bool, (∀ i ∈ named, exitNotice s i → ∀ n : Notice, n.key = .monitor i → p n = false) →
      (named.foldl State.monitorExit s).notices.filter p = s.notices.filter p := by
  induction named generalizing s with
  | nil => exact ⟨by simp, fun _ _ => rfl⟩
  | cons i named ih =>
    obtain ⟨fresh, distinct⟩ := List.nodup_cons.mp distinct
    obtain ⟨posted, others⟩ := ih distinct (s.monitorExit i)
    have other : ∀ k ∈ named, (s.monitorExit i).monitor.monitors[k] = s.monitor.monitors[k] := fun k hk =>
      (s.monitorExit_get i k).trans (if_neg fun e : k = i => fresh (e ▸ hk))
    have notes : ∀ k ∈ named, exitNotice (s.monitorExit i) k ↔ exitNotice s k := fun k hk => by
      simp only [exitNotice, other k hk]
    rw [List.foldl_cons]
    refine ⟨fun k hk note => ?_, fun p hp => ?_⟩
    · obtain rfl | hk := List.mem_cons.mp hk
      · refine State.posted_of_filter (s := s.monitorExit k) (p := fun n => decide (n.key = .monitor k)) (by simp) ?_
          (State.posted_of_notices_eq (State.monitorExit_noted note) (s.notify_posted _ _))
        refine others _ fun j hj _ n hn => ?_
        have ne : j ≠ k := fun e => fresh (e ▸ hj)
        simpa [hn] using ne
      · rw [← other k hk]
        exact posted k hk ((notes k hk).mpr note)
    · rw [others p fun k hk note => hp k (List.mem_cons_of_mem i hk) ((notes k hk).mp note)]
      by_cases note : exitNotice s i
      · rw [State.monitorExit_noted note]
        exact filter_postNotice (hp i List.mem_cons_self note) _ _
      · rw [State.monitorExit_unnoted note]

theorem State.monitorsExit_notices (s : State) :
    (∀ i : Fin 16, exitNotice s i → s.monitorsExit.posted (.monitor i)
      (BitVec.ofNat 16 (1 + if s.monitor.monitors[i].snapshot = none then 0 else 512))) ∧
    ∀ p : Notice → Bool, (∀ i : Fin 16, exitNotice s i → ∀ n : Notice, n.key = .monitor i → p n = false) →
      s.monitorsExit.notices.filter p = s.notices.filter p := by
  obtain ⟨posted, others⟩ := foldl_monitorExit_notices _ (List.nodup_finRange 16) s
  exact ⟨fun i => posted i (List.mem_finRange i), fun p hp => others p fun i _ => hp i⟩

end Sys2Proof.Machine
end

section
/-!
SUPPORT and proof: RUN exit in every block (R160).
-/
namespace Sys2Proof.Machine

/-! ## The channels (R10, R27, R71, R73) -/

theorem State.clearHolds_record (s : State) (c : Fin 16) :
    s.clearHolds.channels.records[c] = { s.channels.records[c] with hold := none } := vmap_get _ _ c

/-- Removing the holds does not touch what a channel write writes or posts. -/
theorem State.clearHolds_writeChannel (s : State) (c : Fin 16) (v : Option Nat) (w : Option Validity) :
    s.clearHolds.writeChannel c v w = (s.writeChannel c v w).clearHolds := by
  have written : s.clearHolds.channels.records[c].written c v w =
      { s.channels.records[c].written c v w with hold := none } := by
    rw [State.clearHolds_record]
    rfl
  have set : s.clearHolds.setRecord c { s.channels.records[c].written c v w with hold := none } =
      (s.setRecord c (s.channels.records[c].written c v w)).clearHolds := by
    refine congrArg (fun r => ({ s with channels := { s.channels with records := r } } : State))
      (vector_ext_get fun k => ?_)
    refine (set_get _ _ _ _).trans ?_
    rw [State.clearHolds_record, vmap_get]
    refine .trans ?_ (congrArg (fun r : Channel => { r with hold := none }) (set_get _ _ _ _).symm)
    split <;> rfl
  rw [State.writeChannel_eq, State.writeChannel_eq, written, set, State.clearHolds_record]
  split <;> rfl

theorem State.clearHolds_tripExit (s : State) : s.clearHolds.tripExit = s.tripExit.clearHolds := by
  let t : State := { s with trip := { s.trip with history := [], clock := none } }
  calc s.clearHolds.tripExit
      = (t.clearHolds.writeChannel 8 (some 0) (some .valid)).writeChannel 9 none (some .absent) := rfl
    _ = s.tripExit.clearHolds := by
        rw [State.clearHolds_writeChannel, State.clearHolds_writeChannel]
        rfl

/-- RUN exit up to the Trip Computer's actions, with the holds still standing. -/
def State.exitWrites (s : State) : State :=
  State.tripExit { (s.setPower .awakeOff .full).pulseExit with sampler := s.sampler.runExit }

theorem State.exitRun_eq (s : State) (serviceFirst : Bool) :
    s.exitRun serviceFirst =
      (((s.exitWrites.clearHolds.exitPosts serviceFirst).gaugeExit).monitorsExit.setBulbCheck none).startOff := by
  let piu := (s.setPower .awakeOff .full).pulseExit
  have sampler : piu.sampler = s.sampler := by simp [piu]
  have order : s.exitRun serviceFirst =
      ((((State.tripExit (State.clearHolds { piu with sampler := piu.sampler.runExit })).exitPosts
        serviceFirst).gaugeExit).monitorsExit.setBulbCheck none).startOff := rfl
  rw [order, State.clearHolds_tripExit, sampler]
  rfl

/-- Of channel writes one after another, each channel of `named` once: what they leave, and their notices (R24, R25). -/
structure Rewritten (named : List (Fin 16)) (s t : State) : Prop where
  written : ChannelsWritten s t
  notices : channelNotices s t
  others : ∀ c : Fin 16, c ∉ named → t.channels.records[c] = s.channels.records[c]

theorem Rewritten.refl (s : State) : Rewritten [] s s := ⟨.refl s, channelNotices_refl s, fun _ _ => rfl⟩

theorem Rewritten.of_eq {named : List (Fin 16)} {s t u : State} (h : Rewritten named s t) (hc : u.channels = t.channels)
    (hn : u.notices = t.notices) : Rewritten named s u where
  written := h.written.of_eq hc hn
  notices c := by
    rw [validityChanged, hc]
    exact fun changed => State.posted_of_notices_eq hn (h.notices c changed)
  others c hcn := by
    rw [hc]
    exact h.others c hcn

theorem Rewritten.writeChannel {named : List (Fin 16)} {s t : State} (h : Rewritten named s t) {c : Fin 16}
    (fresh : c ∉ named) (v : Option Nat) (w : Option Validity) : Rewritten (c :: named) s (t.writeChannel c v w) where
  written := h.written.writeChannel (congrArg Channel.validity (h.others c fresh)) v w
  notices := channelNotices_writeChannel h.notices c (congrArg Channel.validity (h.others c fresh)) v w
  others k hk := by
    rw [List.mem_cons, not_or] at hk
    obtain ⟨other, old⟩ := hk
    rw [State.writeChannel_record_of_ne _ other, h.others k old]

theorem Rewritten.pulseExit {s t : State} (h : Rewritten [] s t) : Rewritten [1, 0] s t.pulseExit :=
  ((h.writeChannel (by decide) _ _).writeChannel (c := 1) (by decide) (some 0) (some .valid)).of_eq rfl rfl

theorem Rewritten.tripExit {s t : State} (h : Rewritten [1, 0] s t) : Rewritten [9, 8, 1, 0] s t.tripExit := by
  have emptied : Rewritten [1, 0] s { t with trip := { t.trip with history := [], clock := none } } := h.of_eq rfl rfl
  exact (emptied.writeChannel (c := 8) (by decide) (some 0) (some .valid)).writeChannel (c := 9) (by decide) none
    (some .absent)

theorem State.pulseExit_record (s : State) (c : Fin 16) :
    s.pulseExit.channels.records[c] =
      if c = 1 ∨ c = 0 then { s.channels.records[c] with value := 0, validity := .valid }
      else s.channels.records[c] := by
  have channels : s.pulseExit.channels =
      ((s.writeChannel 0 (some 0) (some .valid)).writeChannel 1 (some 0) (some .valid)).channels := rfl
  rw [channels, State.writeChannel_record]
  by_cases h₁ : c = 1
  · subst h₁
    rw [if_pos rfl, if_pos (.inl rfl), State.writeChannel_record_of_ne _ (by decide)]
    rfl
  by_cases h₀ : c = 0
  · subst h₀
    rw [if_neg h₁, if_pos (.inr rfl), State.writeChannel_record_same]
    rfl
  · rw [if_neg h₁, State.writeChannel_record_of_ne _ h₀, if_neg (by simp [h₀, h₁])]

theorem State.tripExit_record (s : State) (c : Fin 16) :
    s.tripExit.channels.records[c] =
      if c = 9 then { s.channels.records[c] with validity := .absent }
      else if c = 8 then { s.channels.records[c] with value := 0, validity := .valid }
      else s.channels.records[c] := by
  let t : State := { s with trip := { s.trip with history := [], clock := none } }
  have order : s.tripExit = (t.writeChannel 8 (some 0) (some .valid)).writeChannel 9 none (some .absent) := rfl
  rw [order, State.writeChannel_record]
  by_cases h₉ : c = 9
  · subst h₉
    rw [if_pos rfl, if_pos rfl, State.writeChannel_record_of_ne _ (by decide)]
    rfl
  rw [if_neg h₉, if_neg h₉]
  by_cases h₈ : c = 8
  · subst h₈
    rw [if_pos rfl, State.writeChannel_record_same]
    rfl
  · rw [if_neg h₈, State.writeChannel_record_of_ne _ h₈]

/-- The writes of RUN exit: the four channels, each written once (R10, R71, R73). -/
theorem State.exitWrites_rewritten (s : State) : Rewritten [9, 8, 1, 0] s s.exitWrites := by
  have start : Rewritten [] s (s.setPower .awakeOff .full) := (Rewritten.refl s).of_eq rfl rfl
  have piu : Rewritten [1, 0] s
      { (s.setPower .awakeOff .full).pulseExit with sampler := s.sampler.runExit } := start.pulseExit.of_eq rfl rfl
  exact piu.tripExit

theorem State.exitWrites_record (s : State) (c : Fin 16) :
    s.exitWrites.channels.records[c] =
      { value := if c = 0 ∨ c = 1 ∨ c = 8 then 0 else s.channels.records[c].value,
        validity := if c = 0 ∨ c = 1 ∨ c = 8 then .valid else if c = 9 then .absent
                    else s.channels.records[c].validity,
        hold := s.channels.records[c].hold } := by
  have piu := State.pulseExit_record (s.setPower .awakeOff .full) c
  have kept : (s.setPower .awakeOff .full).channels = s.channels := rfl
  rw [kept] at piu
  rw [State.exitWrites, State.tripExit_record]
  dsimp only
  rw [piu]
  by_cases h₉ : c = 9
  · subst h₉
    rfl
  by_cases h₈ : c = 8
  · subst h₈
    rfl
  by_cases h₁ : c = 1
  · subst h₁
    rfl
  by_cases h₀ : c = 0
  · subst h₀
    rfl
  · simp [h₀, h₁, h₈, h₉]

/-! ## The gauges (R89, R92, R93) -/

theorem Gauge.homeward_mode (g : Gauge) :
    g.homeward.mode ≠ .armed ∧ g.homeward.mode ≠ .sweepUp ∧ g.homeward.mode ≠ .sweepDown := by
  unfold Gauge.homeward
  split
  · next h => simp [h]
  · simp

/-- RUN exit for the Gauge Unit: with no gauge left in the sweep, an open sweep closes (R92, R93). -/
theorem State.gaugeExit_eq (s : State) :
    s.gaugeExit =
      (let gauges := vmap Gauge.homeward s.gauge.gauges
       let sync := s.gauge.sync.disable
       if s.gauge.sweep.isOpen = true then
         State.notify { s with gauge := { s.gauge with
           gauges, sync, sweep := { s.gauge.sweep with isOpen := false, delayTimer := none, timeout := none } } } .sweep
           (sweepValue s.gauge.sweep)
       else { s with gauge := { s.gauge with gauges, sync } }) := by
  have out : ∀ k : Fin 6, (vmap Gauge.homeward s.gauge.gauges)[k].mode ≠ .armed ∧
      (vmap Gauge.homeward s.gauge.gauges)[k].mode ≠ .sweepUp ∧
      (vmap Gauge.homeward s.gauge.gauges)[k].mode ≠ .sweepDown := fun k => by
    rw [vmap_get]
    exact Gauge.homeward_mode _
  unfold State.gaugeExit
  rw [State.checkSweep_eq]
  exact if_congr (and_iff_left out) rfl rfl

theorem State.gaugeExit_gauge (s : State) :
    s.gaugeExit.gauge = { s.gauge with
      gauges := vmap Gauge.homeward s.gauge.gauges, sync := s.gauge.sync.disable,
      sweep := if s.gauge.sweep.isOpen then
        { s.gauge.sweep with isOpen := false, delayTimer := none, timeout := none } else s.gauge.sweep } := by
  rw [State.gaugeExit_eq]
  dsimp only
  split <;> rfl

theorem State.gaugeExit_posted {s : State} (h : s.gauge.sweep.isOpen = true) :
    s.gaugeExit.posted .sweep (sweepValue s.gauge.sweep) := by
  rw [State.gaugeExit_eq]
  dsimp only
  rw [if_pos h]
  exact State.notify_posted _ _ _

theorem State.gaugeExit_others {s : State} {p : Notice → Bool}
    (hp : s.gauge.sweep.isOpen = true → ∀ n : Notice, n.key = .sweep → p n = false) :
    s.gaugeExit.notices.filter p = s.notices.filter p := by
  rw [State.gaugeExit_eq]
  dsimp only
  split
  · next h => exact filter_postNotice (hp h) _ _
  · rfl

/-! ## The two posts (R51, R152, R160) -/

/-- A SERVICE entry at the back hides no ODOMETER entry. -/
theorem waitingOdometer_postOnce (q : List Entry) : waitingOdometer (postOnce .service q) = waitingOdometer q := by
  unfold postOnce
  split
  · rfl
  · simp [waitingOdometer]

theorem State.postService_lastBound (s : State) : s.postService.lastBound = s.lastBound := by
  rw [State.lastBound_eq, State.lastBound_eq]
  exact congrArg (Option.or · _) (waitingOdometer_postOnce s.eeprom.queue)

theorem State.postOdometer_eeprom (s : State) :
    s.postOdometer.eeprom = { s.eeprom with
      queue := if s.lastBound = some s.accum.total then s.eeprom.queue
               else bindOdometer s.accum.total s.eeprom.queue } := by
  unfold State.postOdometer
  split <;> rfl

theorem State.exitPosts_eeprom (s : State) (serviceFirst : Bool) :
    (s.exitPosts serviceFirst).eeprom = { s.eeprom with
      queue :=
        let odometer := fun q => if s.lastBound = some s.accum.total then q else bindOdometer s.accum.total q
        if serviceFirst then odometer (postOnce .service s.eeprom.queue)
        else postOnce .service (odometer s.eeprom.queue) } := by
  cases serviceFirst
  · have order : (s.exitPosts false).eeprom =
      { s.postOdometer.eeprom with queue := postOnce .service s.postOdometer.eeprom.queue } := rfl
    rw [order, State.postOdometer_eeprom]
    rfl
  · have order : s.exitPosts true = s.postService.postOdometer := rfl
    rw [order, State.postOdometer_eeprom, State.postService_lastBound]
    rfl

end Sys2Proof.Machine
end

section
/-!
SUPPORT and proof: RUN exit, block by block (R160).
-/
namespace Sys2Proof.Machine

theorem State.clearHolds_freshness (s : State) : s.clearHolds.channels.freshness = s.channels.freshness := rfl

/-- RUN exit up to the two posts, before the gauges and the monitors. -/
def State.exitPosted (s : State) (serviceFirst : Bool) : State := s.exitWrites.clearHolds.exitPosts serviceFirst

/-- RUN exit up to the monitors. -/
def State.exitMoved (s : State) (serviceFirst : Bool) : State := (s.exitPosted serviceFirst).gaugeExit.monitorsExit

/-- RUN exit with its POWER notice (R163). -/
theorem State.exitRun_notifyPower (s : State) (serviceFirst : Bool) :
    (s.exitRun serviceFirst).notifyPower 1 =
      (((s.exitMoved serviceFirst).setBulbCheck none).startOff).notify .power 0x0101 := by
  have word : powerWord 1 .awakeOff = 0x0101 := by decide
  have state : (s.exitRun serviceFirst).power.state = .awakeOff := by
    simp [State.exitRun, State.startOff, State.setPower]
  rw [State.notifyPower, state, word, State.exitRun_eq]
  rfl

section
variable (s : State) (serviceFirst : Bool)

theorem State.exitPosted_gauge : (s.exitPosted serviceFirst).gauge = s.gauge := by
  simp [State.exitPosted, State.exitWrites]

theorem State.exitPosted_monitor : (s.exitPosted serviceFirst).monitor = s.monitor := by
  simp [State.exitPosted, State.exitWrites]

theorem State.exitPosted_lamp : (s.exitPosted serviceFirst).lamp = s.lamp := by
  simp [State.exitPosted, State.exitWrites]

theorem State.exitPosted_chime : (s.exitPosted serviceFirst).chime = s.chime := by
  simp [State.exitPosted, State.exitWrites]

theorem State.exitPosted_notices : (s.exitPosted serviceFirst).notices = s.exitWrites.notices := by
  simp [State.exitPosted]

theorem State.exitMoved_power : (s.exitMoved serviceFirst).power = { s.power with
    state := .awakeOff, linger := .running 30000 } := by
  simp [State.exitMoved, State.exitPosted, State.exitWrites, State.setPower]
  rfl

theorem State.exitMoved_pulse : (s.exitMoved serviceFirst).pulse = { s.pulse with
    spd := { s.pulse.spd with pending := none, stood := none },
    tac := { s.pulse.tac with pending := none, stood := none },
    inj := { s.pulse.inj with pending := none, stood := none },
    spdWindow := { Window.initial with loss := s.pulse.spdWindow.loss },
    tacWindow := { Window.initial with loss := s.pulse.tacWindow.loss },
    onTime := 0, injMark := s.now, windowClock := 0 } := by
  simp [State.exitMoved, State.exitPosted, State.exitWrites, State.pulseExit, State.now, PulseInput.disable,
    Window.cleared, PulseUnit.restartOnTime]

theorem State.exitMoved_sampler : (s.exitMoved serviceFirst).sampler = s.sampler.runExit := by
  simp [State.exitMoved, State.exitPosted, State.exitWrites]

theorem State.exitMoved_channels : (s.exitMoved serviceFirst).channels = s.exitWrites.clearHolds.channels := by
  simp [State.exitMoved, State.exitPosted]

theorem State.exitMoved_trip : (s.exitMoved serviceFirst).trip = { s.trip with history := [], clock := none } := by
  simp [State.exitMoved, State.exitPosted, State.exitWrites, State.tripExit]

theorem State.exitMoved_eeprom : (s.exitMoved serviceFirst).eeprom = { s.eeprom with
    queue :=
      let odometer := fun q => if s.lastBound = some s.accum.total then q else bindOdometer s.accum.total q
      if serviceFirst then odometer (postOnce .service s.eeprom.queue)
      else postOnce .service (odometer s.eeprom.queue) } := by
  have eeprom : s.exitWrites.clearHolds.eeprom = s.eeprom := by simp [State.exitWrites]
  have accum : s.exitWrites.clearHolds.accum = s.accum := by simp [State.exitWrites]
  have bound : s.exitWrites.clearHolds.lastBound = s.lastBound := by simp only [State.lastBound, eeprom, accum]
  have posts := s.exitWrites.clearHolds.exitPosts_eeprom serviceFirst
  rw [eeprom, accum, bound] at posts
  rw [← posts]
  simp [State.exitMoved, State.exitPosted]

theorem State.exitMoved_gauge : (s.exitMoved serviceFirst).gauge = { s.gauge with
    gauges := vmap Gauge.homeward s.gauge.gauges, sync := s.gauge.sync.disable,
    sweep := if s.gauge.sweep.isOpen then
      { s.gauge.sweep with isOpen := false, delayTimer := none, timeout := none } else s.gauge.sweep } := by
  rw [← s.exitPosted_gauge serviceFirst, ← State.gaugeExit_gauge]
  simp [State.exitMoved]

/-- What RUN exit takes back of the monitors' claims and requests (R112). -/
theorem State.exitMoved_takenBack :
    (∀ i : Fin 16, (s.exitMoved serviceFirst).monitor.monitors[i] = s.monitor.monitors[i].exited) ∧
    (s.exitMoved serviceFirst).monitor.clock = s.monitor.clock ∧
    TakenBack (fun l c => ∃ i : Fin 16, exitClaim i s.monitor.monitors[i] l c)
      (fun r => ∃ i : Fin 16, exitSource i s.monitor.monitors[i] r) s (s.exitMoved serviceFirst) := by
  obtain ⟨monitors, taken⟩ := (s.exitPosted serviceFirst).gaugeExit.monitorsExit_takenBack
  have claim := taken.claim
  have lamp := taken.lamp
  have chime := taken.chime
  have clock := (s.exitPosted serviceFirst).gaugeExit.monitorsExit_clock
  have kept := (s.exitPosted serviceFirst).gaugeExit_frame
  simp only [kept, s.exitPosted_monitor, s.exitPosted_lamp, s.exitPosted_chime] at monitors claim lamp chime clock
  unfold State.exitMoved
  exact ⟨monitors, clock, claim, lamp, chime⟩

/-- The notices of RUN exit before POWER: of the sweep and the monitors, and every other notice as the channel writes
left it. -/
theorem State.exitMoved_notices :
    (s.gauge.sweep.isOpen = true → (s.exitMoved serviceFirst).posted .sweep (sweepValue s.gauge.sweep)) ∧
    (∀ i : Fin 16, exitNotice s i → (s.exitMoved serviceFirst).posted (.monitor i)
      (BitVec.ofNat 16 (1 + if s.monitor.monitors[i].snapshot = none then 0 else 512))) ∧
    ∀ p : Notice → Bool, (s.gauge.sweep.isOpen = true → ∀ n : Notice, n.key = .sweep → p n = false) →
      (∀ i : Fin 16, exitNotice s i → ∀ n : Notice, n.key = .monitor i → p n = false) →
      (s.exitMoved serviceFirst).notices.filter p = s.exitWrites.notices.filter p := by
  obtain ⟨posted, others⟩ := (s.exitPosted serviceFirst).gaugeExit.monitorsExit_notices
  have kept : (s.exitPosted serviceFirst).gaugeExit.monitor = s.monitor := by
    rw [← s.exitPosted_monitor serviceFirst]
    simp
  simp only [exitNotice, kept] at posted others
  have gauge := s.exitPosted_gauge serviceFirst
  refine ⟨fun opened => ?_, posted, fun p sweep monitor => ?_⟩
  · have closed := State.gaugeExit_posted (s := s.exitPosted serviceFirst) (by rw [gauge]; exact opened)
    rw [gauge] at closed
    exact State.posted_of_filter (p := fun n => decide (n.key = .sweep)) (by simp)
      (others _ fun i _ n hn => by simp [hn]) closed
  · have exited := State.gaugeExit_others (s := s.exitPosted serviceFirst) (p := p) (by rw [gauge]; exact sweep)
    exact (others p monitor).trans (exited.trans (congrArg _ (s.exitPosted_notices serviceFirst)))

end

/-! ## The whole of RUN exit -/

theorem State.runExit_not_due {s : State} (h : s.power.state ≠ .run ∨ s.discretes.ign.level = true)
    (serviceFirst : Bool) : s.runExit serviceFirst = s := by
  refine if_neg ?_
  simp only [State.inRun, Bool.and_eq_true, beq_iff_eq, Bool.not_eq_true', not_and]
  intro run
  simp [h.resolve_left (not_not.mpr run)]

theorem State.runExit_due {s : State} (run : s.power.state = .run) (ign : s.discretes.ign.level = false)
    (serviceFirst : Bool) :
    s.runExit serviceFirst = (((s.exitMoved serviceFirst).setBulbCheck none).startOff).notify .power 0x0101 := by
  rw [← State.exitRun_notifyPower]
  refine if_pos ?_
  simp [State.inRun, run, ign]

section
variable (s : State) (serviceFirst : Bool)

/-- RUN exit as it stands in the end: the monitors' exit, the bulb check stopped, the off-duration started, and POWER
posted (R134, R161, R163). -/
def State.exited : State := (((s.exitMoved serviceFirst).setBulbCheck none).startOff).notify .power 0x0101

theorem State.exited_frame :
    (s.exited serviceFirst).pulse = (s.exitMoved serviceFirst).pulse ∧
    (s.exited serviceFirst).sampler = (s.exitMoved serviceFirst).sampler ∧
    (s.exited serviceFirst).channels = (s.exitMoved serviceFirst).channels ∧
    (s.exited serviceFirst).trip = (s.exitMoved serviceFirst).trip ∧
    (s.exited serviceFirst).eeprom = (s.exitMoved serviceFirst).eeprom ∧
    (s.exited serviceFirst).gauge = (s.exitMoved serviceFirst).gauge ∧
    (s.exited serviceFirst).monitor = (s.exitMoved serviceFirst).monitor ∧
    (s.exited serviceFirst).chime = (s.exitMoved serviceFirst).chime ∧
    (s.exited serviceFirst).power = { (s.exitMoved serviceFirst).power with offDuration := some 0 } ∧
    (s.exited serviceFirst).lamp = { (s.exitMoved serviceFirst).lamp with bulbCheck := none } ∧
    (s.exited serviceFirst).notices = postNotice .power 0x0101 (s.exitMoved serviceFirst).notices := by
  simp [State.exited, State.startOff, State.setBulbCheck]

/-- The blocks that RUN exit leaves alone. -/
theorem State.exited_kept :
    (s.exited serviceFirst).time = s.time ∧ (s.exited serviceFirst).consts = s.consts ∧
    (s.exited serviceFirst).discretes = s.discretes ∧ (s.exited serviceFirst).curves = s.curves ∧
    (s.exited serviceFirst).accum = s.accum ∧ (s.exited serviceFirst).drum = s.drum ∧
    (s.exited serviceFirst).service = s.service ∧ (s.exited serviceFirst).link = s.link ∧
    (s.exited serviceFirst).freeCount = s.freeCount ∧ (s.exited serviceFirst).pending = s.pending := by
  simp [State.exited, State.exitMoved, State.exitPosted, State.exitWrites]

/-- POWER is pending in the end, and what was posted before it under another key (R175). -/
theorem State.exited_power : (s.exited serviceFirst).posted .power 0x0101 := by
  obtain ⟨-, -, -, -, -, -, -, -, -, -, notices⟩ := s.exited_frame serviceFirst
  exact State.posted_of_notices_eq (notices.trans (State.notify_notices _ _ _).symm) (State.notify_posted _ _ _)

theorem State.exited_posted {k : NoticeKey} {v : Word} (ne : k ≠ .power)
    (h : (s.exitMoved serviceFirst).posted k v) : (s.exited serviceFirst).posted k v := by
  obtain ⟨-, -, -, -, -, -, -, -, -, -, notices⟩ := s.exited_frame serviceFirst
  exact State.posted_of_notices_eq (notices.trans (State.notify_notices _ _ _).symm) (State.posted_notify_of_ne ne _ h)

theorem State.exited_channels (c : Fin 16) : (s.exited serviceFirst).channels.records[c] =
    { value := if c = 0 ∨ c = 1 ∨ c = 8 then 0 else s.channels.records[c].value,
      validity := if c = 0 ∨ c = 1 ∨ c = 8 then .valid else if c = 9 then .absent
                  else s.channels.records[c].validity,
      hold := none } := by
  obtain ⟨-, -, kept, -⟩ := s.exited_frame serviceFirst
  rw [kept, State.exitMoved_channels, State.clearHolds_record, State.exitWrites_record]

theorem State.exited_validityChanged (c : Fin 16) :
    validityChanged s (s.exited serviceFirst) c ↔ validityChanged s s.exitWrites c := by
  rw [validityChanged, validityChanged, State.exited_channels, State.exitWrites_record]

/-- The notices of RUN exit in the end, but for those of the sweep, the monitors and POWER. -/
theorem State.exited_others {p : Notice → Bool} (power : ∀ n : Notice, n.key = .power → p n = false)
    (sweep : s.gauge.sweep.isOpen = true → ∀ n : Notice, n.key = .sweep → p n = false)
    (monitor : ∀ i : Fin 16, exitNotice s i → ∀ n : Notice, n.key = .monitor i → p n = false) :
    (s.exited serviceFirst).notices.filter p = s.exitWrites.notices.filter p := by
  obtain ⟨-, -, others⟩ := s.exitMoved_notices serviceFirst
  obtain ⟨-, -, -, -, -, -, -, -, -, -, kept⟩ := s.exited_frame serviceFirst
  rw [kept]
  exact (filter_postNotice power _ _).trans (others p sweep monitor)

theorem State.exited_channelNotices : channelNotices s (s.exited serviceFirst) := by
  rw [channelNotices_iff]
  intro c changed
  have before := (channelNotices_iff _ _).mp s.exitWrites_rewritten.notices c
    ((s.exited_validityChanged serviceFirst c).mp changed)
  rw [State.exitWrites_record] at before
  rw [State.exited_channels]
  refine State.posted_of_filter (p := fun n => decide (n.key = .channel c)) (by simp) ?_ before
  exact s.exited_others serviceFirst (by simp +contextual) (by simp +contextual) (by simp +contextual)

end

/-- Settles O22: what each block's exit does, and the notices of the blocks in the order they are posted. -/
theorem runExitResult : Obligations.RunExitResult := by
  intro s serviceFirst
  have due : s.power.state = .run → exec (.runExit serviceFirst) s = .next (s.runExit serviceFirst) := fun run =>
    exec_runExit (by rw [run]; decide) serviceFirst
  refine ⟨fun h => ?_, fun run ign =>
    ⟨s.exited serviceFirst, (due run).trans (congrArg _ (State.runExit_due run ign serviceFirst)), ?_⟩⟩
  · have held : s.power.state ≠ .held := by
      obtain h | h | h | ⟨h, -⟩ := h <;> rw [h] <;> decide
    have quiet : s.power.state ≠ .run ∨ s.discretes.ign.level = true := by
      obtain h | h | h | ⟨-, h⟩ := h
      · exact .inl (by rw [h]; decide)
      · exact .inl (by rw [h]; decide)
      · exact .inl (by rw [h]; decide)
      · exact .inr h
    rw [exec_runExit held, State.runExit_not_due quiet]
  obtain ⟨monitors, clock, taken⟩ := s.exitMoved_takenBack serviceFirst
  obtain ⟨sweepPosted, monitorPosted, -⟩ := s.exitMoved_notices serviceFirst
  have written := s.exitWrites_rewritten.written
  obtain ⟨pulse, sampler, channels, trip, eeprom, gauge, monitor, chime, power, lamp, notices⟩ :=
    s.exited_frame serviceFirst
  have claim : ∀ l c, (s.exited serviceFirst).lamp.claim l c = (s.exitMoved serviceFirst).lamp.claim l c := by
    simp only [lamp, LampUnit.claim, implies_true]
  refine ⟨?_, pulse.trans (s.exitMoved_pulse serviceFirst), fun i => ?_, ?_, s.exited_channels serviceFirst, ?_,
    trip.trans (s.exitMoved_trip serviceFirst), eeprom.trans (s.exitMoved_eeprom serviceFirst), fun k => ?_, ?_, ?_, ?_,
    ?_, ?_, ?_, fun l c => (claim l c).trans (taken.claim l c), ?_, chime.trans taken.chime,
    s.exited_power serviceFirst, s.exited_channelNotices serviceFirst,
    fun opened => s.exited_posted serviceFirst (by decide) (sweepPosted opened),
    fun i note => s.exited_posted serviceFirst (by simp) (monitorPosted i note), ?_, ?_⟩
  · rw [power, State.exitMoved_power]
  · rw [sampler, State.exitMoved_sampler]
    exact vmap_get _ _ i
  · rw [sampler, State.exitMoved_sampler]
    rfl
  · rw [channels, State.exitMoved_channels, State.clearHolds_freshness]
    exact written.freshness
  · rw [gauge, State.exitMoved_gauge]
    exact vmap_get _ _ k
  · rw [gauge, State.exitMoved_gauge]
  · rw [gauge, State.exitMoved_gauge]
  · rw [gauge, State.exitMoved_gauge]
  · rw [gauge, State.exitMoved_gauge]
    rfl
  · rw [monitor]
    exact monitors
  · rw [monitor]
    exact clock
  · rw [lamp, taken.lamp]
  · have changed := s.exited_validityChanged serviceFirst
    refine (s.exited_others serviceFirst ?_ ?_ ?_).trans (written.notices _ ?_)
    · intro n hn
      exact decide_eq_false fun h => h.1 hn
    · intro opened n hn
      exact decide_eq_false fun h => h.2.1 opened hn
    · intro i note n hn
      exact decide_eq_false fun h => h.2.2.2 i note hn
    · intro c hc n hn
      exact decide_eq_false fun h => h.2.2.1 c ((changed c).mpr hc) hn
  · obtain ⟨time, consts, discretes, curves, accum, drum, service, link, freeCount, pending⟩ :=
      s.exited_kept serviceFirst
    generalize s.exited serviceFirst = t at *
    exact State.ext_fields time rfl consts rfl rfl discretes rfl curves accum drum rfl rfl rfl rfl rfl service rfl link
      rfl freeCount pending

end Sys2Proof.Machine
end

section
/-!
SUPPORT. What Soft Restart restores, block by block (R10, R18, R21, R29, R33, R99, R139).
-/
namespace Sys2Proof.Machine

/-! ## The discrete inputs (R21) -/

/-- A discrete input with its settings at their defaults (R21). -/
def Discrete.restored (d : Discrete) : Discrete := { d with activeHigh := false, debounce := 20, wake := false }

/-- A report finds nothing to do: the part is in RUN, or in AWAKE_OFF with its linger timer full (R162). -/
abbrev PowerControl.Reported (p : PowerControl) : Prop :=
  p.state = .run ∨ (p.state = .awakeOff ∧ p.linger = .running 30000)

theorem State.changeDiscrete_reported {s : State} (h : s.power.Reported) (k : Fin 12) (d : Discrete) :
    s.changeDiscrete k d = s.setDiscrete k d := by
  unfold State.changeDiscrete
  split
  · rfl
  · exact State.reportDiscrete_full (s := s.setDiscrete k d) h d

/-- The inputs of `named` restored one after another. -/
theorem foldl_restoreDiscrete (named : List (Fin 12)) {s : State} (h : s.power.Reported) :
    ∃ inputs : Vector Discrete 12,
      (∀ k : Fin 12, inputs[k] = if k ∈ named then s.discretes.inputs[k].restored else s.discretes.inputs[k]) ∧
      named.foldl (fun s k => s.changeDiscrete k s.discretes.inputs[k].restored) s =
        { s with discretes := { s.discretes with inputs } } := by
  induction named generalizing s with
  | nil => exact ⟨s.discretes.inputs, by simp, rfl⟩
  | cons i named ih =>
    have get : ∀ k : Fin 12, (s.setDiscrete i s.discretes.inputs[i].restored).discretes.inputs[k] =
        if k = i then s.discretes.inputs[i].restored else s.discretes.inputs[k] := set_get _ _ _
    obtain ⟨inputs, each, rest⟩ := ih (s := s.setDiscrete i s.discretes.inputs[i].restored) h
    refine ⟨inputs, fun k => ?_, ?_⟩
    · rw [each, get]
      by_cases e : k = i
      · subst e
        simp [Discrete.restored]
      · simp [e]
    · rw [List.foldl_cons, State.changeDiscrete_reported h, rest]
      rfl

theorem State.restartDiscretes_eq {s : State} (h : s.power.Reported) :
    s.restartDiscretes =
      { s with discretes := { s.discretes with inputs := vmap Discrete.restored s.discretes.inputs } } := by
  obtain ⟨inputs, each, restored⟩ := foldl_restoreDiscrete (List.finRange 12) h
  have all : inputs = vmap Discrete.restored s.discretes.inputs := vector_ext_get fun k => by
    rw [each, if_pos (List.mem_finRange k), vmap_get]
  exact restored.trans (by rw [all])

/-! ## The external channels (R33) -/

/-- An EXT channel back at its defaults (R33). -/
def State.restartExtChannel (s : State) (e : Fin 5) : State :=
  (s.writeChannel (extChannel e) (some 0) (some .absent)).setFreshness e { setting := 0, timer := none }

theorem State.restartExt_eq (s : State) : s.restartExt = (List.finRange 5).foldl State.restartExtChannel s := rfl

theorem State.restartExtChannel_record (s : State) (e : Fin 5) (c : Fin 16) :
    (s.restartExtChannel e).channels.records[c] =
      if c = extChannel e then { s.channels.records[c] with value := 0, validity := .absent }
      else s.channels.records[c] := by
  refine (s.writeChannel_record (extChannel e) (some 0) (some .absent) c).trans ?_
  split
  · next h =>
    subst h
    simp [Channel.written]
  · rfl

theorem State.restartExtChannel_freshness (s : State) (e k : Fin 5) :
    (s.restartExtChannel e).channels.freshness[k] =
      if k = e then { setting := 0, timer := none } else s.channels.freshness[k] := by
  have kept : (s.writeChannel (extChannel e) (some 0) (some .absent)).channels.freshness = s.channels.freshness := by
    rw [State.writeChannel_channels]
  rw [← kept]
  exact set_get _ _ _ _

/-- The EXT channels of `named` back at their defaults one after another. -/
theorem foldl_restartExtChannel (named : List (Fin 5)) (s : State) :
    (∀ c : Fin 16, (named.foldl State.restartExtChannel s).channels.records[c] =
      if ∃ e ∈ named, c = extChannel e then { s.channels.records[c] with value := 0, validity := .absent }
      else s.channels.records[c]) ∧
    ∀ k : Fin 5, (named.foldl State.restartExtChannel s).channels.freshness[k] =
      if k ∈ named then { setting := 0, timer := none } else s.channels.freshness[k] := by
  induction named generalizing s with
  | nil => simp
  | cons e named ih =>
    obtain ⟨records, freshness⟩ := ih (s.restartExtChannel e)
    rw [List.foldl_cons]
    refine ⟨fun c => ?_, fun k => ?_⟩
    · rw [records, s.restartExtChannel_record]
      by_cases h : c = extChannel e
      · simp [h]
      · simp [h]
    · rw [freshness, s.restartExtChannel_freshness]
      by_cases h : k = e
      · simp [h]
      · simp [h]

/-- EXT_1 to EXT_5 are channels 11 to 15. -/
theorem exists_extChannel (c : Fin 16) : (∃ e : Fin 5, c = extChannel e) ↔ ¬ c.val < 11 := by
  constructor
  · rintro ⟨e, rfl⟩
    simp [extChannel]
  · intro h
    exact ⟨⟨c.val - 11, by omega⟩, Fin.ext (by simp [extChannel]; omega)⟩

theorem State.restartExt_record (s : State) (c : Fin 16) :
    s.restartExt.channels.records[c] =
      if c.val < 11 then s.channels.records[c]
      else { s.channels.records[c] with value := 0, validity := .absent } := by
  rw [State.restartExt_eq, (foldl_restartExtChannel _ s).1]
  simp only [List.mem_finRange, true_and, exists_extChannel, ite_not]

theorem State.restartExt_freshness (s : State) (k : Fin 5) :
    s.restartExt.channels.freshness[k] = { setting := 0, timer := none } := by
  rw [State.restartExt_eq, (foldl_restartExtChannel _ s).2, if_pos (List.mem_finRange k)]

/-! ## The PIU and the gauges (R10, R99) -/

theorem PulseUnit.restart_eq (u : PulseUnit) (run : Bool) (t : Stamp) :
    u.restart run t =
      (let input := fun p : PulseInput =>
        if p.filterOn = true ∧ p.selection = false then p
        else { p with filterOn := true, selection := false, accepted := p.pin, pending := none, stood := some t }
       let window := fun (p : PulseInput) (w : Window) =>
        if p.filterOn = true ∧ p.selection = false then { w with loss := 256000 }
        else { Window.initial with loss := 256000 }
       { u with
          spd := input u.spd, tac := input u.tac, inj := input u.inj, idx := input u.idx,
          spdWindow := window u.spd u.spdWindow, tacWindow := window u.tac u.tacWindow,
          onTime := if run then u.onTimeAt t else u.onTime, injMark := if run then t else u.injMark }) := by
  have loss : lossOf 2 = 256000 := by decide
  simp only [PulseUnit.restart, PulseUnit.configureSpd, PulseUnit.configureTac, PulseUnit.configureInj_eq,
    PulseUnit.configureIdx, PulseInput.configure_eq, Window.configure_eq, loss]
  rfl

/-- The Gauge Unit at Soft Restart: every gauge parked, so that an open sweep closes (R92, R99). -/
theorem State.restartGauges_gauge (s : State) :
    s.restartGauges.gauge = { s.gauge with
      gauges := vmap (fun g : Gauge => Gauge.park { g with config := .initial }) s.gauge.gauges,
      sweep := if s.gauge.sweep.isOpen then
        { s.gauge.sweep with delay := 0, isOpen := false, delayTimer := none, timeout := none }
        else { s.gauge.sweep with delay := 0 } } := by
  have parked : ∀ k : Fin 6,
      (vmap (fun g : Gauge => Gauge.park { g with config := .initial }) s.gauge.gauges)[k].mode = .parked := fun k => by
    rw [vmap_get]
    rfl
  have out : ∀ k : Fin 6,
      let mode := (vmap (fun g : Gauge => Gauge.park { g with config := .initial }) s.gauge.gauges)[k].mode
      mode ≠ .armed ∧ mode ≠ .sweepUp ∧ mode ≠ .sweepDown := fun k => by
    dsimp only
    rw [parked]
    decide
  unfold State.restartGauges
  rw [State.checkSweep_eq]
  by_cases opened : s.gauge.sweep.isOpen = true
  · rw [if_pos opened]
    exact congrArg State.gauge (if_pos ⟨opened, out⟩)
  · rw [if_neg opened]
    exact congrArg State.gauge (if_neg fun h => opened h.1)

/-! ## The lamps (R139) -/

theorem State.restartLamps_claim (s : State) (l : Fin 12) (c : Fin 23) :
    s.restartLamps.lamp.claim l c = if c = linkClaim then none else s.lamp.claim l c := by
  unfold LampUnit.claim
  have set : s.restartLamps.lamp.claims[l] = s.lamp.claims[l].set linkClaim none := vmap_get _ _ l
  rw [set]
  exact set_get _ _ _ _

end Sys2Proof.Machine
end

section
/-!
SUPPORT and proof: Soft Restart restores every block (R169).
-/
namespace Sys2Proof.Machine

/-- Soft Restart up to the gauges: the curves, the inputs, the channels and the gauges restored. -/
def State.restoredInputs (s : State) : State :=
  State.restartGauges (State.clearHolds (State.restartExt (State.restartDiscretes
    { s with curves := Vector.replicate 12 [], pulse := s.pulse.restart s.inRun s.now, sampler := s.sampler.restart })))

/-- Soft Restart's withdrawals of the monitors, the chimes and the link's lamp claims. -/
def State.restartSignals (s : State) : State :=
  let u := s.restartMonitors
  { u with chime := u.chime.restart }.restartLamps

/-- The warnings' part of Soft Restart: the monitors, the chimes, the lamps and the service items restored. -/
def State.restartWarnings (s : State) : State := s.restartSignals.restartService

theorem State.restore_eq (s : State) :
    s.restore = { s.restoredInputs.restartWarnings with trip := s.restoredInputs.restartWarnings.trip.restart } := rfl

section
variable {s : State} (h : s.power.Reported)
include h

/-- The inputs restored, with a report that finds nothing to do (R21). -/
theorem State.restoredInputs_eq :
    s.restoredInputs = State.restartGauges (State.clearHolds (State.restartExt
      { s with curves := Vector.replicate 12 [], pulse := s.pulse.restart s.inRun s.now, sampler := s.sampler.restart,
               discretes := { s.discretes with inputs := vmap Discrete.restored s.discretes.inputs } })) :=
  congrArg (fun t : State => t.restartExt.clearHolds.restartGauges) (State.restartDiscretes_eq
    (s := { s with curves := Vector.replicate 12 [], pulse := s.pulse.restart s.inRun s.now,
                   sampler := s.sampler.restart }) h)

theorem State.restoredInputs_fields :
    s.restoredInputs.power = s.power ∧ s.restoredInputs.curves = Vector.replicate 12 [] ∧
    s.restoredInputs.pulse = s.pulse.restart s.inRun s.now ∧ s.restoredInputs.sampler = s.sampler.restart ∧
    s.restoredInputs.discretes = { s.discretes with inputs := vmap Discrete.restored s.discretes.inputs } ∧
    s.restoredInputs.trip = s.trip ∧ s.restoredInputs.monitor = s.monitor ∧ s.restoredInputs.chime = s.chime ∧
    s.restoredInputs.lamp = s.lamp ∧ s.restoredInputs.service = s.service := by
  rw [State.restoredInputs_eq h]
  simp

theorem State.restoredInputs_record (c : Fin 16) :
    s.restoredInputs.channels.records[c] =
      if c.val < 11 then { s.channels.records[c] with hold := none }
      else { value := 0, validity := .absent, hold := none } := by
  rw [State.restoredInputs_eq h]
  have kept := fun t : State => t.restartGauges_frame
  simp only [kept, State.clearHolds_record, State.restartExt_record]
  split <;> rfl

theorem State.restoredInputs_freshness (e : Fin 5) :
    s.restoredInputs.channels.freshness[e] = { setting := 0, timer := none } := by
  rw [State.restoredInputs_eq h]
  have kept := fun t : State => t.restartGauges_frame
  simp only [kept, State.clearHolds_freshness, State.restartExt_freshness]

theorem State.restoredInputs_gauge :
    s.restoredInputs.gauge = { s.gauge with
      gauges := vmap (fun g : Gauge => Gauge.park { g with config := .initial }) s.gauge.gauges,
      sweep := if s.gauge.sweep.isOpen then
        { s.gauge.sweep with delay := 0, isOpen := false, delayTimer := none, timeout := none }
        else { s.gauge.sweep with delay := 0 } } := by
  rw [State.restoredInputs_eq h, State.restartGauges_gauge]
  simp

end

/-! ## The warnings -/

theorem State.restartWarnings_frame (s : State) :
    s.restartWarnings.power = s.power ∧ s.restartWarnings.curves = s.curves ∧ s.restartWarnings.pulse = s.pulse ∧
    s.restartWarnings.sampler = s.sampler ∧ s.restartWarnings.discretes = s.discretes ∧
    s.restartWarnings.channels = s.channels ∧ s.restartWarnings.trip = s.trip ∧
    s.restartWarnings.gauge = s.gauge ∧ s.restartWarnings.monitor = s.restartMonitors.monitor := by
  simp [State.restartWarnings, State.restartSignals]

theorem State.restartMonitors_clock (s : State) : s.restartMonitors.monitor.clock = s.monitor.clock := by
  unfold State.restartMonitors
  refine foldl_keeps (fun t => t.monitor.clock) _ (fun t i => ?_) _ s
  simp [State.restartMonitor]

/-- Every request withdrawn, whatever was withdrawn before and after (R122, R127). -/
theorem withdrawWhere_restart {p q : ChimeRequest → Prop} [DecidablePred p] [DecidablePred q] (u : ChimeUnit)
    (queue : List ChimeRequest) :
    withdrawWhere p ({ u with queue := withdrawWhere q queue } : ChimeUnit).restart.queue =
      (queue.filter fun r => r.playing).map fun r => { r with stop := .withdraw } := by
  have all : (queue.filter fun r => r.playing).map (fun r => { r with stop := .withdraw }) =
      withdrawWhere (fun _ => True) queue := ChimeUnit.restart_queue { u with queue := queue }
  rw [all, ChimeUnit.restart_queue, withdrawWhere_withdrawWhere, withdrawWhere_withdrawWhere]
  exact List.filterMap_congr fun r _ => if_congr (by simp) rfl rfl

theorem State.restartSignals_chime (s : State) : s.restartSignals.chime = s.restartMonitors.chime.restart := by
  unfold State.restartSignals
  generalize s.restartMonitors = u
  rfl

theorem State.restartSignals_lamp (s : State) :
    s.restartSignals.lamp = { s.restartMonitors.lamp with claims := s.restartSignals.lamp.claims, dimming := none } := by
  unfold State.restartSignals
  generalize s.restartMonitors = u
  rfl

theorem State.restartSignals_service (s : State) : s.restartSignals.service = s.service := by
  simp [State.restartSignals]

theorem State.restartSignals_claim (s : State) (l : Fin 12) (c : Fin 23) :
    s.restartSignals.lamp.claim l c = if c = linkClaim then none else s.restartMonitors.lamp.claim l c := by
  unfold State.restartSignals
  generalize s.restartMonitors = u
  exact State.restartLamps_claim _ l c

theorem State.restartWarnings_chime (s : State) :
    s.restartWarnings.chime = { s.chime with
      queue := (s.chime.queue.filter fun r => r.playing).map fun r => { r with stop := .withdraw },
      loaded := Vector.replicate 4 [] } := by
  have monitors := s.restartMonitors_takenBack.2.chime
  have items := s.restartSignals.restartService_takenBack.2.chime
  rw [s.restartSignals_chime, monitors, withdrawWhere_restart] at items
  exact items

/-- The claims that Soft Restart removes: the monitors', the link's and the service items' (R118, R139, R154). -/
theorem State.restartWarnings_claim (s : State) (l : Fin 12) (c : Fin 23) :
    s.restartWarnings.lamp.claim l c =
      if c = linkClaim ∨ (∃ i : Fin 16, c = monitorClaim i ∧ s.monitor.monitors[i].config.lamp.toNat = l.val) ∨
          (∃ k : Fin 6, c = serviceClaim k ∧ s.service[k].config.lamp.toNat = l.val) then none
      else s.lamp.claim l c := by
  have monitors := s.restartMonitors_takenBack.2.claim l c
  have items := s.restartSignals.restartService_takenBack.2.claim l c
  simp only [s.restartSignals_service, s.restartSignals_claim, monitors] at items
  refine items.trans ?_
  rw [← ite_or, ← ite_or]
  exact if_congr (or_assoc.trans or_rotate) rfl rfl

theorem State.restartWarnings_lamp (s : State) :
    s.restartWarnings.lamp = { s.lamp with claims := s.restartWarnings.lamp.claims, dimming := none } := by
  have monitors := s.restartMonitors_takenBack.2.lamp
  have items := s.restartSignals.restartService_takenBack.2.lamp
  rw [s.restartSignals_lamp, monitors] at items
  exact items

theorem State.restartWarnings_service (s : State) (k : Fin 6) :
    s.restartWarnings.service[k] = { s.service[k] with config := serviceDefaults, state := .disabled } := by
  have items := s.restartSignals.restartService_takenBack.1 k
  simp only [s.restartSignals_service] at items
  exact items

/-! ## Soft Restart -/

/-- A part that a request is served in at once has been reported to when its frame arrives (R162). -/
theorem State.ready_reported {s : State} (h : s.ready) : s.frameActivity.power.Reported := State.frameActivity_awake h.1

/-- Settles O52: the inputs' and the warnings' restorations, one after the other. -/
theorem softRestartResult : Obligations.SoftRestartResult := by
  intro s m hs t
  have reported : t.power.Reported := State.ready_reported (s := atMoment s m) hs
  have run : t.inRun = true ↔ t.power.state = .run := by rw [State.inRun, beq_iff_eq]
  have served : serveSoftRestart t = accepted { t.restore with notices := [] } := rfl
  obtain ⟨power, curves, pulse, sampler, discretes, trip, monitor, chime, lamp, service⟩ :=
    State.restoredInputs_fields reported
  obtain ⟨wpower, wcurves, wpulse, wsampler, wdiscretes, wchannels, wtrip, wgauge, wmonitor⟩ :=
    t.restoredInputs.restartWarnings_frame
  have restored := t.restore_eq
  have kept := t.restore_frame
  have claims := t.restoredInputs.restartWarnings_claim
  have lamps := t.restoredInputs.restartWarnings_lamp
  have chimes := t.restoredInputs.restartWarnings_chime
  have items := t.restoredInputs.restartWarnings_service
  have clock := t.restoredInputs.restartMonitors_clock
  have records := State.restoredInputs_record reported
  have freshness := State.restoredInputs_freshness reported
  have gauge := State.restoredInputs_gauge reported
  have monitors := t.restoredInputs.restartMonitors_takenBack.1
  rw [← wmonitor] at monitors clock
  rw [monitor] at clock
  simp only [monitor, service, lamp] at claims
  rw [lamp] at lamps
  rw [chime] at chimes
  rw [service] at items
  rw [← wchannels] at records freshness
  rw [← wgauge] at gauge
  refine ⟨_, exec_accepted hs rfl rfl served, rfl, ?_⟩
  rw [restored] at kept ⊢
  generalize t.restoredInputs.restartWarnings = w at *
  refine ⟨fun c => ?_, ?_, fun i => ?_, ?_, fun k => ?_, ?_, records, freshness, fun k => ?_, ?_, ?_, ?_, ?_, monitors,
    clock, ?_, fun p => ?_, ?_, claims, lamps, items, ?_, ?_⟩
  · rw [wcurves, curves]
    exact Vector.getElem_replicate c.isLt
  · rw [wpulse, pulse, PulseUnit.restart_eq]
    simp only [run]
    rfl
  · rw [wsampler, sampler]
    exact vmap_get _ _ i
  · rw [wsampler, sampler]
    rfl
  · rw [wdiscretes, discretes]
    exact vmap_get _ _ k
  · rw [wdiscretes, discretes]
  · rw [gauge]
    exact vmap_get _ _ k
  · rw [gauge]
  · rw [gauge]
  · rw [gauge]
  · rw [gauge]
  · rw [chimes]
  · rw [chimes]
    exact Vector.getElem_replicate p.isLt
  · rw [chimes]
  · rw [wtrip, trip]
    rfl
  · obtain ⟨time, consts, accum, drum, eeprom, link, freeCount, pending⟩ := kept
    exact State.ext_fields time (wpower.trans power) consts rfl rfl rfl rfl rfl accum drum rfl rfl rfl rfl rfl rfl eeprom
      link rfl freeCount pending

end Sys2Proof.Machine
end

section
/-!
SUPPORT and proof: every step keeps the law of the Notice Queue (R175, R176).
-/
namespace Sys2Proof.Machine

/-! ## The keys -/

/-- The keys of the Notice Queue (10.4). -/
def NoticeKey.all : List NoticeKey :=
  (List.finRange 16).map .monitor ++ (List.finRange 6).map .service ++ (List.finRange 16).map .channel ++
    [.drum, .store, .sweep, .power, .startup, .trip]

theorem NoticeKey.mem_all (k : NoticeKey) : k ∈ NoticeKey.all := by cases k <;> simp [NoticeKey.all]

/-- A queue of distinct keys is no longer than there are keys (10.4, R175). -/
theorem State.noticesDistinct.length_le {s : State} (h : s.noticesDistinct) : s.notices.length ≤ 44 := by
  have keys := (List.subperm_of_subset h fun k _ => k.mem_all).length_le
  simpa [NoticeKey.all] using keys

/-! ## A posting -/

theorem postNotice_new {key : NoticeKey} {q : List Notice} (h : ∀ n ∈ q, n.key ≠ key) (value : Word) :
    postNotice key value q = q ++ [{ key := key, value := value }] := by
  refine if_neg fun pending => ?_
  obtain ⟨n, hn, same⟩ := List.any_eq_true.mp pending
  exact h n hn (of_decide_eq_true same)

/-- A value put in place leaves the notices of other keys. -/
theorem map_replace_of_ne {key : NoticeKey} {q : List Notice} (h : ∀ n ∈ q, n.key ≠ key) (value : Word) :
    q.map (fun n => if n.key = key then { n with value := value } else n) = q :=
  (List.map_congr_left fun n hn => if_neg (h n hn)).trans (List.map_id _)

theorem postNotice_pending {front rest : List Notice} {n : Notice} (value : Word)
    (h : ((front ++ n :: rest).map Notice.key).Nodup) :
    postNotice n.key value (front ++ n :: rest) = front ++ { key := n.key, value := value } :: rest := by
  simp only [List.map_append, List.map_cons, List.nodup_middle, List.nodup_cons, List.mem_append, List.mem_map,
    not_or, not_exists, not_and] at h
  obtain ⟨⟨before, after⟩, -⟩ := h
  have pending : (front ++ n :: rest).any (fun m => m.key = n.key) = true :=
    List.any_eq_true.mpr ⟨n, by simp, by simp⟩
  rw [postNotice, if_pos pending, List.map_append, List.map_cons, map_replace_of_ne before, map_replace_of_ne after,
    if_pos rfl]

/-! ## The services -/

/-- A queue that is as it was is one that no posting has changed. -/
theorem Posts.of_eq {q r : List Notice} (h : r = q) : Posts q r := h ▸ .refl q

theorem serveDiscreteInputConfigure_posts (input polarity debounce wake : Byte) (s : State) :
    Posts s.notices (serveDiscreteInputConfigure input polarity debounce wake s).state.notices := by
  unfold serveDiscreteInputConfigure
  split
  · exact .refl _
  split
  · exact .refl _
  · exact s.changeDiscrete_posts _ _

theorem serveChannelPut_posts (channel : Byte) (value : Word) (s : State) :
    Posts s.notices (serveChannelPut channel value s).state.notices := by
  unfold serveChannelPut
  split
  · exact .refl _
  · exact s.writeChannel_posts _ _ _

theorem serveExternalChannelConfigure_posts (channel freshness withdraw : Byte) (s : State) :
    Posts s.notices (serveExternalChannelConfigure channel freshness withdraw s).state.notices := by
  unfold serveExternalChannelConfigure
  split
  · exact .refl _
  dsimp only
  split
  · exact s.writeChannel_posts _ _ _
  · split <;> exact .refl _

theorem serveGaugeConfigure_posts (gauge : Byte) (f : GaugeFields) (delay : Word) (s : State) :
    Posts s.notices (serveGaugeConfigure gauge f delay s).state.notices := by
  unfold serveGaugeConfigure
  split
  · exact .refl _
  split
  · exact .refl _
  · dsimp only
    rw [accepted_state]
    with_reducible refine .trans ?_ (State.checkSweep_posts _)
    exact .refl _

theorem serveMonitorAcknowledge_posts (monitor : Byte) (s : State) :
    Posts s.notices (serveMonitorAcknowledge monitor s).state.notices := by
  unfold serveMonitorAcknowledge
  split
  · exact foldl_posts _ State.acknowledge_posts _ s
  split
  · exact .refl _
  · split
    · exact s.acknowledge_posts _
    · exact .refl _

theorem serveDrumRestart_posts (s : State) : Posts s.notices (serveDrumRestart s).state.notices := by
  unfold serveDrumRestart
  dsimp only
  split
  · exact .refl _
  · rw [accepted_state]
    with_reducible refine .trans ?_ (State.notifyDrum_posts _)
    exact .refl _
  · exact .refl _

theorem serveServiceConfigure_posts (item : Byte) (f : ServiceFields) (s : State) :
    Posts s.notices (serveServiceConfigure item f s).state.notices := by
  unfold serveServiceConfigure
  split
  · exact .refl _
  · split
    · exact .refl _
    · exact s.configureItem_posts _ f

theorem serveServiceReset_posts (item : Byte) (s : State) :
    Posts s.notices (serveServiceReset item s).state.notices := by
  unfold serveServiceReset
  split
  · exact .refl _
  · split
    · exact foldl_posts _ State.resetItem_posts _ s
    · exact .refl _

theorem serveNoticeFetch_distinct {s : State} (h : s.noticesDistinct) : (serveNoticeFetch s).state.noticesDistinct :=
  h.sublist ((List.drop_sublist 6 s.notices).map Notice.key)

/-- What only posts keeps the keys distinct (R175). -/
theorem Posts.noticesDistinct {s t : State} (h : Posts s.notices t.notices) : s.noticesDistinct → t.noticesDistinct :=
  h.nodup

/-- Notice Fetch takes notices out, Soft Restart empties the queue, and the other services post at most. -/
theorem service_noticesDistinct {c : Instr} {f : Service} (hc : service? c = some f) {s : State}
    (hs : s.noticesDistinct) : (f s).state.noticesDistinct := by
  cases c <;> simp only [service?, reduceCtorEq, Option.some.injEq] at hc <;> subst hc
  case noticeFetch => exact serveNoticeFetch_distinct hs
  case softRestart => exact List.nodup_nil
  case discreteInputConfigure input polarity debounce wake =>
    exact (serveDiscreteInputConfigure_posts input polarity debounce wake s).noticesDistinct hs
  case channelPut channel value => exact (serveChannelPut_posts channel value s).noticesDistinct hs
  case externalChannelConfigure channel freshness withdraw =>
    exact (serveExternalChannelConfigure_posts channel freshness withdraw s).noticesDistinct hs
  case gaugeConfigure gauge fields delay => exact (serveGaugeConfigure_posts gauge fields delay s).noticesDistinct hs
  case monitorAcknowledge monitor => exact (serveMonitorAcknowledge_posts monitor s).noticesDistinct hs
  case drumRestart => exact (serveDrumRestart_posts s).noticesDistinct hs
  case serviceConfigure item fields => exact (serveServiceConfigure_posts item fields s).noticesDistinct hs
  case serviceReset item => exact (serveServiceReset_posts item s).noticesDistinct hs
  -- the other services leave the queue alone
  all_goals exact Posts.noticesDistinct (s := s) (.of_eq (by simp)) hs

/-! ## The law -/

theorem noticesDistinct_step : StepKeeps State.noticesDistinct where
  link _ _ := id
  reach s _ := Posts.noticesDistinct (s := s) (.of_eq (by simp))
  wake s := s.frameActivity_posts.noticesDistinct
  serve _ _ _ hc := service_noticesDistinct hc
  pending _ _ := id
  powerOnReset _ _ _ _ _ _ _ := List.nodup_nil
  resetnRelease s := Posts.noticesDistinct (s := s) (.of_eq (by simp))
  initEnd s _ := s.endInit_posts.noticesDistinct
  tick s _ _ _ _ := Posts.noticesDistinct (s := s) (.of_eq (by simp))
  discreteChange s k _ := (s.discreteChange_posts k).noticesDistinct
  runEntry s _ := s.runEntry_posts.noticesDistinct
  runExit s serviceFirst _ := (s.runExit_posts serviceFirst).noticesDistinct
  secondEnd s _ := Posts.noticesDistinct (s := s) (.of_eq (by simp))
  dayEnd s _ := s.dayEnd_posts.noticesDistinct
  freshnessExpiry s e _ := (s.expireFreshness_posts e).noticesDistinct
  lingerExpiry s _ := Posts.noticesDistinct (s := s) (.of_eq (by simp))
  asleepEntry s _ := Posts.noticesDistinct (s := s) (.of_eq (by simp))
  spdEdge s sub _ := (s.takeSpd_posts sub).noticesDistinct
  tacEdge s sub _ := (s.takeTac_posts sub).noticesDistinct
  injLevelChange s _ _ := Posts.noticesDistinct (s := s) (.of_eq (by simp))
  idxEdge s _ := s.takeIdx_posts.noticesDistinct
  windowClose s tripFirst _ := (s.takeWindowClose_posts tripFirst).noticesDistinct
  analogSample s i raw _ := (s.analogSample_posts i raw).noticesDistinct
  tripSecond s _ := s.tripSecond_posts.noticesDistinct
  gaugeMotionStep s _ := s.motionStep_posts.noticesDistinct
  sweepDelayExpiry s _ := Posts.noticesDistinct (s := s) (.of_eq (by simp))
  sweepTimeoutExpiry s _ := s.sweepTimeoutExpiry_posts.noticesDistinct
  syncFallingEdge s _ := Posts.noticesDistinct (s := s) (.of_eq (by simp))
  syncPulseEnd s _ := Posts.noticesDistinct (s := s) (.of_eq (by simp))
  monitorEvaluation s i _ := (s.monitorEvaluation_posts i).noticesDistinct
  assertTimerExpiry s i _ := (s.assertExpiry_posts i).noticesDistinct
  releaseTimerExpiry s i _ := (s.releaseExpiry_posts i).noticesDistinct
  reminderExpiry s i _ := (s.reminderExpiry_posts i).noticesDistinct
  chimeStepEnd _ _ := id
  gapEnd _ _ := id
  bulbCheckEnd s _ := Posts.noticesDistinct (s := s) (.of_eq (by simp))
  flashHalfChange s _ := Posts.noticesDistinct (s := s) (.of_eq (by simp))
  dutySetting s _ := Posts.noticesDistinct (s := s) (.of_eq (by simp))
  drumStep s _ := Posts.noticesDistinct (s := s) (.of_eq (by simp))
  drumIndexMiss s _ := s.missIndex_posts.noticesDistinct
  drumCoilOff s _ := Posts.noticesDistinct (s := s) (.of_eq (by simp))
  eepromWriteBegin s _ := Posts.noticesDistinct (s := s) (.of_eq (by simp))
  eepromWordComplete s _ := Posts.noticesDistinct (s := s) (.of_eq (by simp))
  eepromWordFail s _ := s.failWord_posts.noticesDistinct

/-- Settles O4: every operation of a command posts, takes notices out or leaves the queue alone, and so every step
keeps the keys distinct; the 44 keys bound the queue. -/
theorem noticeQueueLaw : Obligations.NoticeQueueLaw := by
  refine ⟨fun s t hs he => ?_, fun s key value h => ?_, fun s value front rest n hs h => ?_, fun s => ?_⟩
  · have distinct := noticesDistinct_step.step hs he
    exact ⟨distinct, distinct.length_le⟩
  · rw [State.notify, postNotice_new h]
  · unfold State.noticesDistinct at hs
    rw [h] at hs
    rw [State.notify, h, postNotice_pending value hs]
  · simp [State.attnLow]

end Sys2Proof.Machine
end

section
/-!
SUPPORT. A payload and the service it asks for: what a request row's payload is read as, and which payloads are refused
for their length (10.6, R174, R180).
-/
namespace Sys2Proof.Machine

/-! ## A request row's payload -/

theorem pointsIn_pointBytes (points : List (Word × Word)) : pointsIn (pointBytes points) = some points := by
  induction points with
  | nil => rfl
  | cons point points ih =>
    change (pointsIn (pointBytes points)).map (fun ps => (wordOf _ _, wordOf _ _) :: ps) = _
    rw [ih, wordOf_bytes, wordOf_bytes]
    rfl

theorem stepsIn_stepBytes (steps : List (Byte × Byte)) : stepsIn (stepBytes steps) = some steps := by
  induction steps with
  | nil => rfl
  | cons step steps ih => exact congrArg (Option.map _) ih

theorem payload3_word (g : Byte → Word → Service) (a : Byte) (w : Word) :
    payload3 (fun a b c => g a (wordOf b c)) (a :: wordBytes w) = g a w :=
  congrArg (g a) (wordOf_bytes w)

theorem constantsPayload_bytes (kvss cinj : Word) (ppr : Byte) (consumption : Word) (reserve : Byte) :
    constantsPayload (wordBytes kvss ++ wordBytes cinj ++ [ppr] ++ wordBytes consumption ++ [reserve]) =
      serveVehicleConstantsWrite kvss cinj ppr consumption reserve := by
  simp only [constantsPayload, wordBytes, List.cons_append, List.nil_append, wordOf_bytes]

theorem curvePayload_bytes (curve count : Byte) (points : List (Word × Word)) :
    curvePayload (curve :: count :: pointBytes points) = serveCurveLoad curve count points := by
  simp only [curvePayload, pointsIn_pointBytes]

theorem analogPayload_bytes (input curve : Byte) (low high : Word) (decimation shift : Byte) (threshold : Word) :
    analogPayload ([input, curve] ++ wordBytes low ++ wordBytes high ++ [decimation, shift] ++ wordBytes threshold) =
      serveAnalogInputConfigure input curve low high decimation shift threshold := by
  simp only [analogPayload, wordBytes, List.cons_append, List.nil_append, wordOf_bytes]

theorem gaugePayload_bytes (gauge : Byte) (fields : GaugeFields) (delay : Word) :
    gaugePayload (gauge :: gaugeFieldBytes fields ++ wordBytes delay) = serveGaugeConfigure gauge fields delay := by
  simp only [gaugePayload, gaugeFieldBytes, wordBytes, List.cons_append, List.nil_append, wordOf_bytes]

theorem monitorPayload_bytes (monitor : Byte) (fields : MonitorFields) :
    monitorPayload (monitor :: monitorBytes fields) = serveMonitorConfigure monitor fields := by
  simp only [monitorPayload, monitorBytes, wordBytes, List.cons_append, List.nil_append, wordOf_bytes]

theorem patternPayload_bytes (pattern count : Byte) (steps : List (Byte × Byte)) :
    patternPayload (pattern :: count :: stepBytes steps) = servePatternLoad pattern count steps := by
  simp only [patternPayload, stepsIn_stepBytes]

theorem servicePayload_bytes (item : Byte) (fields : ServiceFields) :
    servicePayload (item :: serviceBytes fields) = serveServiceConfigure item fields := by
  simp only [servicePayload, serviceBytes, wordBytes, List.cons_append, List.nil_append, wordOf_bytes]

/-- The frame of a request row asks for the row's own service (10.6, R180). -/
theorem serveKind_frame {c : Instr} {k : Byte} {p : List Byte} {f : Service} (hf : frame? c = some (k, p))
    (hs : service? c = some f) : serveKind k.toNat p = some f := by
  cases c <;> simp only [frame?, service?, Option.some.injEq, Prod.mk.injEq, reduceCtorEq] at hf hs <;>
    obtain ⟨rfl, rfl⟩ := hf <;> subst hs
  case vehicleConstantsWrite => exact congrArg some (constantsPayload_bytes _ _ _ _ _)
  case eepromWrite => exact congrArg some (payload3_word serveEepromWrite _ _)
  case curveLoad => exact congrArg some (curvePayload_bytes _ _ _)
  case analogInputConfigure => exact congrArg some (analogPayload_bytes _ _ _ _ _ _ _)
  case channelHold => exact congrArg some (payload3_word serveChannelHold _ _)
  case channelPut => exact congrArg some (payload3_word serveChannelPut _ _)
  case gaugeConfigure => exact congrArg some (gaugePayload_bytes _ _ _)
  case monitorConfigure => exact congrArg some (monitorPayload_bytes _ _)
  case patternLoad => exact congrArg some (patternPayload_bytes _ _ _)
  case serviceConfigure => exact congrArg some (servicePayload_bytes _ _)
  -- the payloads of no word and no list are their fields
  all_goals rfl

/-! ## The lengths of payloads -/

/-- A kind of the index of 10.6, as the statements name them: Curve Load, Pattern Load and those of fixed length. -/
def KnownKind (kind : Nat) : Prop := kind = 0x10 ∨ kind = 0x32 ∨ kind ∈ requestLengths.map Prod.fst

/-- The payload has the length that its kind requires (R37, R128, R180). -/
def LengthFits (kind : Nat) (p : List Byte) : Prop :=
  (∀ q ∈ requestLengths, q.1 = kind → p.length = q.2) ∧
  (kind = 0x10 → p.length = 2 + 4 * (p.getD 1 0).toNat) ∧ (kind = 0x32 → p.length = 2 + 2 * (p.getD 1 0).toNat)

theorem knownKind_iff (kind : Nat) : KnownKind kind ↔ ∃ r ∈ requestKinds, r.1 = kind := by
  have listed : ∀ k ∈ 0x10 :: 0x32 :: requestLengths.map Prod.fst, k ∈ requestKinds.map Prod.fst := by decide
  have known : ∀ k ∈ requestKinds.map Prod.fst, k ∈ 0x10 :: 0x32 :: requestLengths.map Prod.fst := by decide
  rw [← List.mem_map]
  exact ⟨fun h => listed kind (by simpa [KnownKind] using h), fun h => by simpa [KnownKind] using known kind h⟩

/-- A kind that is not a request kind is not served (R174). -/
theorem serveKind_eq_none {kind : Nat} {p : List Byte} (h : ¬ KnownKind kind) : serveKind kind p = none := by
  rw [knownKind_iff] at h
  rw [serveKind, Option.map_eq_none_iff, List.find?_eq_none]
  exact fun r hr same => h ⟨r, hr, of_decide_eq_true same⟩

/-- A request kind is served by its entry in the index (10.6). -/
theorem serveKind_known {kind : Nat} (h : KnownKind kind) (p : List Byte) :
    ∃ r ∈ requestKinds, r.1 = kind ∧ serveKind kind p = some (r.2 p) := by
  obtain ⟨r, hr, same⟩ := (knownKind_iff kind).mp h
  have found : (requestKinds.find? fun r => r.1 = kind).isSome = true :=
    List.find?_isSome.mpr ⟨r, hr, decide_eq_true same⟩
  obtain ⟨e, he⟩ := Option.isSome_iff_exists.mp found
  exact ⟨e, List.mem_of_find?_eq_some he, by simpa using List.find?_some he, congrArg (Option.map _) he⟩

/-- An entry of the index that refuses every payload of the wrong length (R174). -/
def RefusesMisfit (r : Nat × (List Byte → Service)) : Prop :=
  ∀ p s, ¬ LengthFits r.1 p → r.2 p s = refuse s .length

/-- A kind of fixed length refuses every misfit when it refuses the other lengths. -/
theorem RefusesMisfit.fixed {kind n : Nat} {g : List Byte → Service} (h : ∀ p, p.length ≠ n → g p = lengthRefused)
    (hk : kind ≠ 0x10 ∧ kind ≠ 0x32 ∧ ∀ q ∈ requestLengths, q.1 = kind → q.2 = n := by decide) :
    RefusesMisfit (kind, g) := by
  obtain ⟨curve, pattern, length⟩ := hk
  intro p s misfit
  have long : p.length ≠ n := fun fits =>
    misfit ⟨fun q hq same => fits.trans (length q hq same).symm, (absurd · curve), (absurd · pattern)⟩
  exact congrFun (h p long) s

theorem payload0_length (g : Service) (p : List Byte) (h : p.length ≠ 0) : payload0 g p = lengthRefused := by
  unfold payload0
  split
  · exact absurd rfl h
  · rfl

theorem payload1_length (g : Byte → Service) (p : List Byte) (h : p.length ≠ 1) : payload1 g p = lengthRefused := by
  unfold payload1
  split
  · exact absurd rfl h
  · rfl

theorem payload2_length (g : Byte → Byte → Service) (p : List Byte) (h : p.length ≠ 2) :
    payload2 g p = lengthRefused := by
  unfold payload2
  split
  · exact absurd rfl h
  · rfl

theorem payload3_length (g : Byte → Byte → Byte → Service) (p : List Byte) (h : p.length ≠ 3) :
    payload3 g p = lengthRefused := by
  unfold payload3
  split
  · exact absurd rfl h
  · rfl

theorem payload4_length (g : Byte → Byte → Byte → Byte → Service) (p : List Byte) (h : p.length ≠ 4) :
    payload4 g p = lengthRefused := by
  unfold payload4
  split
  · exact absurd rfl h
  · rfl

theorem constantsPayload_length (p : List Byte) (h : p.length ≠ 8) : constantsPayload p = lengthRefused := by
  unfold constantsPayload
  split
  · exact absurd rfl h
  · rfl

theorem analogPayload_length (p : List Byte) (h : p.length ≠ 10) : analogPayload p = lengthRefused := by
  unfold analogPayload
  split
  · exact absurd rfl h
  · rfl

theorem gaugePayload_length (p : List Byte) (h : p.length ≠ 14) : gaugePayload p = lengthRefused := by
  unfold gaugePayload
  split
  · exact absurd rfl h
  · rfl

theorem monitorPayload_length (p : List Byte) (h : p.length ≠ 28) : monitorPayload p = lengthRefused := by
  unfold monitorPayload
  split
  · exact absurd rfl h
  · rfl

theorem servicePayload_length (p : List Byte) (h : p.length ≠ 13) : servicePayload p = lengthRefused := by
  unfold servicePayload
  split
  · exact absurd rfl h
  · rfl

theorem pointsIn_length (p : List Byte) : ∀ points, pointsIn p = some points → p.length = 4 * points.length := by
  induction p using pointsIn.induct with
  | case1 =>
    rintro _ ⟨⟩
    rfl
  | case2 a b c d rest ih =>
    intro points h
    obtain ⟨tail, htail, rfl⟩ := Option.map_eq_some_iff.mp h
    have := ih tail htail
    simp only [List.length_cons]
    omega
  | case3 p empty short =>
    intro points h
    rw [pointsIn.eq_3 p empty short] at h
    cases h

theorem stepsIn_length (p : List Byte) : ∀ steps, stepsIn p = some steps → p.length = 2 * steps.length := by
  induction p using stepsIn.induct with
  | case1 =>
    rintro _ ⟨⟩
    rfl
  | case2 a b rest ih =>
    intro steps h
    obtain ⟨tail, htail, rfl⟩ := Option.map_eq_some_iff.mp h
    have := ih tail htail
    simp only [List.length_cons]
    omega
  | case3 p empty short =>
    intro steps h
    rw [stepsIn.eq_3 p empty short] at h
    cases h

/-- Curve Load refuses points that are not whole, and a number of them that is not its count (R37, R174). -/
theorem curvePayload_misfit (p : List Byte) (s : State) (h : p.length ≠ 2 + 4 * (p.getD 1 0).toNat) :
    curvePayload p s = refuse s .length := by
  unfold curvePayload
  split
  · next c n rest =>
    cases whole : pointsIn rest with
    | none => rfl
    | some points =>
      have := pointsIn_length rest points whole
      have count : points.length ≠ n.toNat := by
        simp only [List.length_cons, List.getD_cons_succ, List.getD_cons_zero] at h
        omega
      exact if_pos count
  · rfl

/-- Pattern Load refuses steps that are not whole, and a number of them that is not its count (R128, R174). -/
theorem patternPayload_misfit (p : List Byte) (s : State) (h : p.length ≠ 2 + 2 * (p.getD 1 0).toNat) :
    patternPayload p s = refuse s .length := by
  unfold patternPayload
  split
  · next c n rest =>
    cases whole : stepsIn rest with
    | none => rfl
    | some steps =>
      have := stepsIn_length rest steps whole
      have count : steps.length ≠ n.toNat := by
        simp only [List.length_cons, List.getD_cons_succ, List.getD_cons_zero] at h
        omega
      exact if_pos count
  · rfl

theorem curvePayload_refusesMisfit : RefusesMisfit (0x10, curvePayload) := fun p s misfit =>
  curvePayload_misfit p s fun fits =>
    misfit ⟨fun q hq same => absurd same (by revert q; decide), fun _ => fits, fun h => absurd h (by decide)⟩

theorem patternPayload_refusesMisfit : RefusesMisfit (0x32, patternPayload) := fun p s misfit =>
  patternPayload_misfit p s fun fits =>
    misfit ⟨fun q hq same => absurd same (by revert q; decide), fun h => absurd h (by decide), fun _ => fits⟩

/-- Every kind of the index refuses a payload of the wrong length (R174). -/
theorem requestKinds_refuse : ∀ r ∈ requestKinds, RefusesMisfit r := by
  simp only [requestKinds, List.forall_mem_cons, List.forall_mem_append, List.not_mem_nil, false_implies,
    implies_true, and_true]
  refine ⟨⟨⟨.fixed (payload0_length _), .fixed (payload0_length _), .fixed (payload0_length _),
    .fixed constantsPayload_length, .fixed (payload0_length _), .fixed (payload2_length _), .fixed (payload3_length _),
    curvePayload_refusesMisfit, .fixed (payload1_length _), .fixed analogPayload_length, .fixed (payload4_length _),
    .fixed (payload4_length _), .fixed (payload2_length _), .fixed (payload3_length _)⟩,
    .fixed (payload1_length _), .fixed (payload3_length _), .fixed (payload3_length _), .fixed (payload0_length _),
    .fixed gaugePayload_length, .fixed (payload1_length _), .fixed (payload0_length _), .fixed monitorPayload_length,
    .fixed (payload2_length _), .fixed (payload1_length _), .fixed (payload1_length _), .fixed (payload4_length _),
    .fixed (payload1_length _), patternPayload_refusesMisfit, .fixed (payload1_length _)⟩,
    .fixed (payload2_length _), .fixed (payload1_length _), .fixed (payload1_length _), .fixed (payload1_length _),
    .fixed (payload1_length _), .fixed (payload3_length _), .fixed (payload0_length _), .fixed (payload0_length _),
    .fixed (payload0_length _), .fixed servicePayload_length, .fixed (payload1_length _), .fixed (payload1_length _)⟩

end Sys2Proof.Machine
end

section
/-!
SUPPORT and proof: a complete frame at Power Control and at the link, and a request row as the arrival of its frame
(R162, R164, R172 to R174).
-/
namespace Sys2Proof.Machine

/-! ## Power Control -/

/-- A part that wakes by the link has its clocks started, its linger timer full and its POWER notice posted (R163, R164). -/
theorem State.wake_link (s : State) : s.wake 3 =
    State.notify { s.startClocks with power := { s.power with state := .awakeOff, linger := .running 30000 } }
      .power 0x0301 := by
  have word : powerWord 3 .awakeOff = 0x0301 := by decide
  rw [← word]
  rfl

theorem State.frameActivity_of_ne {s : State} (asleep : s.power.state ≠ .asleep) (off : s.power.state ≠ .awakeOff) :
    s.frameActivity = s := by
  rw [State.frameActivity, if_neg asleep, State.restartLinger, if_neg off]

theorem State.frameActivity_awakeOff {s : State} (h : s.power.state = .awakeOff) :
    s.frameActivity = { s with power := { s.power with linger := .running 30000 } } := by
  rw [State.frameActivity, if_neg (by simp [h]), State.restartLinger_awakeOff h]

theorem State.frameActivity_asleep {s : State} (h : s.power.state = .asleep) : s.frameActivity = s.wake 3 := if_pos h

/-- A frame's arrival neither brings a part to INIT nor takes it out. -/
theorem State.frameActivity_init_iff (s : State) : s.frameActivity.power.state = .init ↔ s.power.state = .init := by
  refine ⟨State.frameActivity_init, fun h => ?_⟩
  rw [State.frameActivity_of_ne (by simp [h]) (by simp [h]), h]

/-! ## A frame taken for service -/

theorem State.serveFrame_judged (s : State) (f : Frame) : judged s f (s.serveFrame f) := by
  have sound (h : f.good = true) : ¬ f.good = false := by simp [h]
  have late (h : f.inInit = false) : ¬ f.inInit = true := by simp [h]
  refine ⟨fun bad => if_pos bad, fun good init => (if_neg (sound good)).trans (if_pos init), fun good init unknown => ?_,
    fun good init (known : KnownKind f.kind.toNat) (misfit : ¬ LengthFits f.kind.toNat f.payload) => ?_,
    fun good init (known : KnownKind f.kind.toNat) _ => ?_⟩
  · rw [State.serveFrame, if_neg (sound good), if_neg (late init), serveKind_eq_none unknown]
    rfl
  · obtain ⟨r, hr, kind, served⟩ := serveKind_known known f.payload
    rw [State.serveFrame, if_neg (sound good), if_neg (late init), served]
    refine congrArg (State.sendAnswer f.kind) (requestKinds_refuse r hr f.payload s ?_)
    rwa [kind]
  · obtain ⟨r, -, -, served⟩ := serveKind_known known f.payload
    refine ⟨_, served, ?_⟩
    rw [State.serveFrame, if_neg (sound good), if_neg (late init), served]
    rfl

/-! ## A frame that completes -/

theorem State.linkFree_iff (s : State) : s.linkFree = true ↔ s.link.reply = none ∧ s.link.queue = [] := by
  simp [State.linkFree]

/-- A frame that finds the link free is taken at once (R173). -/
theorem State.completeFrame_free {s : State} (h : s.linkFree = true) (f : Frame) :
    s.completeFrame f = s.frameActivity.serveFrame f := by
  obtain ⟨reply, queue⟩ := s.linkFree_iff.mp h
  obtain ⟨-, -, -, -, -, -, -, -, -, -, -, -, -, link, -⟩ := s.frameActivity_frame
  rw [State.completeFrame]
  generalize s.frameActivity = t at link ⊢
  rw [← link] at reply queue
  have room : t.link.queue.length < 2 := by simp [queue]
  rw [State.enqueue, if_pos room, State.takeNext]
  simp only [reply, queue, List.nil_append]
  rw [← queue, ← reply]

/-- While a reply is being sent a frame waits, or is discarded when two wait (R172). -/
theorem State.completeFrame_busy {s : State} (h : s.link.reply ≠ none) (f : Frame) :
    s.completeFrame f = s.frameActivity.enqueue f := by
  obtain ⟨reply, sending⟩ := Option.ne_none_iff_exists'.mp h
  have busy : (s.frameActivity.enqueue f).link.reply = some reply := by
    unfold State.enqueue
    split <;> simp [sending]
  rw [State.completeFrame, State.takeNext, busy]

/-- A request row is its frame completing: at once when the link is free, and else with those that wait. -/
theorem State.request_eq_completeFrame {k : Byte} {p : List Byte} {f : Service} (served : serveKind k.toNat p = some f)
    {s : State} (held : s.power.state ≠ .held) : State.request k p f s =
      s.completeFrame { kind := k, payload := p, good := true, inInit := decide (s.power.state = .init) } := by
  have free : s.frameActivity.linkFree = s.linkFree := by simp [State.linkFree]
  simp only [State.request, if_neg held, free, s.frameActivity_init_iff]
  split
  · next h =>
    rw [State.completeFrame_free h, State.serveFrame]
    by_cases init : s.power.state = .init <;> simp [init, served]
  · rfl

theorem atCommand_state (s : State) (c : Instr) : (atCommand s c).power.state = s.power.state := by
  unfold atCommand
  cases moment? c <;> rfl

theorem atCommand_link (s : State) (c : Instr) : (atCommand s c).link = s.link := by
  unfold atCommand
  cases moment? c <;> rfl

/-- Settles O49: the row is served by the service that its frame asks for, and `State.request` is that frame completing. -/
theorem requestRowIsItsFrame : Obligations.RequestRowIsItsFrame := by
  intro c kind payload s hf held
  obtain ⟨f, hs⟩ := Option.isSome_iff_exists.mp ((frame?_isSome c).symm.trans (by rw [hf]; rfl))
  have state := atCommand_state s c
  rw [exec_request s hf hs held, State.request_eq_completeFrame (serveKind_frame hf hs) (state ▸ held), state]

/-! ## Frames and requests that wait -/

/-- Settles O48: at Power Control by the power state, at the link by whether it is free, and a request row by its frame. -/
theorem framesAndRequestsThatWait : Obligations.FramesAndRequestsThatWait := by
  have waits (s : State) (f : Frame) (h : s.link.reply ≠ none) :
      let t := s.frameActivity
      s.completeFrame f =
        if s.link.queue.length < 2 then { t with link := { s.link with queue := s.link.queue ++ [f] } } else t := by
    rw [State.completeFrame_busy h, State.enqueue]
    simp only [State.frameActivity_frame]
  refine ⟨fun s => ⟨fun h => ?_, State.frameActivity_awakeOff,
      fun h => (State.frameActivity_asleep h).trans s.wake_link⟩,
    fun s f => ⟨fun free => ?_, waits s f⟩,
    fun c kind payload s hf held => ⟨fun init free => ?_, fun busy => ⟨fun room => ?_, fun full => ?_⟩⟩⟩
  · rcases h with h | h <;> exact State.frameActivity_of_ne (by simp [h]) (by simp [h])
  · rw [State.completeFrame_free free]
    exact State.serveFrame_judged _ f
  · have state := (atCommand_state s c).trans init
    have free' : (atCommand s c).linkFree = true := by rwa [State.linkFree, atCommand_link]
    rw [requestRowIsItsFrame c kind payload s hf held, State.completeFrame_free free',
      State.frameActivity_of_ne (by simp [state]) (by simp [state])]
    exact congrArg Host.Outcome.next ((State.serveFrame_judged _ _).2.1 rfl (decide_eq_true init))
  all_goals
    have link := atCommand_link s c
    have waiting := waits (atCommand s c)
      { kind := kind, payload := payload, good := true, inInit := decide (s.power.state = .init) } (link ▸ busy)
    rw [requestRowIsItsFrame c kind payload s hf held, waiting, link]
  · rw [if_pos room]
  · rw [if_neg (Nat.not_lt.mpr full)]

end Sys2Proof.Machine
end

section
/-!
SUPPORT and proof: the receive assembler, its gap timeout and the end of a reply (R171 to R174, R179).
-/
namespace Sys2Proof.Machine

/-! ## The check of a frame -/

theorem sum8_toNat (bs : List Byte) : (sum8 bs).toNat = (bs.map BitVec.toNat).sum % 256 := by
  induction bs with
  | nil => rfl
  | cons b bs ih =>
    change (b + sum8 bs).toNat = _
    rw [BitVec.toNat_add, ih, List.map_cons, List.sum_cons, Nat.add_mod_mod]

/-- The 8-bit sum of characters is 0 exactly when their sum is a multiple of 256 (R179). -/
theorem sum8_eq_zero (bs : List Byte) : sum8 bs = 0 ↔ (bs.map BitVec.toNat).sum % 256 = 0 := by
  rw [← BitVec.toNat_inj, sum8_toNat]
  rfl

/-- The characters after the lead byte are COUNT, KIND, the payload and CHECK (10.2). -/
theorem frameOf_characters (count kind check : Byte) (payload : List Byte) (inInit : Bool) :
    frameOf (count :: kind :: payload ++ [check]) inInit =
      { kind := kind, payload := payload, good := decide (sum8 (count :: kind :: payload ++ [check]) = 0),
        inInit := inInit } := by
  simp [frameOf, beq_eq_decide]

/-! ## The assembler -/

section
variable {s : State}

theorem exec_character (held : s.power.state ≠ .held) (c : Byte) (m : Moment) :
    exec (.characterReceived c true m) s = .next (s.character c m) := by
  rw [exec_characterReceived held, State.receive, if_neg held, if_pos rfl]

/-- A character that an assembler at rest takes is a lead byte, or is let go (R171). -/
theorem State.character_hunt (h : s.link.assembler = .hunt) (c : Byte) (m : Moment) :
    s.character c m = if c = 0xA7 then s.leadTaken m else s := by
  rw [State.character, h]
  rfl

theorem State.character_count (h : s.link.assembler = .count) (c : Byte) (m : Moment) :
    s.character c m = if 1 ≤ c.toNat ∧ c.toNat ≤ 40 then s.assemble (.body [c] (c.toNat + 1))
      else if c = 0xA7 then s.leadTaken m else s.assemble .hunt := by
  rw [State.character, h]
  rfl

theorem State.character_body {taken : List Byte} {n : Nat} (h : s.link.assembler = .body taken n) (more : 2 ≤ n)
    (c : Byte) (m : Moment) : s.character c m = s.assemble (.body (taken ++ [c]) (n - 1)) := by
  rw [State.character, h]
  exact if_pos more

theorem State.character_last {taken : List Byte} {n : Nat} (h : s.link.assembler = .body taken n) (last : n ≤ 1)
    (c : Byte) (m : Moment) : s.character c m =
      ((s.reach m).assemble .hunt).completeFrame (frameOf (taken ++ [c]) (decide (s.power.state = .init))) := by
  rw [State.character, h]
  exact if_neg (Nat.not_lt.mpr last)

/-- A partial frame is discarded with a character whose stop bit is low (R171). -/
theorem exec_characterError (held : s.power.state ≠ .held) (h : s.link.assembler ≠ .hunt) (c : Byte) (m : Moment) :
    exec (.characterReceived c false m) s = .next (s.assemble .hunt) := by
  rw [exec_characterReceived held, State.receive, if_neg held, if_neg Bool.false_ne_true]
  cases e : s.link.assembler with
  | hunt => exact absurd e h
  | count | body => rfl

/-- A partial frame is discarded after 20 ms without a character (R171, log entry 27). -/
theorem exec_gapTimeout (held : s.power.state ≠ .held) (h : s.link.assembler ≠ .hunt) :
    exec .characterGapTimeout s = .next (if 20 ≤ s.link.gap then s.assemble .hunt else s) := by
  rw [exec_characterGapTimeout held, State.gapTimeout]
  cases e : s.link.assembler with
  | hunt => exact absurd e h
  | count | body => rfl

/-- No partial frame is there to be discarded. -/
theorem exec_hunting (held : s.power.state ≠ .held) (h : s.link.assembler = .hunt) (c : Byte) (m : Moment) :
    exec (.characterReceived c false m) s = .next s ∧ exec .characterGapTimeout s = .next s := by
  rw [exec_characterReceived held, exec_characterGapTimeout held, State.receive, State.gapTimeout, if_neg held,
    if_neg Bool.false_ne_true, h]
  exact ⟨rfl, rfl⟩

/-- A lead byte wakes an ASLEEP part at its moment (R164, R171). -/
theorem State.leadTaken_eq (s : State) (m : Moment) :
    s.leadTaken m = (if s.power.state = .asleep then (atMoment s m).wake 3 else s).assemble .count := by
  rw [State.leadTaken, s.reach_eq]

/-! ## The end of a reply -/

theorem State.replyEnd_idle (h : s.link.reply = none) (m : Moment) : s.replyEnd m = s := by
  rw [State.replyEnd, h]
  rfl

/-- The end of a reply at its moment frees the link for the oldest frame that waits (R173). -/
theorem State.replyEnd_sending (h : s.link.reply ≠ none) (m : Moment) :
    s.replyEnd m = State.takeNext { atMoment s m with link := { s.link with reply := none } } := by
  rw [State.replyEnd, if_pos (Option.isSome_iff_ne_none.mpr h), s.reach_eq]

end

/-- Settles O47: the assembler by its state, the end of a reply by the frames that wait. -/
theorem linkEvents : Obligations.LinkEvents := by
  intro s m held u goes lead expecting
  have taken : s.leadTaken m = lead := by
    rw [State.leadTaken_eq, State.wake_link]
    rfl
  refine ⟨fun count kind check payload inInit => ?_, fun c hunt => ?_, fun c partly => ?_, fun c count => ?_,
    fun c bytes n body => ⟨fun more => ?_, fun last => ?_⟩, fun idle => ?_, fun sending empty => ?_,
    fun f rest sending waiting => ?_⟩
  · have sum : ((count :: kind :: payload ++ [check]).map BitVec.toNat).sum =
        count.toNat + kind.toNat + (payload.map BitVec.toNat).sum + check.toNat := by
      simp
      omega
    rw [frameOf_characters, ← sum]
    simp only [sum8_eq_zero]
  · obtain ⟨error, gap⟩ := exec_hunting held hunt c m
    refine ⟨error, gap, ?_⟩
    rw [exec_character held, State.character_hunt hunt, taken]
  · have begun : s.link.assembler ≠ .hunt := by
      rcases partly with h | ⟨taken, n, h⟩ <;> simp [h]
    exact ⟨exec_characterError held begun c m, exec_gapTimeout held begun⟩
  · rw [exec_character held, State.character_count count, taken]
    rfl
  · rw [exec_character held, State.character_body body more]
    rfl
  · rw [exec_character held, State.character_last body last, s.reach_eq]
    rfl
  · rw [exec_replyEnd held, State.replyEnd_idle idle]
  · rw [exec_replyEnd held, State.replyEnd_sending sending, State.takeNext]
    simp only [empty]
    rfl
  · refine ⟨_, exec_replyEnd held m, ?_⟩
    rw [State.replyEnd_sending sending, State.takeNext]
    simp only [waiting]
    exact State.serveFrame_judged _ f

end Sys2Proof.Machine
end

section
/-!
SUPPORT and proof: the characters of a request's frame are assembled into that frame (R171, R179, R180).
-/
namespace Sys2Proof.Machine

/-! ## A part woken at its moment -/

theorem State.reach_pulse (s : State) (m : Moment) :
    (s.reach m).pulse = s.pulse.sample s.inRun s.awake m.pulse (s.advance m.sub).now := rfl

theorem State.reach_gauge (s : State) (m : Moment) :
    (s.reach m).gauge = s.gauge.sample s.inRun (m.pulse.getLsbD 4) (s.advance m.sub).now := rfl

/-- An input enabled at a moment finds nothing new when its pin is looked at again at that moment (R1). -/
theorem PulseInput.enable_watchEdges (p : PulseInput) (t : Stamp) :
    (p.enable t).watchEdges true p.pin t = p.enable t := by
  change (p.enable t).sampleEdges p.pin t = p.enable t
  unfold PulseInput.sampleEdges
  split
  · simp [PulseInput.enable, recent, span_self, Config.frefPerTick, Option.filter]
  · exact if_pos rfl

/-- IDX enabled at the moment of a look that found every input disabled is found as it is by a second look. -/
theorem PulseUnit.enableIdx_sample {u : PulseUnit} {pins : BitVec 5} {t : Stamp}
    (found : u.sample false false pins t = u) :
    { u with idx := u.idx.enable t }.sample false true pins t = { u with idx := u.idx.enable t } := by
  have pin : pins.getLsbD 3 = u.idx.pin := congrArg (fun v : PulseUnit => v.idx.pin) found
  have idx : (u.idx.enable t).watchEdges true (pins.getLsbD 3) t = u.idx.enable t := pin ▸ u.idx.enable_watchEdges t
  change { u.sample false false pins t with idx := (u.idx.enable t).watchEdges true (pins.getLsbD 3) t } = _
  rw [found, idx]

/-- A part that wakes at a moment is at that moment: a second look finds nothing new (log entries 7 and 8). -/
theorem State.reach_wake {s : State} (asleep : s.power.state = .asleep) {m : Moment} (there : s.reach m = s)
    (cause : Nat) : (s.wake cause).reach m = s.wake cause := by
  have inRun : s.inRun = false := by simp [State.inRun, asleep]
  have awake : s.awake = false := by simp [State.awake, asleep]
  have time : (s.advance m.sub).time = s.time := s.reach_time m ▸ congrArg State.time there
  have now : (s.advance m.sub).now = s.now := by rw [State.now, time, State.now]
  have pulse := s.reach_pulse m
  have gauge := s.reach_gauge m
  rw [there, inRun, awake, now] at pulse
  rw [there, inRun, now] at gauge
  have woken : ((s.wake cause).reach m).pulse = (s.wake cause).pulse := by
    rw [State.reach_pulse]
    change PulseUnit.sample { s.pulse with idx := s.pulse.idx.enable s.now } false true m.pulse (s.advance m.sub).now = _
    rw [now]
    exact PulseUnit.enableIdx_sample pulse.symm
  have sync : ((s.wake cause).reach m).gauge = (s.wake cause).gauge := by
    rw [State.reach_gauge]
    change s.gauge.sample false (m.pulse.getLsbD 4) (s.advance m.sub).now = s.gauge
    rw [now]
    exact gauge.symm
  exact State.ext_fields time rfl rfl woken rfl rfl rfl rfl rfl rfl rfl sync rfl rfl rfl rfl rfl rfl rfl rfl rfl

/-! ## The characters -/

theorem runAll_next {c : Instr} {s t : State} (h : exec c s = .next t) (cs : List Instr) :
    runAll (c :: cs) s = runAll cs t := by
  rw [runAll, h]

/-- The event row of a sound character at a moment. -/
abbrev soundCharacter (m : Moment) (b : Byte) : Instr := .characterReceived b true m

/-- A partial frame takes the bytes it expects, and with the last of them it completes (R171). -/
theorem runAll_body (m : Moment) (bytes : List Byte) (last : Byte) {s : State} (held : s.power.state ≠ .held)
    {taken : List Byte} (partly : s.link.assembler = .body taken (bytes.length + 1)) :
    runAll ((bytes ++ [last]).map (soundCharacter m)) s =
      .next (((s.reach m).assemble .hunt).completeFrame
        (frameOf (taken ++ (bytes ++ [last])) (decide (s.power.state = .init)))) := by
  induction bytes generalizing s taken with
  | nil =>
    refine (runAll_next (exec_character held last m) []).trans ?_
    rw [State.character_last partly (Nat.le_refl 1)]
    rfl
  | cons b bytes ih =>
    refine (runAll_next (exec_character held b m) _).trans ?_
    rw [State.character_body partly (Nat.le_add_left 2 bytes.length)]
    refine (ih (s := s.assemble _) held rfl).trans ?_
    rw [List.append_assoc]
    rfl

/-- CHECK makes the 8-bit sum of a frame's characters 0 (R179). -/
theorem sum8_check (body : List Byte) : sum8 (body ++ [0 - sum8 body]) = 0 := by
  change (body ++ [0 - sum8 body]).sum = 0
  rw [List.sum_append, List.sum_singleton]
  exact add_sub_cancel (sum8 body) 0

/-- A lead byte neither brings a part to INIT or to reset nor takes it out. -/
theorem State.leadTaken_state (s : State) (m : Moment) : (s.leadTaken m).power.state =
    if s.power.state = .asleep then .awakeOff else s.power.state := by
  unfold State.leadTaken
  split <;> rfl

/-- The characters after the lead byte complete a good frame of their kind and payload at their moment (R171, R179). -/
theorem runAll_counted {s : State} (held : s.power.state ≠ .held) (counting : s.link.assembler = .count) (m : Moment)
    (kind : Byte) {payload : List Byte} (short : payload.length ≤ maxPayload) :
    let body := byte (payload.length + 1) :: kind :: payload
    runAll ((body ++ [0 - sum8 body]).map (soundCharacter m)) s =
      .next (((s.reach m).assemble .hunt).completeFrame
        { kind := kind, payload := payload, good := true, inInit := decide (s.power.state = .init) }) := by
  intro body
  have length : payload.length ≤ 39 := short
  have count : (byte (payload.length + 1)).toNat = payload.length + 1 := Nat.mod_eq_of_lt (by omega)
  have counted : s.character (byte (payload.length + 1)) m =
      s.assemble (.body [byte (payload.length + 1)] ((kind :: payload).length + 1)) := by
    rw [State.character_count counting, count, if_pos ⟨by omega, by omega⟩]
    rfl
  have frame := frameOf_characters (byte (payload.length + 1)) kind (0 - sum8 body) payload
    (decide (s.power.state = .init))
  rw [sum8_check body] at frame
  refine (runAll_next (exec_character held _ m) _).trans ?_
  rw [counted]
  refine (runAll_body m (kind :: payload) _ (s := s.assemble _) held rfl).trans ?_
  exact congrArg (fun f => Host.Outcome.next (State.completeFrame ((s.reach m).assemble .hunt) f)) frame

/-- A frame's characters, taken by a hunting assembler, complete the frame in the part that the lead byte leaves. -/
theorem runAll_frameBytes {s : State} (held : s.power.state ≠ .held) (hunt : s.link.assembler = .hunt) (m : Moment)
    (kind : Byte) {payload : List Byte} (short : payload.length ≤ maxPayload) :
    runAll ((frameBytes kind payload).map (soundCharacter m)) s =
      .next ((((s.leadTaken m).reach m).assemble .hunt).completeFrame
        { kind := kind, payload := payload, good := true, inInit := decide (s.power.state = .init) }) := by
  have state := s.leadTaken_state m
  have held' : (s.leadTaken m).power.state ≠ .held := by
    rw [state]
    split <;> simp [held]
  have init : (s.leadTaken m).power.state = .init ↔ s.power.state = .init := by
    rw [state]
    split
    · next asleep => simp [asleep]
    · rfl
  refine (runAll_next (exec_character held leadByte m) _).trans ?_
  rw [State.character_hunt hunt, if_pos (show leadByte = 0xA7 from rfl)]
  refine (runAll_counted held' rfl m kind short).trans ?_
  simp only [init]

/-! ## The row -/

/-- The part as a frame's last character finds it takes the frame as the part at its row's moment does: a lead byte has
woken it, with the same notice and at the same moment, or nothing has. -/
theorem State.leadTaken_completeFrame (s : State) (m : Moment) (f : Frame) :
    (((s.leadTaken m).reach m).assemble .hunt).completeFrame f = ((s.assemble .hunt).reach m).completeFrame f := by
  by_cases asleep : s.power.state = .asleep
  · have lead : s.leadTaken m = ((s.reach m).wake 3).assemble .count := by rw [State.leadTaken, if_pos asleep]
    have woken : (s.leadTaken m).reach m = ((s.reach m).wake 3).assemble .count := by
      rw [lead]
      exact congrArg (fun t : State => t.assemble .count) (State.reach_wake (s := s.reach m) asleep (s.reach_reach m) 3)
    have active : (((s.leadTaken m).reach m).assemble .hunt).frameActivity =
        ((s.assemble .hunt).reach m).frameActivity := by
      rw [State.frameActivity_asleep (s := (s.assemble .hunt).reach m) asleep, woken]
      exact State.frameActivity_awakeOff rfl
    exact congrArg (fun t : State => (t.enqueue f).takeNext) active
  · rw [State.leadTaken, if_neg asleep]
    rfl

/-- A command that can be sent has a payload that fits a frame (10.2). -/
theorem payload_short {c : Instr} {kind : Byte} {payload : List Byte} (hf : frame? c = some (kind, payload))
    (sendable : c.wellFormed = true) : payload.length ≤ maxPayload := by
  cases c
  case curveLoad curve count points => exact (Laws.Payload.curveLoad curve count points sendable _ _ hf).1
  case patternLoad pattern count steps => exact (Laws.Payload.patternLoad pattern count steps sendable _ _ hf).1
  -- an event row has no payload, and the other payloads are of fixed length
  all_goals simp only [frame?, reduceCtorEq, Option.some.injEq, Prod.mk.injEq] at hf
  all_goals
    obtain ⟨-, rfl⟩ := hf
    exact Nat.le_of_ble_eq_true rfl

theorem atCommand_reach {c : Instr} {m : Moment} (h : ∀ n, moment? c = some n → n = m) (s : State) :
    atCommand (s.reach m) c = s.reach m := by
  unfold atCommand
  cases hm : moment? c with
  | none => rfl
  | some n =>
    rw [h n hm]
    exact ((s.reach m).reach_eq m).symm.trans (s.reach_reach m)

/-- Settles O50: the characters complete the frame, and so does the row. -/
theorem charactersMakeTheFrame : Obligations.CharactersMakeTheFrame := by
  intro c kind payload s m hf sendable held hunt moment
  have row := requestRowIsItsFrame c kind payload ((s.assemble .hunt).reach m) hf held
  rw [atCommand_reach moment] at row
  refine (runAll_frameBytes held hunt m kind (payload_short hf sendable)).trans ?_
  rw [State.leadTaken_completeFrame]
  refine row.symm.trans ?_
  rw [State.reach_eq]
  rfl

end Sys2Proof.Machine
end

section
/-!
SUPPORT and proof: Status Read and Notice Fetch, served at once (R177, R178, R181, R182).
-/
namespace Sys2Proof.Machine

/-- The state's code in a part that is awake: 2 in RUN and 1 in AWAKE_OFF (R182). -/
theorem byte_powerCode {p : PowerControl} (h : p.Reported) :
    byte (powerCode p.state) = if p.state = .run then 2 else 1 := by
  rcases h with run | ⟨off, -⟩
  · rw [run]
    rfl
  · rw [off]
    rfl

theorem PowerControl.startupByte_eq (p : PowerControl) : p.startupByte =
    BitVec.ofNat 8 ((if p.headerDefaulted then 1 else 0) + (if p.ringEmpty then 2 else 0) +
      (if p.serviceDefaulted then 4 else 0) + (if p.clockLost then 8 else 0)) := by
  have flags : ∀ a b c d : Bool, flagByte [a, b, c, d] =
      BitVec.ofNat 8 ((if a then 1 else 0) + (if b then 2 else 0) + (if c then 4 else 0) + (if d then 8 else 0)) := by
    decide
  exact flags _ _ _ _

theorem PowerControl.straps_eq (p : PowerControl) : flagByte [p.lrate, p.drumfit] =
    BitVec.ofNat 8 ((if p.lrate then 1 else 0) + (if p.drumfit then 2 else 0)) := by
  have flags : ∀ a b : Bool, flagByte [a, b] = BitVec.ofNat 8 ((if a then 1 else 0) + (if b then 2 else 0)) := by decide
  exact flags _ _

/-- An EEPROM write in flight is marked 1 (R182). -/
theorem mark_flight (flight : Option Flight) : mark flight.isSome = if flight = none then 0 else 1 := by
  cases flight <;> rfl

/-- Settles O51: each request is served at once by its service, whose data are the fields of 11.3. -/
theorem statusAndNoticeRequests : Obligations.StatusAndNoticeRequests := by
  intro s hs t
  constructor
  · refine (exec_reading (c := .statusRead) (f := serveStatusRead) hs rfl rfl rfl).trans ?_
    have awake : t.power.Reported := State.ready_reported hs
    change Host.Outcome.next (t.replied 0x01 0 ([byte (powerCode t.power.state), t.power.startupByte,
      flagByte [t.power.lrate, t.power.drumfit]] ++ wordBytes Config.partCode ++ _)) = _
    rw [byte_powerCode awake, t.power.startupByte_eq, t.power.straps_eq, mark_flight]
    rfl
  · refine (exec_ready (c := .noticeFetch) hs rfl rfl).trans ?_
    have taken : byte (t.notices.take 6).length = byte (min 6 t.notices.length) := by rw [List.length_take]
    have left : byte (t.notices.drop 6).length = byte (t.notices.length - 6) := by rw [List.length_drop]
    rw [← taken, ← left]
    rfl

end Sys2Proof.Machine
end

section
/-!
SUPPORT and proof: which command a step takes, and what it leaves for the rest (log entries 16 and 34).
-/
namespace Sys2Proof.Machine

/-- The command at the front is carried out on the state whose queue is the rest. -/
theorem step_of_pending_cons {s : State} {c : Instr} {rest : List Instr} (h : s.pending = c :: rest) :
    step s = exec c (s.setPending rest) := by
  unfold step
  rw [h]

/-- A part with no command waiting idles (log entry 16). -/
theorem step_of_pending_nil {s : State} (h : s.pending = []) : step s = .next s := by
  unfold step
  rw [h]

/-- Settles O1: the two cases of the queue, a command at its front or none. -/
theorem stepTakesFrontCommand : Obligations.StepTakesFrontCommand :=
  ⟨fun _ _ _ front => step_of_pending_cons front, fun _ idle => step_of_pending_nil idle⟩

end Sys2Proof.Machine
end

section
/-!
SUPPORT. What a monitor's operations do, in the words of the statements: its warning at the entry to ACTIVE and at a
reminder (R104, R110), and its entry to CLEAR (R106).
-/
namespace Sys2Proof.Machine

/-! ## A monitor read back -/

@[simp] theorem State.monitorAt_setMonitor (s : State) (i : Fin 16) (m : Monitor) :
    (s.setMonitor i m).monitorAt i = m :=
  (s.setMonitor_get i m i).trans (if_pos rfl)

theorem State.setMonitor_setMonitor (s : State) (i : Fin 16) (m m' : Monitor) :
    (s.setMonitor i m).setMonitor i m' = s.setMonitor i m' := by
  simp [State.setMonitor, Vector.set_set]

@[simp] theorem State.monitorAt_setMonitorClaim (s : State) (i : Fin 16) (c : Option LampMode) (k : Fin 16) :
    (s.setMonitorClaim i c).monitorAt k = s.monitorAt k := by
  simp [State.monitorAt]

@[simp] theorem State.monitorAt_postMonitorChime (s : State) (i k : Fin 16) :
    (s.postMonitorChime i).monitorAt k = s.monitorAt k := by
  simp [State.monitorAt]

@[simp] theorem State.monitorAt_withdrawChime (s : State) (x : Fin 26) (k : Fin 16) :
    (s.withdrawChime x).monitorAt k = s.monitorAt k := rfl

/-- A monitor's run-in by the power state (R100). -/
theorem State.admits_iff (s : State) (m : Monitor) :
    s.admits m = true ↔ s.power.state = .run ∨ (m.config.runIn ≠ 0 ∧ s.power.state = .awakeOff) := by
  unfold State.admits Monitor.runOnly
  by_cases runIn : m.config.runIn = 0
  · rw [if_pos (decide_eq_true runIn), State.inRun, beq_iff_eq]
    exact (or_iff_left fun h => h.1 runIn).symm
  · rw [if_neg (by simpa using runIn), State.awake_iff]
    exact or_congr_right (and_iff_right runIn).symm

/-! ## The actions -/

/-- A monitor's notice is posted when its setting is yes (R107). -/
theorem State.notifyMonitor_notices (s : State) (i : Fin 16) :
    (s.notifyMonitor i).notices =
      if (s.monitorAt i).config.notice = 0 then s.notices
      else postNotice (.monitor i) (monitorValue (s.monitorAt i)) s.notices := by
  rw [State.notifyMonitor, Monitor.noticeWord_eq]
  split <;> rfl

theorem State.postMonitorChime_none {s : State} {i : Fin 16} (h : 12 ≤ (s.monitorAt i).config.pattern.toNat) :
    (s.postMonitorChime i).chime = s.chime := by
  rw [State.postMonitorChime, Monitor.chime?, index?_none h]
  rfl

theorem State.postMonitorChime_some {s : State} {i : Fin 16} (p : Fin 12)
    (h : (s.monitorAt i).config.pattern.toNat = p.val) :
    (s.postMonitorChime i).chime = s.chime.post (monitorSource i) p (s.monitorAt i).config.priority.toNat
      (s.monitorAt i).config.passes.toNat := by
  rw [State.postMonitorChime, Monitor.chime?, index?_some p h]
  rfl

/-- A monitor replaced by one that warns, with its actions (R104, R110). -/
def State.warnMonitor (s : State) (i : Fin 16) (m : Monitor) : State :=
  (((s.setMonitor i m).setMonitorClaim i (some m.lampMode)).postMonitorChime i).notifyMonitor i

/-- A monitor replaced by one that is CLEAR, with its actions (R106). -/
def State.clearMonitor (s : State) (i : Fin 16) (m : Monitor) : State :=
  (((s.setMonitor i m).setMonitorClaim i none).withdrawChime (monitorSource i)).notifyMonitor i

/-- A monitor replaced and its claim set on its own lamp, which leaves the other claims. -/
theorem State.setMonitor_claim (s : State) (i : Fin 16) (m : Monitor) (c : Option LampMode) (l : Fin 12) (x : Fin 23) :
    ((s.setMonitor i m).setMonitorClaim i c).lamp.claim l x =
      if x = monitorClaim i ∧ m.config.lamp.toNat = l.val then c else s.lamp.claim l x := by
  have claim := (s.setMonitor i m).setMonitorClaim_claim i c l x
  rw [State.monitorAt_setMonitor] at claim
  exact claim

theorem State.setMonitor_lamp (s : State) (i : Fin 16) (m : Monitor) (c : Option LampMode) :
    ((s.setMonitor i m).setMonitorClaim i c).lamp =
      { s.lamp with claims := ((s.setMonitor i m).setMonitorClaim i c).lamp.claims } :=
  congrArg State.lamp ((s.setMonitor i m).setMonitorClaim_eq i c)

theorem State.warnMonitor_warns (s : State) (i : Fin 16) (m : Monitor) :
    monitorWarns s i m (s.warnMonitor i m) := by
  let u := (s.setMonitor i m).setMonitorClaim i (some m.lampMode)
  have own : u.monitorAt i = m := by simp [u]
  have lamp : (s.warnMonitor i m).lamp = u.lamp := by simp [State.warnMonitor, u]
  have chime : (s.warnMonitor i m).chime = (u.postMonitorChime i).chime := by simp [State.warnMonitor, u]
  have before : u.chime = s.chime := by simp [u]
  refine ⟨by simp [State.warnMonitor], fun l c => ?_, ?_, fun h => ?_, fun p h => ?_, ?_, ?_⟩
  · rw [lamp]
    exact s.setMonitor_claim i m _ l c
  · rw [lamp]
    exact s.setMonitor_lamp i m _
  · rw [← own] at h
    rw [chime, State.postMonitorChime_none h, before]
  · rw [← own] at h
    rw [chime, State.postMonitorChime_some p h, before, own]
  · simp [State.warnMonitor, State.notifyMonitor_notices]
  · apply State.ext_fields <;> simp [State.warnMonitor]

theorem State.clearMonitor_clears (s : State) (i : Fin 16) (m : Monitor) :
    monitorClears s i m (s.clearMonitor i m) := by
  have lamp : (s.clearMonitor i m).lamp = ((s.setMonitor i m).setMonitorClaim i none).lamp := by
    simp [State.clearMonitor]
  refine ⟨by simp [State.clearMonitor], fun l c => ?_, ?_, ?_, ?_, ?_⟩
  · rw [lamp]
    exact s.setMonitor_claim i m _ l c
  · rw [lamp]
    exact s.setMonitor_lamp i m _
  · simp [State.clearMonitor, ChimeUnit.withdraw, withdrawn]
  · simp [State.clearMonitor, State.notifyMonitor_notices]
  · apply State.ext_fields <;> simp [State.clearMonitor]

/-! ## The entries to ACTIVE and to CLEAR -/

/-- A monitor as it enters ACTIVE (R104, R108). -/
def Monitor.activated (m : Monitor) (total : Nat) : Monitor :=
  { m with state := .active, assertTimer := none, snapshot := m.snapped total }

/-- A monitor as it enters CLEAR (R106). -/
def Monitor.released (m : Monitor) : Monitor :=
  { m with state := .clear, acked := false, releaseTimer := none, reminderTimer := none }

/-- A monitor as its reminder un-acknowledges it (R110). -/
def Monitor.reminded (m : Monitor) : Monitor := { m with acked := false, reminderTimer := none }

theorem State.enterActive_eq (s : State) (i : Fin 16) :
    s.enterActive i = s.warnMonitor i ((s.monitorAt i).activated s.accum.total) := rfl

theorem State.enterClear_eq (s : State) (i : Fin 16) :
    s.enterClear i = s.clearMonitor i (s.monitorAt i).released := rfl

end Sys2Proof.Machine
end

section
/-!
Proof: the expiries of a monitor's timers (R103, R104, R106, R110).
-/
namespace Sys2Proof.Machine

theorem State.assertExpiry_eq (s : State) (i : Fin 16) :
    s.assertExpiry i =
      if (s.monitorAt i).state = .pending ∧ (s.monitorAt i).assertTimer = some 0 ∧ s.admits (s.monitorAt i) = true then
        s.warnMonitor i ((s.monitorAt i).activated s.accum.total) else s := rfl

theorem State.releaseExpiry_eq (s : State) (i : Fin 16) :
    s.releaseExpiry i =
      if (s.monitorAt i).state = .releasing ∧ (s.monitorAt i).releaseTimer = some 0 ∧
          s.admits (s.monitorAt i) = true then
        s.clearMonitor i (s.monitorAt i).released else s := rfl

theorem State.reminderExpiry_eq (s : State) (i : Fin 16) :
    s.reminderExpiry i =
      if (s.monitorAt i).state = .active ∧ (s.monitorAt i).reminderTimer = some 0 ∧
          s.admits (s.monitorAt i) = true then
        s.warnMonitor i (s.monitorAt i).reminded else s := rfl

/-- Settles O41: each expiry is a choice of a warning or a clearing, by the monitor's state, its timer and its
run-in. -/
theorem monitorExpiries : Obligations.MonitorExpiries := by
  intro s i hs m admitted asserts releases reminds snapshot
  have admits : s.admits m = true ↔ admitted := s.admits_iff m
  rw [exec_assertTimerExpiry hs, exec_releaseTimerExpiry hs, exec_reminderExpiry hs, State.assertExpiry_eq,
    State.releaseExpiry_eq, State.reminderExpiry_eq]
  simp only [show s.monitorAt i = m from rfl, admits]
  refine ⟨fun h => ⟨_, congrArg _ (if_pos h), s.warnMonitor_warns i _⟩, fun h => congrArg _ (if_neg h),
    fun h => ⟨_, congrArg _ (if_pos h), s.clearMonitor_clears i _⟩, fun h => congrArg _ (if_neg h),
    fun h => ⟨_, congrArg _ (if_pos h), s.warnMonitor_warns i _⟩, fun h => congrArg _ (if_neg h)⟩

end Sys2Proof.Machine
end

section
/-!
SUPPORT and proofs: the evaluation of a monitor, its raw condition (R100 to R102) and the state rules (R103 to R110).
-/
namespace Sys2Proof.Machine

/-! ## The state rules -/

theorem State.warnMonitor_setMonitor (s : State) (i : Fin 16) (m m' : Monitor) :
    (s.setMonitor i m).warnMonitor i m' = s.warnMonitor i m' := by
  rw [State.warnMonitor, State.setMonitor_setMonitor]
  rfl

theorem State.clearMonitor_setMonitor (s : State) (i : Fin 16) (m m' : Monitor) :
    (s.setMonitor i m).clearMonitor i m' = s.clearMonitor i m' := by
  rw [State.clearMonitor, State.setMonitor_setMonitor]
  rfl

/-- A monitor as it enters PENDING (R103). -/
def Monitor.pended (m : Monitor) : Monitor :=
  { m with state := .pending, assertTimer := some m.config.assertDelay.toNat }

/-- A monitor as it enters RELEASING (R105). -/
def Monitor.releasing (m : Monitor) : Monitor :=
  { m with state := .releasing, releaseTimer := some m.config.releaseDelay.toNat }

/-- A monitor in CLEAR whose condition is true: at once ACTIVE, or PENDING with the assert delay (R103). -/
theorem State.startAssert_eq (s : State) (i : Fin 16) :
    s.startAssert i =
      if (s.monitorAt i).config.assertDelay = 0 then s.warnMonitor i ((s.monitorAt i).activated s.accum.total)
      else s.setMonitor i (s.monitorAt i).pended := rfl

/-- A monitor whose warning ends: at once CLEAR, or RELEASING with the release delay (R105). -/
theorem State.startRelease_eq (s : State) (i : Fin 16) :
    s.startRelease i =
      if (s.monitorAt i).config.releaseDelay = 0 then s.clearMonitor i (s.monitorAt i).released
      else s.setMonitor i (s.monitorAt i).releasing := rfl

section
variable {s : State} {i : Fin 16} {m : Monitor}

theorem State.stateRules_off (h : m.state = .off) : (s.setMonitor i m).stateRules i = s.setMonitor i m := by
  simp only [State.stateRules, State.monitorAt_setMonitor, h]

theorem State.stateRules_clear (h : m.state = .clear) :
    (s.setMonitor i m).stateRules i =
      if m.raw then
        if m.config.assertDelay = 0 then s.warnMonitor i (m.activated s.accum.total) else s.setMonitor i m.pended
      else s.setMonitor i m := by
  simp only [State.stateRules, State.monitorAt_setMonitor, h, State.startAssert_eq, State.warnMonitor_setMonitor,
    State.setMonitor_setMonitor, State.setMonitor_frame]

theorem State.stateRules_pending (h : m.state = .pending) :
    (s.setMonitor i m).stateRules i = s.setMonitor i
      (if m.raw then { m with assertTimer := countDown m.assertTimer }
       else { m with state := .clear, assertTimer := none }) := by
  simp only [State.stateRules, State.monitorAt_setMonitor, h, State.setMonitor_setMonitor]

/-- An ACTIVE monitor's warning ends when its condition is false, and it is not latching or is acknowledged (R105). -/
theorem State.stateRules_active (h : m.state = .active) :
    (s.setMonitor i m).stateRules i =
      if m.raw = false ∧ (m.config.latching = 0 ∨ m.acked = true) then
        if m.config.releaseDelay = 0 then s.clearMonitor i m.released else s.setMonitor i m.releasing
      else s.setMonitor i { m with reminderTimer := if m.acked then countDown m.reminderTimer else m.reminderTimer } := by
  simp only [State.stateRules, State.monitorAt_setMonitor, h, State.startRelease_eq, State.clearMonitor_setMonitor,
    State.setMonitor_setMonitor]
  split
  · rfl
  · split
    · rfl
    · rw [← h]

theorem State.stateRules_releasing (h : m.state = .releasing) :
    (s.setMonitor i m).stateRules i = s.setMonitor i
      (if m.raw then { m with state := .active, releaseTimer := none }
       else { m with releaseTimer := countDown m.releaseTimer }) := by
  simp only [State.stateRules, State.monitorAt_setMonitor, h, State.setMonitor_setMonitor]

end

/-- A monitor warns in ACTIVE and RELEASING. -/
theorem Monitor.warning_eq (m : Monitor) : m.warning = decide (m.state = .active ∨ m.state = .releasing) := by
  rw [Monitor.warning]
  cases m.state <;> rfl

/-- A monitor that follows from `m` by a rule: the settings and the raw condition are as they were. -/
def Monitor.Follows (m m' : Monitor) : Prop := m'.config = m.config ∧ m'.raw = m.raw

/-- What the state rules do, by their kinds: they move the monitor with its warning as it was, or it enters ACTIVE or
CLEAR (R103 to R106, R110). -/
theorem State.stateRules_cases (s : State) (i : Fin 16) (m : Monitor) {P : State → Prop}
    (moves : ∀ m', m.Follows m' → m'.warning = m.warning → P (s.setMonitor i m'))
    (warns : ∀ m', m.Follows m' → m'.warning = true → P (s.warnMonitor i m'))
    (clears : ∀ m', m.Follows m' → P (s.clearMonitor i m')) : P ((s.setMonitor i m).stateRules i) := by
  cases h : m.state with
  | off =>
    rw [State.stateRules_off h]
    exact moves m ⟨rfl, rfl⟩ rfl
  | clear =>
    rw [State.stateRules_clear h]
    split
    · split
      · exact warns _ ⟨rfl, rfl⟩ rfl
      · exact moves _ ⟨rfl, rfl⟩ (by simp [Monitor.warning_eq, Monitor.pended, h])
    · exact moves m ⟨rfl, rfl⟩ rfl
  | pending =>
    rw [State.stateRules_pending h]
    split
    · exact moves _ ⟨rfl, rfl⟩ rfl
    · exact moves _ ⟨rfl, rfl⟩ (by simp [Monitor.warning_eq, h])
  | active =>
    rw [State.stateRules_active h]
    split
    · split
      · exact clears _ ⟨rfl, rfl⟩
      · exact moves _ ⟨rfl, rfl⟩ (by simp [Monitor.warning_eq, Monitor.releasing, h])
    · exact moves _ ⟨rfl, rfl⟩ rfl
  | releasing =>
    rw [State.stateRules_releasing h]
    split
    · exact moves _ ⟨rfl, rfl⟩ (by simp [Monitor.warning_eq, h])
    · exact moves _ ⟨rfl, rfl⟩ rfl

/-! ## The raw condition -/

/-- A qualifier reads the discretes, the power state and whether a monitor warns (R101). -/
theorem State.qualifies_congr {s t : State} (discretes : t.discretes = s.discretes) (power : t.power = s.power)
    (warning : ∀ j, (t.monitorAt j).warning = (s.monitorAt j).warning) (kind index : Byte) :
    t.qualifies kind index = s.qualifies kind index := by
  simp only [State.qualifies, State.discreteActive, State.inRun, discretes, power, warning]

/-- A monitor with its evaluation taken (log entry 5). -/
def Monitor.taken (m : Monitor) : Monitor := { m with due := false }

/-- A monitor with its evaluation taken: the raw condition formed and the source read (R101, R108). -/
def Monitor.evaluated (m : Monitor) (r : Bool) (reading : Nat × Validity) : Monitor :=
  { m with due := false, raw := r, reading := reading }

/-- The evaluation's being due is not seen by the raw condition. -/
theorem State.rawOf_taken (s : State) (i : Fin 16) :
    (s.setMonitor i (s.monitorAt i).taken).rawOf (s.monitorAt i).taken = s.rawOf (s.monitorAt i) := by
  have qualifies := State.qualifies_congr (t := s.setMonitor i (s.monitorAt i).taken) (s := s) rfl rfl fun j => by
    rw [State.monitorAt, State.setMonitor_get]
    split
    · next e => rw [e]; rfl
    · rfl
  unfold State.rawOf
  simp only [qualifies]
  rfl

/-- A source is read by its kind: a channel's presented face, or 1 or 0 for a discrete (R100). -/
theorem State.sourceOf_channel {s : State} {m : Monitor} (h : m.config.srcKind = 0) (c : Fin 16)
    (hc : c.val = m.config.srcIndex.toNat) : s.sourceOf m = s.channels.records[c].presented := by
  rw [State.sourceOf, if_pos h, index?_some c hc.symm]

theorem State.sourceOf_discrete {s : State} {m : Monitor} (h : m.config.srcKind ≠ 0) :
    s.sourceOf m = (if s.discreteActive m.config.srcIndex.toNat then 1 else 0, .valid) := if_neg h

/-- A discrete input is active by its index (R19, R101). -/
theorem State.discreteActive_iff (s : State) (n : Nat) :
    s.discreteActive n = true ↔
      ∃ k : Fin 12, k.val = n ∧ s.discretes.inputs[k].level = s.discretes.inputs[k].activeHigh := by
  by_cases h : n < 12
  · rw [State.discreteActive, index?_some ⟨n, h⟩ rfl]
    simp only [Discrete.active, beq_iff_eq]
    constructor
    · exact fun e => ⟨⟨n, h⟩, rfl, e⟩
    · rintro ⟨k, rfl, e⟩
      exact e
  · rw [State.discreteActive, index?_none (Nat.not_lt.mp h)]
    simp only [Bool.false_eq_true, false_iff]
    rintro ⟨k, rfl, -⟩
    exact h k.isLt

/-- A qualifier passes by its kind: always, by a discrete input, by a monitor that warns, or in RUN (R101). -/
theorem State.qualifies_iff (s : State) (kind index : Byte) :
    s.qualifies kind index = true ↔
      match kind.toNat with
      | 0 => True
      | 1 => ∃ k : Fin 12, k.val = index.toNat ∧ s.discretes.inputs[k].level = s.discretes.inputs[k].activeHigh
      | 2 => ¬ ∃ k : Fin 12, k.val = index.toNat ∧ s.discretes.inputs[k].level = s.discretes.inputs[k].activeHigh
      | 3 => ∃ j : Fin 16, j.val = index.toNat ∧
          (s.monitor.monitors[j].state = .active ∨ s.monitor.monitors[j].state = .releasing)
      | _ => s.power.state = .run := by
  have monitor : (match index? 16 index.toNat with | none => false | some j => (s.monitorAt j).warning) = true ↔
      ∃ j : Fin 16, j.val = index.toNat ∧
        (s.monitor.monitors[j].state = .active ∨ s.monitor.monitors[j].state = .releasing) := by
    by_cases h : index.toNat < 16
    · rw [index?_some ⟨index.toNat, h⟩ rfl]
      dsimp only
      rw [Monitor.warning_eq, decide_eq_true_iff]
      constructor
      · exact fun e => ⟨⟨index.toNat, h⟩, rfl, e⟩
      · rintro ⟨⟨j, hj⟩, e, warns⟩
        obtain rfl : j = index.toNat := e
        exact warns
    · rw [index?_none (Nat.not_lt.mp h)]
      simp only [Bool.false_eq_true, false_iff]
      rintro ⟨j, e, -⟩
      exact h (e ▸ j.isLt)
  have discrete := s.discreteActive_iff index.toNat
  unfold State.qualifies
  generalize kind.toNat = n
  match n with
  | 0 => exact iff_of_true rfl trivial
  | 1 => exact discrete
  | 2 =>
    have negated : (!s.discreteActive index.toNat) = true ↔ ¬ s.discreteActive index.toNat = true := by simp
    exact negated.trans (not_congr discrete)
  | 3 => exact monitor
  | _ + 4 => exact beq_iff_eq

/-- Both qualifiers of a monitor pass (R101). -/
def State.Qualified (s : State) (m : Monitor) : Prop :=
  s.qualifies m.config.q1Kind m.config.q1Index = true ∧ s.qualifies m.config.q2Kind m.config.q2Index = true

/-- A source that is judged by the fault sense (R101). -/
def Bad (v : Validity) : Prop := v = .fault ∨ v = .absent ∨ v = .stale

section
variable {s : State} {m : Monitor}

theorem State.rawOf_unqualified (h : ¬ s.Qualified m) : s.rawOf m = some false := if_pos h

theorem State.rawOf_bad (qualified : s.Qualified m) (bad : Bad (s.sourceOf m).2) :
    (m.config.faultSense = 0 → s.rawOf m = some true) ∧ (m.config.faultSense = 1 → s.rawOf m = some false) ∧
    (m.config.faultSense = 2 → s.rawOf m = none) := by
  have judged : s.rawOf m = _ := (if_neg (not_not.mpr qualified)).trans (if_pos bad)
  refine ⟨fun sense => judged.trans ?_, fun sense => judged.trans ?_, fun sense => judged.trans ?_⟩ <;>
    rw [sense] <;> rfl

theorem State.rawOf_sound (qualified : s.Qualified m) (sound : ¬ Bad (s.sourceOf m).2) :
    s.rawOf m = some (m.applyMethod (s.sourceOf m).1) :=
  (if_neg (not_not.mpr qualified)).trans (if_neg sound)

/-- A discrete source is VALID, so that its method forms the condition (R101). -/
theorem State.rawOf_discrete (qualified : s.Qualified m) (kind : m.config.srcKind ≠ 0) :
    s.rawOf m = some (m.applyMethod (if s.discreteActive m.config.srcIndex.toNat then 1 else 0)) := by
  have source := State.sourceOf_discrete (s := s) kind
  have sound : ¬ Bad (s.sourceOf m).2 := by
    rw [source]
    simp [Bad]
  rw [State.rawOf_sound qualified sound, source]

end

/-- The methods, by their codes (R102). -/
theorem Monitor.applyMethod_codes (m : Monitor) (v : Nat) :
    (m.config.method = 0 → m.applyMethod v = if m.config.setLo.toNat < v then true
      else if v + m.config.hyst.toNat ≤ m.config.setLo.toNat then false else m.raw) ∧
    (m.config.method = 1 → m.applyMethod v = if v < m.config.setLo.toNat then true
      else if m.config.setLo.toNat + m.config.hyst.toNat ≤ v then false else m.raw) ∧
    (m.config.method = 2 → m.applyMethod v = if v < m.config.setLo.toNat ∨ m.config.setHi.toNat < v then true
      else if m.config.setLo.toNat + m.config.hyst.toNat ≤ v ∧ v + m.config.hyst.toNat ≤ m.config.setHi.toNat then false
      else m.raw) ∧
    (m.config.method = 3 → m.applyMethod v = decide (v = 1)) ∧
    (m.config.method = 4 → m.applyMethod v = decide (v ≠ 1)) := by
  unfold Monitor.applyMethod
  refine ⟨fun h => ?_, fun h => ?_, fun h => ?_, fun h => ?_, fun h => ?_⟩ <;> rw [h] <;> rfl

/-! ## The evaluation -/

/-- An evaluation that is not due, or that waits on an expiry (log entries 5 and 26). -/
theorem State.monitorEvaluation_waits {s : State} {i : Fin 16}
    (h : (s.monitorAt i).due = false ∨ (s.monitorAt i).expiring = true) : s.monitorEvaluation i = s := by
  refine if_neg fun taken => ?_
  obtain ⟨due, expiring⟩ := (Bool.and_eq_true _ _).mp taken
  obtain h | h := h
  · simp [h] at due
  · simp [h] at expiring

section
variable {s : State} {i : Fin 16} (due : (s.monitorAt i).due = true) (runs : (s.monitorAt i).expiring = false)
include due runs

theorem State.monitorEvaluation_due :
    s.monitorEvaluation i =
      let t := s.setMonitor i (s.monitorAt i).taken
      if decide ((s.monitorAt i).config.enabled ≠ 0) && t.admits (s.monitorAt i) then t.evaluate i else t :=
  if_pos (by rw [due, runs]; rfl)

/-- A monitor that is disabled or outside its run-in only has its evaluation taken. -/
theorem State.monitorEvaluation_idle
    (h : ¬ ((s.monitorAt i).config.enabled ≠ 0 ∧ s.admits (s.monitorAt i) = true)) :
    s.monitorEvaluation i = s.setMonitor i (s.monitorAt i).taken :=
  (State.monitorEvaluation_due due runs).trans 
    (if_neg fun g => h (((Bool.and_eq_true _ _).mp g).imp_left of_decide_eq_true))

variable (enabled : (s.monitorAt i).config.enabled ≠ 0) (admits : s.admits (s.monitorAt i) = true)
include enabled admits

theorem State.monitorEvaluation_admitted :
    s.monitorEvaluation i = (s.setMonitor i (s.monitorAt i).taken).evaluate i :=
  (State.monitorEvaluation_due due runs).trans
    (if_pos ((Bool.and_eq_true _ _).mpr ⟨decide_eq_true enabled, admits⟩))

/-- A frozen evaluation is only taken (R101). -/
theorem State.monitorEvaluation_frozen (raw : s.rawOf (s.monitorAt i) = none) :
    s.monitorEvaluation i = s.setMonitor i (s.monitorAt i).taken := by
  rw [State.monitorEvaluation_admitted due runs enabled admits, State.evaluate]
  simp only [State.monitorAt_setMonitor, State.rawOf_taken, raw]

/-- An evaluation that forms a raw condition goes by the state rules (R103 to R106). -/
theorem State.monitorEvaluation_formed {r : Bool} (raw : s.rawOf (s.monitorAt i) = some r) :
    s.monitorEvaluation i =
      (s.setMonitor i ((s.monitorAt i).evaluated r (s.sourceOf (s.monitorAt i)))).stateRules i := by
  rw [State.monitorEvaluation_admitted due runs enabled admits, State.evaluate]
  simp only [State.monitorAt_setMonitor, State.rawOf_taken, raw, State.setMonitor_setMonitor]
  rfl

end

/-- Settles O40: the evaluation is that of the state rules, taken state by state. -/
theorem monitorStates : Obligations.MonitorStates := by
  intro s i r hs m0
  refine ⟨fun kind c hc => State.sourceOf_channel kind c hc, fun kind k hk => ?_,
    fun due runs enabled admits raw => ?_⟩
  · have active : s.discreteActive m0.config.srcIndex.toNat = true ↔
        s.discretes.inputs[k].level = s.discretes.inputs[k].activeHigh := by
      rw [State.discreteActive_iff, ← hk]
      simp only [Fin.val_inj, exists_eq_left]
    rw [State.sourceOf_discrete kind]
    simp only [active]
  · intro m goes snapshot
    have rules : exec (.monitorEvaluation i) s = .next ((s.setMonitor i m).stateRules i) :=
      (exec_monitorEvaluation hs i).trans
        (congrArg _ (State.monitorEvaluation_formed due runs enabled admits raw))
    rw [rules]
    refine ⟨fun h => ?_, fun h hr => ?_, fun h hr delay => ?_, fun h hr delay => ?_, fun h hr => ?_, fun h hr => ?_,
      fun h stays => ?_, fun h hr ends => ⟨fun delay => ?_, fun delay => ?_⟩, fun h hr => ?_, fun h hr => ?_⟩
    · rw [State.stateRules_off h]
      rfl
    · rw [State.stateRules_clear h, if_neg (by simp [m, hr])]
      rfl
    · rw [State.stateRules_clear h, if_pos hr, if_neg delay]
      rfl
    · rw [State.stateRules_clear h, if_pos hr, if_pos delay]
      exact ⟨_, rfl, s.warnMonitor_warns i _⟩
    · rw [State.stateRules_pending h, if_pos hr]
      rfl
    · rw [State.stateRules_pending h, if_neg (by simp [m, hr])]
      rfl
    · have warns : ¬ (m.raw = false ∧ (m.config.latching = 0 ∨ m.acked = true)) := by
        rintro ⟨hr, ends⟩
        obtain formed | ⟨latching, unacked⟩ := stays
        · exact Bool.false_ne_true (hr.symm.trans formed)
        · exact ends.elim latching fun acked => Bool.false_ne_true (unacked.symm.trans acked)
      rw [State.stateRules_active h, if_neg warns]
      rfl
    · rw [State.stateRules_active h, if_pos ⟨hr, ends⟩, if_neg delay]
      rfl
    · rw [State.stateRules_active h, if_pos ⟨hr, ends⟩, if_pos delay]
      exact ⟨_, rfl, s.clearMonitor_clears i _⟩
    · rw [State.stateRules_releasing h, if_pos hr]
      rfl
    · rw [State.stateRules_releasing h, if_neg (by simp [m, hr])]
      rfl

/-- The state rules leave the raw condition that the evaluation formed, and every other monitor. -/
theorem State.stateRules_monitors (s : State) (i : Fin 16) (m : Monitor) :
    ((s.setMonitor i m).stateRules i).monitor.monitors[i].raw = m.raw ∧
    ∀ j : Fin 16, j ≠ i → ((s.setMonitor i m).stateRules i).monitor.monitors[j] = s.monitor.monitors[j] := by
  have set {t : State} {m' : Monitor} (follows : m.Follows m')
      (h : t.monitor = { s.monitor with monitors := s.monitor.monitors.set i m' }) :
      t.monitor.monitors[i].raw = m.raw ∧ ∀ j : Fin 16, j ≠ i → t.monitor.monitors[j] = s.monitor.monitors[j] := by
    rw [h]
    exact ⟨(congrArg Monitor.raw ((s.setMonitor_get i m' i).trans (if_pos rfl))).trans follows.2,
      fun j hj => (s.setMonitor_get i m' j).trans (if_neg hj)⟩
  exact s.stateRules_cases i m
    (P := fun t => t.monitor.monitors[i].raw = m.raw ∧ ∀ j : Fin 16, j ≠ i → t.monitor.monitors[j] = s.monitor.monitors[j])
    (fun m' follows _ => set follows rfl) (fun m' follows _ => set follows (s.warnMonitor_warns i m').1)
    fun m' follows => set follows (s.clearMonitor_clears i m').1

theorem Monitor.expiring_iff (m : Monitor) :
    m.expiring = true ↔ m.assertTimer = some 0 ∨ m.releaseTimer = some 0 ∨ m.reminderTimer = some 0 := by
  simp only [Monitor.expiring, Bool.or_eq_true, beq_iff_eq, or_assoc]

/-- Settles O39: an evaluation is taken, or forms the raw condition of its qualifiers, its fault sense or its method. -/
theorem monitorRawCondition : Obligations.MonitorRawCondition := by
  intro s i hs m f expiring admitted taken active passes qualified
  have exec_eq := exec_monitorEvaluation hs i
  have waits : m.expiring = true ↔ expiring := m.expiring_iff
  have admits : m.config.enabled ≠ 0 ∧ s.admits m = true ↔ admitted := and_congr_right' (s.admits_iff m)
  have qualifies : s.Qualified m ↔ qualified := and_congr (s.qualifies_iff _ _) (s.qualifies_iff _ _)
  rw [exec_eq, ← waits, ← admits, ← qualifies]
  refine ⟨fun h => congrArg _ (State.monitorEvaluation_waits h), fun due runs idle => ?_,
    fun due runs ⟨enabled, admits⟩ => ⟨_, rfl, ?_⟩⟩
  · exact congrArg _ (State.monitorEvaluation_idle due (Bool.eq_false_iff.mpr runs) idle)
  · have runs : m.expiring = false := Bool.eq_false_iff.mpr runs
    have formed {r : Bool} := State.monitorEvaluation_formed (r := r) due runs enabled admits
    have frozen := State.monitorEvaluation_frozen due runs enabled admits
    generalize s.monitorEvaluation i = t at formed frozen ⊢
    have one : (if s.discreteActive f.srcIndex.toNat then 1 else 0) = 1 ↔ active f.srcIndex.toNat := by
      refine Iff.trans ?_ (s.discreteActive_iff _)
      simp
    have forms (r : Bool) (h : s.rawOf m = some r) : t.monitor.monitors[i].raw = r := by
      rw [formed h]
      exact (s.stateRules_monitors i _).1
    refine ⟨fun j hj => ?_, fun h => forms _ (State.rawOf_unqualified h), fun h kind c hc => ?_, fun h kind code => ?_,
      fun h kind code => ?_⟩
    · cases raw : s.rawOf m with
      | none =>
        rw [frozen raw]
        exact (s.setMonitor_get i _ j).trans (if_neg hj)
      | some r =>
        rw [formed raw]
        exact (s.stateRules_monitors i _).2 j hj
    · have source := State.sourceOf_channel (s := s) kind c hc
      have unsound := State.rawOf_bad (s := s) (m := m) h
      have sound := State.rawOf_sound (s := s) (m := m) h
      rw [source] at unsound sound
      intro v validity bad
      have methods := m.applyMethod_codes v
      obtain ⟨above, below, outside, -, -⟩ := methods
      refine ⟨fun hb sense => forms _ ((unsound hb).1 sense), fun hb sense => forms _ ((unsound hb).2.1 sense),
        fun hb sense => frozen ((unsound hb).2.2 sense), fun hb code => ?_, fun hb code => ?_, fun hb code => ?_⟩
      · exact (forms _ (sound hb)).trans (above code)
      · exact (forms _ (sound hb)).trans (below code)
      · exact (forms _ (sound hb)).trans (outside code)
    · rw [forms _ (State.rawOf_discrete h kind), (m.applyMethod_codes _).2.2.2.1 code, decide_eq_true_iff]
      exact one
    · rw [forms _ (State.rawOf_discrete h kind), (m.applyMethod_codes _).2.2.2.2 code, decide_eq_true_iff]
      exact not_congr one

end Sys2Proof.Machine
end

section
/-!
SUPPORT. Which sources the chime queue holds requests of: a property of sources that every request has, unless it is
leaving, and what each operation of the Chime Sequencer does to that (R120 to R127).
-/
namespace Sys2Proof.Machine

/-- Every request of the queue is leaving, or its source has the property. -/
def Asks (p : Fin 26 → Prop) (queue : List ChimeRequest) : Prop := ∀ r ∈ queue, r.leaving ∨ p r.source

theorem Asks.mono {p q : Fin 26 → Prop} {queue : List ChimeRequest} (h : Asks p queue) (hpq : ∀ x, p x → q x) :
    Asks q queue :=
  fun r hr => (h r hr).imp_right (hpq _)

section
variable {p : Fin 26 → Prop} {queue : List ChimeRequest}

/-- A request that is not leaving is there because of its source. -/
theorem Asks.source {r : ChimeRequest} (h : Asks p queue) (mem : r ∈ queue) (stays : r.stop ≠ .withdraw) :
    p r.source :=
  (h r mem).resolve_left fun leaving => stays leaving.2

theorem Asks.waiting {r : ChimeRequest} (h : Asks p queue) (mem : r ∈ queue) (waits : r.playing = false) :
    p r.source :=
  (h r mem).resolve_left fun leaving => Bool.false_ne_true (waits.symm.trans leaving.1)

theorem Asks.subset {queue' : List ChimeRequest} (h : Asks p queue) (sub : queue' ⊆ queue) : Asks p queue' :=
  fun r hr => h r (sub hr)

theorem Asks.append {r : ChimeRequest} (h : Asks p queue) (hr : p r.source) : Asks p (queue ++ [r]) := by
  intro q hq
  obtain hq | hq := List.mem_append.mp hq
  · exact h q hq
  · exact .inr (List.mem_singleton.mp hq ▸ hr)

/-- Requests that are changed keep to the property where each does. -/
theorem Asks.map {f : ChimeRequest → ChimeRequest} (h : Asks p queue)
    (hf : ∀ r ∈ queue, f r = r ∨ p (f r).source) : Asks p (queue.map f) := by
  intro q hq
  obtain ⟨r, hr, rfl⟩ := List.mem_map.mp hq
  obtain same | asks := hf r hr
  · rw [same]
    exact h r hr
  · exact .inr asks

/-! ## Selection and posts -/

/-- Preemption orders a CUT on a request without an order, which was not leaving (R126). -/
theorem Asks.preempt (h : Asks p queue) (source : Fin 26) (priority : Nat) :
    Asks p (preempt source priority queue) := by
  refine h.map fun r hr => ?_
  split
  · next cut =>
    obtain ⟨-, -, unordered, -⟩ := cut
    have asks : p r.source := h.source hr (by rw [unordered]; nofun)
    exact .inr asks
  · exact .inl rfl

/-- The request that a selection begins was WAITING, so that its source asks for it (R123). -/
theorem Asks.select {u : ChimeUnit} (h : Asks p u.queue) : Asks p u.select.queue := by
  cases best : bestWaiting u.queue with
  | none =>
    rw [u.select_none best]
    exact h
  | some b =>
    obtain ⟨mem, waits⟩ := bestWaiting_mem best
    rw [ChimeUnit.select, best]
    refine h.map fun r _ => ?_
    split
    · next same => exact .inr (same ▸ h.waiting mem waits)
    · exact .inl rfl

theorem Asks.post {u : ChimeUnit} (h : Asks p u.queue) {source : Fin 26} (asks : p source) (pattern : Fin 12)
    (priority passes : Nat) : Asks p (u.post source pattern priority passes).queue := by
  by_cases steps : u.steps pattern = []
  · rw [ChimeUnit.post_empty steps]
    exact h
  by_cases new : ∀ q ∈ u.queue, q.source ≠ source
  · have joined : Asks p (u.queue ++ [posted source pattern priority passes]) := h.append asks
    cases seq : u.sequencer with
    | idle =>
      rw [ChimeUnit.post_idle seq steps new]
      exact Asks.select (u := { u with queue := _ }) joined
    | playing _ _ _ =>
      rw [ChimeUnit.post_playing seq steps new]
      exact joined.preempt _ _
    | gap _ =>
      rw [ChimeUnit.post_gap seq steps new]
      exact joined
  · cases found : u.queue.find? (fun q => q.source = source) with
    | none => exact absurd (fun q hq => by simpa using List.find?_eq_none.mp found q hq) new
    | some r =>
      have own : r.source = source := by simpa using List.find?_some found
      rw [ChimeUnit.post, if_neg steps, found]
      dsimp only
      refine Asks.preempt ?_ _ _
      split
      · refine h.map fun q _ => ?_
        split
        · exact .inr (own ▸ asks)
        · exact .inl rfl
      · exact (h.subset (List.filter_subset_self _)).append (own ▸ asks)

/-! ## Withdrawals and the sequencer's events -/

/-- A request that a withdrawal leaves was not withdrawn, or is leaving (R122). -/
theorem mem_withdrawWhere {q : ChimeRequest → Prop} [DecidablePred q] {r : ChimeRequest}
    (h : r ∈ withdrawWhere q queue) : r.leaving ∨ (r ∈ queue ∧ ¬ q r) := by
  obtain ⟨x, hx, kept⟩ := List.mem_filterMap.mp h
  split at kept
  · split at kept
    · next playing => exact .inl (Option.some.inj kept ▸ ⟨playing, rfl⟩)
    · cases kept
  · next other => exact .inr (Option.some.inj kept ▸ ⟨hx, other⟩)

/-- A withdrawal of sources leaves the property to be shown of the others. -/
theorem Asks.withdraw {p' sources : Fin 26 → Prop} [DecidablePred sources] (h : Asks p queue)
    (others : ∀ x, ¬ sources x → p x → p' x) : Asks p' (withdrawWhere (fun r => sources r.source) queue) := by
  intro r hr
  obtain leaving | ⟨mem, stays⟩ := mem_withdrawWhere hr
  · exact .inl leaving
  · exact (h r mem).imp_right (others _ stays)

/-- A request whose pass ends stays only if it is not leaving (R124 to R126). -/
theorem Asks.stepEnd {u : ChimeUnit} (h : Asks p u.queue) (sound : u.Sound) : Asks p u.stepEnd.queue := by
  by_cases due : ∃ steps k, u.sequencer = .playing steps k 0
  swap
  · rwa [ChimeUnit.stepEnd_idle fun steps k seq => due ⟨steps, k, seq⟩]
  obtain ⟨steps, k, seq⟩ := due
  obtain ⟨r, mem, playing⟩ : ∃ r ∈ u.queue, r.playing = true :=
    List.countP_pos_iff.mp (by rw [sound.plays, seq]; exact Nat.one_pos)
  obtain ⟨front, rest, queue⟩ := List.append_of_mem mem
  have others : Asks p (front ++ rest) := h.subset (by rw [queue]; simp)
  rw [sound.stepEnd_due seq queue playing]
  split
  · split
    · exact h
    · next cut =>
      have asks : p r.source := h.source mem (by rw [cut]; nofun)
      exact (others.append (r := r.waiting) asks).subset (by simp)
    · exact others
  · by_cases stop : r.stop = .withdraw
    · rw [passCompleted, if_pos stop]
      exact others
    · obtain gone | ⟨n, back⟩ := passCompleted_cases front r rest
      · rwa [gone]
      · rw [back]
        have asks : p r.source := h.source mem stop
        exact others.append asks

theorem Asks.gapEnd {u : ChimeUnit} (h : Asks p u.queue) : Asks p u.gapEnd.queue := by
  by_cases due : u.sequencer = .gap 0
  · rw [ChimeUnit.gapEnd_due due]
    exact h.select
  · rwa [ChimeUnit.gapEnd_idle due]

theorem ChimeUnit.tick_queue (u : ChimeUnit) : u.tick.queue = u.queue := by
  unfold ChimeUnit.tick
  split <;> rfl

end

/-- After Soft Restart every request is leaving (R127). -/
theorem Asks.restart (p : Fin 26 → Prop) (u : ChimeUnit) : Asks p u.restart.queue := by
  rw [ChimeUnit.restart_queue]
  exact fun r hr => .inl ((mem_withdrawWhere hr).resolve_right fun h => h.2 trivial)

end Sys2Proof.Machine
end

section
/-!
SUPPORT. The law of warning actions by the sources of section 7: what claims and requests the monitors and the service
items may hold, and the changes of either that keep to it (R104, R106, R144).
-/
namespace Sys2Proof.Machine

/-! ## What a source may hold -/

theorem monitorClaim_inj {i j : Fin 16} (h : monitorClaim i = monitorClaim j) : i = j := by
  simp only [monitorClaim, Fin.mk.injEq] at h
  omega

theorem monitorSource_inj {i j : Fin 16} (h : monitorSource i = monitorSource j) : i = j := by
  simp only [monitorSource, Fin.mk.injEq] at h
  omega

theorem serviceSource_inj {j k : Fin 6} (h : serviceSource j = serviceSource k) : j = k := by
  simp only [serviceSource, Fin.mk.injEq] at h
  omega

theorem monitorClaim_ne_serviceClaim (i : Fin 16) (k : Fin 6) : monitorClaim i ≠ serviceClaim k := by
  simp only [monitorClaim, serviceClaim, ne_eq, Fin.mk.injEq]
  omega

theorem monitorSource_ne_serviceSource (i : Fin 16) (k : Fin 6) : monitorSource i ≠ serviceSource k := by
  simp only [monitorSource, serviceSource, ne_eq, Fin.mk.injEq]
  omega

/-- The monitor may hold a claim on the lamp: it warns, and the lamp is its own (R104). -/
def Monitor.MayClaim (m : Monitor) (l : Fin 12) : Prop := m.warning = true ∧ m.config.lamp.toNat = l.val

/-- The item may hold a claim on the lamp: it is due, and the lamp is its own (R144). -/
def ServiceItem.MayClaim (i : ServiceItem) (l : Fin 12) : Prop :=
  dueState i.state = true ∧ i.config.lamp.toNat = l.val

/-- A source of claims may hold one on the lamp; the link, on any. -/
def State.MayClaim (s : State) (l : Fin 12) (c : Fin 23) : Prop :=
  (∀ i : Fin 16, c = monitorClaim i → s.monitor.monitors[i].MayClaim l) ∧
  ∀ k : Fin 6, c = serviceClaim k → s.service[k].MayClaim l

/-- A source of chime requests may hold one that stays; the link always may. -/
def State.MayRequest (s : State) (x : Fin 26) : Prop :=
  (∀ i : Fin 16, x = monitorSource i → s.monitor.monitors[i].warning = true) ∧
  ∀ k : Fin 6, x = serviceSource k → dueState s.service[k].state = true

theorem State.mayClaim_monitor {s : State} {i : Fin 16} {l : Fin 12} (h : s.monitor.monitors[i].MayClaim l) :
    s.MayClaim l (monitorClaim i) :=
  ⟨fun _ e => monitorClaim_inj e ▸ h, fun k e => absurd e (monitorClaim_ne_serviceClaim i k)⟩

theorem State.mayClaim_service {s : State} {k : Fin 6} {l : Fin 12} (h : s.service[k].MayClaim l) :
    s.MayClaim l (serviceClaim k) :=
  ⟨fun i e => absurd e.symm (monitorClaim_ne_serviceClaim i k), fun _ e => serviceClaim_inj e ▸ h⟩

theorem State.mayClaim_link (s : State) (l : Fin 12) : s.MayClaim l linkClaim := by
  refine ⟨fun i e => ?_, fun k e => ?_⟩
  · simp only [linkClaim, monitorClaim, Fin.ext_iff] at e
    omega
  · simp only [linkClaim, serviceClaim, Fin.ext_iff] at e
    omega

theorem State.mayRequest_monitor {s : State} {i : Fin 16} (h : s.monitor.monitors[i].warning = true) :
    s.MayRequest (monitorSource i) :=
  ⟨fun _ e => monitorSource_inj e ▸ h, fun k e => absurd e (monitorSource_ne_serviceSource i k)⟩

theorem State.mayRequest_service {s : State} {k : Fin 6} (h : dueState s.service[k].state = true) :
    s.MayRequest (serviceSource k) :=
  ⟨fun i e => absurd e.symm (monitorSource_ne_serviceSource i k), fun _ e => serviceSource_inj e ▸ h⟩

theorem State.mayRequest_link (s : State) (j : Fin 4) : s.MayRequest (linkSource j) := by
  refine ⟨fun i e => ?_, fun k e => ?_⟩
  · simp only [linkSource, monitorSource, Fin.mk.injEq] at e
    omega
  · simp only [linkSource, serviceSource, Fin.mk.injEq] at e
    omega

/-- The law of warning actions, source by source (R104, R144). -/
structure State.Warned (s : State) : Prop where
  claims : ∀ l c, s.lamp.claim l c ≠ none → s.MayClaim l c
  requests : Asks s.MayRequest s.chime.queue

theorem Monitor.lamp?_eq_some (m : Monitor) (l : Fin 12) : m.lamp? = some l ↔ m.config.lamp.toNat = l.val := by
  unfold Monitor.lamp? index?
  split
  · rw [Option.some_inj, Fin.ext_iff]
  · simp; omega

theorem State.warningsSound_iff (s : State) : s.warningsSound ↔ s.Warned := by
  simp only [State.warningsSound, Monitor.lamp?_eq_some, ServiceItem.lamp?_eq_some]
  constructor
  · rintro ⟨monitorClaims, monitorRequests, itemClaims, itemRequests⟩
    refine ⟨fun l c h => ⟨?_, ?_⟩, fun r hr => ?_⟩
    · rintro i rfl
      exact monitorClaims i l h
    · rintro k rfl
      exact itemClaims k l h
    · by_cases leaving : r.leaving
      · exact .inl leaving
      · exact .inr ⟨fun i e => (monitorRequests i r hr e).resolve_left leaving,
          fun k e => (itemRequests k r hr e).resolve_left leaving⟩
  · rintro ⟨claims, requests⟩
    exact ⟨fun i l h => (claims l _ h).1 i rfl, fun i r hr e => (requests r hr).imp_right fun may => may.1 i e,
      fun k l h => (claims l _ h).2 k rfl, fun k r hr e => (requests r hr).imp_right fun may => may.2 k e⟩

/-! ## Sources that stand -/

/-- The monitor may hold afterwards what it might before: its settings stand, and it still warns if it did. -/
def Monitor.Stands (m m' : Monitor) : Prop := m'.config = m.config ∧ (m.warning = true → m'.warning = true)

/-- The item may hold afterwards what it might before. -/
def ServiceItem.Stands (i i' : ServiceItem) : Prop :=
  i'.config = i.config ∧ (dueState i.state = true → dueState i'.state = true)

theorem Monitor.Stands.of_eq {m m' : Monitor} (h : m' = m) : m.Stands m' := h ▸ ⟨rfl, id⟩

theorem ServiceItem.Stands.of_eq {i i' : ServiceItem} (h : i' = i) : i.Stands i' := h ▸ ⟨rfl, id⟩

theorem State.MayClaim.mono {s t : State} {l : Fin 12} {c : Fin 23} (h : s.MayClaim l c)
    (monitors : ∀ i : Fin 16, c = monitorClaim i → s.monitor.monitors[i].Stands t.monitor.monitors[i])
    (items : ∀ k : Fin 6, c = serviceClaim k → s.service[k].Stands t.service[k]) : t.MayClaim l c := by
  refine ⟨fun i e => ?_, fun k e => ?_⟩
  · obtain ⟨warns, own⟩ := h.1 i e
    obtain ⟨config, stays⟩ := monitors i e
    exact ⟨stays warns, config ▸ own⟩
  · obtain ⟨due, own⟩ := h.2 k e
    obtain ⟨config, stays⟩ := items k e
    exact ⟨stays due, config ▸ own⟩

theorem State.MayRequest.mono {s t : State} {x : Fin 26} (h : s.MayRequest x)
    (monitors : ∀ i : Fin 16, x = monitorSource i → s.monitor.monitors[i].Stands t.monitor.monitors[i])
    (items : ∀ k : Fin 6, x = serviceSource k → s.service[k].Stands t.service[k]) : t.MayRequest x :=
  ⟨fun i e => (monitors i e).2 (h.1 i e), fun k e => (items k e).2 (h.2 k e)⟩

/-- A change that leaves every source standing, every claim and the queue as they were. -/
theorem State.Warned.stands {s t : State} (h : s.Warned) (claims : t.lamp.claims = s.lamp.claims)
    (queue : t.chime.queue = s.chime.queue)
    (monitors : ∀ i : Fin 16, s.monitor.monitors[i].Stands t.monitor.monitors[i])
    (items : ∀ k : Fin 6, s.service[k].Stands t.service[k]) : t.Warned where
  claims l c hc := by
    rw [LampUnit.claim, claims] at hc
    exact (h.claims l c hc).mono (fun i _ => monitors i) fun k _ => items k
  requests := by
    rw [queue]
    exact h.requests.mono fun x may => may.mono (fun i _ => monitors i) fun k _ => items k

/-- A change that leaves the law of warning actions where it finds it. -/
def WarnedKept (s t : State) : Prop := s.Warned → t.Warned

theorem WarnedKept.trans {s t u : State} (h : WarnedKept s t) (g : WarnedKept t u) : WarnedKept s u := g ∘ h

theorem WarnedKept.foldl {β : Type} {f : State → β → State} (h : ∀ s b, WarnedKept s (f s b)) (l : List β)
    (s : State) : WarnedKept s (l.foldl f s) :=
  fun warned => List.foldlRecOn l f warned fun t ht b _ => h t b ht

/-- A change of none of the parts that the law speaks of. -/
theorem WarnedKept.of_eq {s t : State} (h : t.lamp.claims = s.lamp.claims ∧ t.chime.queue = s.chime.queue ∧
    t.monitor.monitors = s.monitor.monitors ∧ t.service = s.service) : WarnedKept s t := by
  obtain ⟨claims, queue, monitors, items⟩ := h
  exact fun warned => warned.stands claims queue (fun i => .of_eq (by rw [monitors])) fun k => .of_eq (by rw [items])

/-! ## A source's claim and request -/

/-- A monitor that stands. -/
theorem WarnedKept.setMonitor {s : State} {i : Fin 16} {m : Monitor} (h : s.monitor.monitors[i].Stands m) :
    WarnedKept s (s.setMonitor i m) := fun warned => by
  refine warned.stands rfl rfl (fun j => ?_) fun k => .of_eq rfl
  rw [State.setMonitor_get]
  split
  · next e => exact e ▸ h
  · exact .of_eq rfl

/-- A claim that a monitor which warns sets on its own lamp (R104). -/
theorem WarnedKept.setMonitorClaim {s : State} {i : Fin 16} (warns : (s.monitorAt i).warning = true)
    (c : Option LampMode) : WarnedKept s (s.setMonitorClaim i c) := fun warned => by
  have may {l x} (h : s.MayClaim l x) : (s.setMonitorClaim i c).MayClaim l x :=
    h.mono (fun j _ => .of_eq (by simp)) fun k _ => .of_eq (by simp)
  refine ⟨fun l x hx => may ?_, ?_⟩
  · rw [State.setMonitorClaim_claim] at hx
    split at hx
    · next own =>
      rw [own.1]
      exact State.mayClaim_monitor ⟨warns, own.2⟩
    · exact warned.claims l x hx
  · have chime : (s.setMonitorClaim i c).chime = s.chime := by simp
    rw [chime]
    exact warned.requests.mono fun x h => h.mono (fun j _ => .of_eq (by simp)) fun k _ => .of_eq (by simp)

/-- A post of a source that may hold a request. -/
theorem WarnedKept.postChime {s : State} {x : Fin 26} (may : s.MayRequest x) (pattern : Fin 12)
    (priority passes : Nat) : WarnedKept s (s.postChime x pattern priority passes) :=
  fun warned => ⟨warned.claims, warned.requests.post may pattern priority passes⟩

theorem ChimeUnit.withdraw_queue (u : ChimeUnit) (x : Fin 26) :
    (u.withdraw x).queue = withdrawWhere (fun r => r.source = x) u.queue := rfl

theorem WarnedKept.withdrawChime (s : State) (x : Fin 26) : WarnedKept s (s.withdrawChime x) :=
  fun warned => ⟨warned.claims, warned.requests.withdraw (sources := (· = x)) fun _ _ => id⟩

section
variable {claims : Fin 12 → Fin 23 → Prop} {sources : Fin 26 → Prop} [∀ l c, Decidable (claims l c)]
  [DecidablePred sources] {s t : State}

/-- Claims and requests taken back: the law is to be shown of the others. -/
theorem TakenBack.warned (h : TakenBack claims sources s t)
    (may : ∀ l c, ¬ claims l c → s.MayClaim l c → t.MayClaim l c)
    (mayRequest : ∀ x, ¬ sources x → s.MayRequest x → t.MayRequest x) : WarnedKept s t := fun warned => by
  refine ⟨fun l c hc => ?_, ?_⟩
  · rw [h.claim] at hc
    split at hc
    · exact absurd rfl hc
    · next stays => exact may l c stays (warned.claims l c hc)
  · rw [h.chime]
    exact warned.requests.withdraw mayRequest

/-- A monitor's claim and request taken back, whatever becomes of it (R106, R112, R115). -/
theorem TakenBack.warned_monitor {i : Fin 16}
    (h : TakenBack (fun l c => c = monitorClaim i ∧ s.monitor.monitors[i].config.lamp.toNat = l.val)
      (· = monitorSource i) s t)
    (monitors : ∀ j : Fin 16, j ≠ i → t.monitor.monitors[j] = s.monitor.monitors[j])
    (items : t.service = s.service) : WarnedKept s t := by
  have item (k : Fin 6) : s.service[k].Stands t.service[k] := .of_eq (by rw [items])
  refine h.warned (fun l c stays may => may.mono (fun j e => .of_eq (monitors j ?_)) fun k _ => item k)
    fun x stays may => may.mono (fun j e => .of_eq (monitors j ?_)) fun k _ => item k
  · rintro rfl
    exact stays ⟨e, (may.1 j e).2⟩
  · rintro rfl
    exact stays e

/-- A service item's claim and request taken back, whatever becomes of it (R149, R154). -/
theorem TakenBack.warned_item {k : Fin 6}
    (h : TakenBack (fun l c => c = serviceClaim k ∧ s.service[k].config.lamp.toNat = l.val) (· = serviceSource k) s t)
    (items : ∀ j : Fin 6, j ≠ k → t.service[j] = s.service[j])
    (monitors : t.monitor.monitors = s.monitor.monitors) : WarnedKept s t := by
  have monitor (i : Fin 16) : s.monitor.monitors[i].Stands t.monitor.monitors[i] := .of_eq (by rw [monitors])
  refine h.warned (fun l c stays may => may.mono (fun i _ => monitor i) fun j e => .of_eq (items j ?_))
    fun x stays may => may.mono (fun i _ => monitor i) fun j e => .of_eq (items j ?_)
  · rintro rfl
    exact stays ⟨e, (may.2 j e).2⟩
  · rintro rfl
    exact stays e

end

end Sys2Proof.Machine
end

section
/-!
SUPPORT. An acknowledgement of one monitor and of several (R109): the monitor, its claim, its request and its notice.
-/
namespace Sys2Proof.Machine

theorem Monitor.remind_eq (m : Monitor) :
    m.remind = { m with
      reminderTimer := if m.config.reminder = 0 then m.reminderTimer else some (m.config.reminder.toNat * 600) } := by
  unfold Monitor.remind
  split <;> rfl

/-- A monitor that an acknowledgement finds not acknowledged (R109). -/
def Monitor.acknowledged (m : Monitor) : Monitor := { m.remind with acked := true }

theorem Monitor.acknowledged_config (m : Monitor) : m.acknowledged.config = m.config := by
  rw [Monitor.acknowledged, Monitor.remind_eq]

/-- A latching monitor whose condition has gone, which its acknowledgement releases (R109). -/
abbrev Monitor.Lets (m : Monitor) : Prop := m.config.latching ≠ 0 ∧ m.state = .active ∧ m.raw = false

/-- A monitor replaced, its claim turned to ON and its request withdrawn (R109). -/
def State.silenceMonitor (s : State) (i : Fin 16) (m : Monitor) : State :=
  ((s.setMonitor i m).setMonitorClaim i (some .on)).withdrawChime (monitorSource i)

theorem State.acknowledge_eq (s : State) (i : Fin 16) :
    s.acknowledge i =
      let m := s.monitorAt i
      if m.acked then s.setMonitor i m.remind
      else
        let u := s.silenceMonitor i m.acknowledged
        if m.Lets then u.startRelease i else u := rfl

/-- `u` is `s` once monitor `i` stands as `m`, its claim turned to ON and its request withdrawn (R109). -/
structure Silenced (s : State) (i : Fin 16) (m : Monitor) (u : State) : Prop where
  monitor : u.monitor = { s.monitor with monitors := s.monitor.monitors.set i m }
  claim : ∀ (l : Fin 12) (c : Fin 23), u.lamp.claim l c =
    if c = monitorClaim i ∧ m.config.lamp.toNat = l.val then some .on else s.lamp.claim l c
  lamp : u.lamp = { s.lamp with claims := u.lamp.claims }
  chime : u.chime = s.chime.withdraw (monitorSource i)
  frame : u = { s with monitor := u.monitor, lamp := u.lamp, chime := u.chime }

theorem State.silenceMonitor_silenced (s : State) (i : Fin 16) (m : Monitor) :
    Silenced s i m (s.silenceMonitor i m) where
  monitor := by simp [State.silenceMonitor]
  claim l c := s.setMonitor_claim i m (some .on) l c
  lamp := s.setMonitor_lamp i m (some .on)
  chime := by simp [State.silenceMonitor]
  frame := by apply State.ext_fields <;> simp [State.silenceMonitor]

@[simp] theorem State.monitorAt_silenceMonitor (s : State) (i : Fin 16) (m : Monitor) :
    (s.silenceMonitor i m).monitorAt i = m := by
  simp [State.silenceMonitor]

section
variable {s : State} {i : Fin 16} {m : Monitor} {u : State}

/-- The monitor goes on to another state with its claim turned to ON. -/
theorem Silenced.setMonitor (h : Silenced s i m u) {m' : Monitor} (config : m'.config = m.config) :
    Silenced s i m' (u.setMonitor i m') where
  monitor := by
    rw [State.setMonitor_monitor, h.monitor]
    simp
  claim l c := (h.claim l c).trans (by rw [config])
  lamp := h.lamp
  chime := h.chime
  frame := congrArg (fun t : State => t.setMonitor i m') h.frame

/-- A withdrawal of a source that has withdrawn finds nothing more to do (R122). -/
theorem withdrawn_withdrawn (x : Fin 26) (queue : List ChimeRequest) :
    withdrawn x (withdrawn x queue) = withdrawn x queue :=
  (withdrawWhere_withdrawWhere queue).trans (List.filterMap_congr fun _ _ => if_congr (or_self_iff) rfl rfl)

/-- The monitor enters CLEAR: its claim is gone with its request (R106). -/
theorem Silenced.clearMonitor (h : Silenced s i m u) {m' : Monitor} (config : m'.config = m.config) :
    monitorClears s i m' (u.clearMonitor i m') := by
  obtain ⟨monitor, claim, lamp, chime, notices, frame⟩ := u.clearMonitor_clears i m'
  have notes : u.notices = s.notices := by rw [h.frame]
  generalize u.clearMonitor i m' = v at *
  refine ⟨?_, fun l c => ?_, ?_, ?_, ?_, ?_⟩
  · rw [monitor, h.monitor]
    simp
  · rw [claim, h.claim, config]
    split <;> rfl
  · rw [lamp, h.lamp]
  · rw [chime, h.chime]
    exact congrArg (fun q => ({ s.chime with queue := q } : ChimeUnit)) (withdrawn_withdrawn _ _)
  · rw [notices, State.notify_notices, State.notify_notices, notes]
  · refine frame.trans ?_
    rw [h.frame]

end

section
variable {s : State} {i : Fin 16}

/-- One already acknowledged only restarts its reminder (R109). -/
theorem State.acknowledge_again (acked : (s.monitorAt i).acked = true) :
    s.acknowledge i = s.setMonitor i (s.monitorAt i).remind := if_pos acked

variable (fresh : (s.monitorAt i).acked = false)
include fresh

theorem State.acknowledge_fresh :
    s.acknowledge i = if (s.monitorAt i).Lets then (s.silenceMonitor i (s.monitorAt i).acknowledged).startRelease i
      else s.silenceMonitor i (s.monitorAt i).acknowledged := if_neg (Bool.eq_false_iff.mp fresh)

theorem State.acknowledge_keeps (keeps : ¬ (s.monitorAt i).Lets) :
    Silenced s i (s.monitorAt i).acknowledged (s.acknowledge i) := by
  rw [State.acknowledge_fresh fresh, if_neg keeps]
  exact s.silenceMonitor_silenced i _

variable (lets : (s.monitorAt i).Lets)
include lets

theorem State.acknowledge_releases (delay : (s.monitorAt i).config.releaseDelay ≠ 0) :
    Silenced s i (s.monitorAt i).acknowledged.releasing (s.acknowledge i) := by
  rw [← Monitor.acknowledged_config] at delay
  rw [State.acknowledge_fresh fresh, if_pos lets, State.startRelease_eq, State.monitorAt_silenceMonitor, if_neg delay]
  exact (s.silenceMonitor_silenced i _).setMonitor rfl

theorem State.acknowledge_clears (delay : (s.monitorAt i).config.releaseDelay = 0) :
    monitorClears s i (s.monitorAt i).acknowledged.released (s.acknowledge i) := by
  rw [← Monitor.acknowledged_config] at delay
  rw [State.acknowledge_fresh fresh, if_pos lets, State.startRelease_eq, State.monitorAt_silenceMonitor, if_pos delay]
  exact (s.silenceMonitor_silenced i _).clearMonitor rfl

end

/-- A monitor as an acknowledgement leaves it (R109). -/
def Monitor.afterAck (m : Monitor) : Monitor :=
  if m.acked then m.remind
  else if ¬ m.Lets then m.acknowledged
  else if m.config.releaseDelay = 0 then m.acknowledged.released
  else m.acknowledged.releasing

theorem State.acknowledge_monitor (s : State) (i : Fin 16) :
    (s.acknowledge i).monitor = (s.setMonitor i (s.monitorAt i).afterAck).monitor := by
  unfold Monitor.afterAck
  split
  · next acked => rw [State.acknowledge_again acked]
  · next unacked =>
    have fresh := Bool.eq_false_iff.mpr unacked
    split
    · next keeps => exact (State.acknowledge_keeps fresh keeps).monitor
    · next lets =>
      split
      · next delay => exact (State.acknowledge_clears fresh (not_not.mp lets) delay).1
      · next delay => exact (State.acknowledge_releases fresh (not_not.mp lets) delay).monitor

theorem State.acknowledge_get (s : State) (i k : Fin 16) :
    (s.acknowledge i).monitor.monitors[k] =
      if k = i then s.monitor.monitors[i].afterAck else s.monitor.monitors[k] := by
  rw [s.acknowledge_monitor i]
  exact s.setMonitor_get i _ k

end Sys2Proof.Machine
end

section
/-!
SUPPORT. What the operations of the monitors and of the service items do to the law of warning actions (R104, R106, R112,
R115, R144, R148).
-/
namespace Sys2Proof.Machine

/-! ## Monitors -/

theorem WarnedKept.notifyMonitor (s : State) (i : Fin 16) : WarnedKept s (s.notifyMonitor i) := .of_eq (by simp)

theorem WarnedKept.postMonitorChime {s : State} {i : Fin 16} (warns : (s.monitorAt i).warning = true) :
    WarnedKept s (s.postMonitorChime i) := by
  unfold State.postMonitorChime
  split
  · exact id
  · exact .postChime (State.mayRequest_monitor warns) _ _ _

/-- A monitor that comes to warn, or warns again, with its actions (R104, R110). -/
theorem WarnedKept.warnMonitor {s : State} {i : Fin 16} {m : Monitor} (config : m.config = s.monitor.monitors[i].config)
    (warns : m.warning = true) : WarnedKept s (s.warnMonitor i m) := by
  have set : WarnedKept s (s.setMonitor i m) := .setMonitor ⟨config, fun _ => warns⟩
  have claimed := WarnedKept.setMonitorClaim (s := s.setMonitor i m) (i := i) (by simpa using warns) (some m.lampMode)
  have posted := WarnedKept.postMonitorChime (s := (s.setMonitor i m).setMonitorClaim i (some m.lampMode)) (i := i)
    (by simpa using warns)
  exact ((set.trans claimed).trans posted).trans (.notifyMonitor _ i)

/-- A monitor that comes to CLEAR, its claim and request taken back (R106). -/
theorem WarnedKept.clearMonitor {s : State} {i : Fin 16} {m : Monitor}
    (config : m.config = s.monitor.monitors[i].config) : WarnedKept s (s.clearMonitor i m) := by
  obtain ⟨monitor, claim, lamp, chime, -, frame⟩ := s.clearMonitor_clears i m
  have back : TakenBack (fun l c => c = monitorClaim i ∧ s.monitor.monitors[i].config.lamp.toNat = l.val)
      (· = monitorSource i) s (s.clearMonitor i m) := ⟨config ▸ claim, lamp, chime⟩
  refine back.warned_monitor (fun j hj => ?_) ((congrArg State.service frame).trans rfl)
  rw [monitor]
  exact (s.setMonitor_get i m j).trans (if_neg hj)

theorem State.evaluate_warned (s : State) (i : Fin 16) (m : Monitor) (h : s.monitor.monitors[i].Stands m) :
    WarnedKept s ((s.setMonitor i m).stateRules i) :=
  s.stateRules_cases i m (P := WarnedKept s)
    (fun _ follows same => .setMonitor ⟨follows.1.trans h.1, fun warns => same.trans (h.2 warns)⟩)
    (fun _ follows warns => .warnMonitor (follows.1.trans h.1) warns) fun _ follows => .clearMonitor (follows.1.trans h.1)

theorem State.monitorEvaluation_warned (s : State) (i : Fin 16) : WarnedKept s (s.monitorEvaluation i) := by
  by_cases waits : (s.monitorAt i).due = false ∨ (s.monitorAt i).expiring = true
  · rw [State.monitorEvaluation_waits waits]
    exact id
  obtain ⟨due, runs⟩ : (s.monitorAt i).due = true ∧ (s.monitorAt i).expiring = false := by simpa using waits
  by_cases admitted : (s.monitorAt i).config.enabled ≠ 0 ∧ s.admits (s.monitorAt i) = true
  · obtain ⟨enabled, admits⟩ := admitted
    cases raw : s.rawOf (s.monitorAt i) with
    | none =>
      rw [State.monitorEvaluation_frozen due runs enabled admits raw]
      exact .setMonitor ⟨rfl, id⟩
    | some r =>
      rw [State.monitorEvaluation_formed due runs enabled admits raw]
      exact s.evaluate_warned i _ ⟨rfl, id⟩
  · rw [State.monitorEvaluation_idle due runs admitted]
    exact .setMonitor ⟨rfl, id⟩

theorem State.assertExpiry_warned (s : State) (i : Fin 16) : WarnedKept s (s.assertExpiry i) := by
  rw [State.assertExpiry_eq]
  exact keeps_ite' (fun _ => .warnMonitor rfl rfl) id

theorem State.releaseExpiry_warned (s : State) (i : Fin 16) : WarnedKept s (s.releaseExpiry i) := by
  rw [State.releaseExpiry_eq]
  exact keeps_ite' (fun _ => .clearMonitor rfl) id

theorem State.reminderExpiry_warned (s : State) (i : Fin 16) : WarnedKept s (s.reminderExpiry i) := by
  rw [State.reminderExpiry_eq]
  refine keeps_ite' (fun ⟨active, _⟩ => .warnMonitor rfl ?_) id
  simp [Monitor.warning_eq, Monitor.reminded, active]

theorem State.startRelease_warned (s : State) (i : Fin 16) : WarnedKept s (s.startRelease i) := by
  rw [State.startRelease_eq]
  split
  · exact .clearMonitor rfl
  · exact .setMonitor ⟨rfl, fun _ => rfl⟩

/-- An acknowledgement of a monitor that warns (R109). -/
theorem State.acknowledge_warned {s : State} {i : Fin 16} (warns : (s.monitorAt i).warning = true) :
    WarnedKept s (s.acknowledge i) := by
  have remind : s.monitor.monitors[i].Stands (s.monitorAt i).remind := by
    rw [Monitor.remind_eq]
    exact ⟨rfl, id⟩
  have set : WarnedKept s (s.setMonitor i (s.monitorAt i).acknowledged) := .setMonitor remind
  have claimed := WarnedKept.setMonitorClaim (s := s.setMonitor i (s.monitorAt i).acknowledged) (i := i)
    (by rw [State.monitorAt_setMonitor]; exact remind.2 warns) (some .on)
  have silenced : WarnedKept s (s.silenceMonitor i (s.monitorAt i).acknowledged) :=
    (set.trans claimed).trans (.withdrawChime _ _)
  rw [State.acknowledge_eq]
  dsimp only
  split
  · exact .setMonitor remind
  · split
    · exact silenced.trans (State.startRelease_warned _ i)
    · exact silenced

theorem State.monitorExit_warned (s : State) (i : Fin 16) : WarnedKept s (s.monitorExit i) := by
  have ended : WarnedKept s (s.endMonitor i) :=
    (s.endMonitor_takenBack i).warned_monitor (fun j hj => (s.endMonitor_get i j).trans (if_neg hj))
      (by simp [State.endMonitor])
  exact s.monitorExit_cases i (P := WarnedKept s) (fun _ => id) (fun _ _ => .setMonitor ⟨rfl, id⟩)
    (fun _ _ => ended) fun _ _ => ended.trans (.of_eq (by simp))

theorem State.restartMonitor_warned (s : State) (i : Fin 16) : WarnedKept s (s.restartMonitor i) :=
  (s.restartMonitor_takenBack i).warned_monitor (fun j hj => (s.restartMonitor_monitor i j).trans (if_neg hj)) (by simp)

theorem State.configureMonitor_warned (s : State) (i : Fin 16) (f : MonitorFields) :
    WarnedKept s (s.configureMonitor i f) := by
  have back : TakenBack (fun l c => c = monitorClaim i ∧ s.monitor.monitors[i].config.lamp.toNat = l.val)
      (· = monitorSource i) s (s.configureMonitor i f) := by
    obtain ⟨claim, lamp, chime⟩ := s.takeBackMonitor i
    exact ⟨claim, lamp, chime⟩
  refine back.warned_monitor (fun j hj => ?_) (by simp)
  refine (State.setMonitor_get _ i _ j).trans ((if_neg hj).trans ?_)
  simp

/-! ## Service items -/

theorem dueState_of_claim {x : ServiceState} (h : claimFor x ≠ none) : dueState x = true := by
  cases x with
  | due => rfl
  | overdue => rfl
  | _ => exact absurd rfl h

/-- The actions of the changes of the items' states (R144). -/
theorem serviceWarned.warned {s t : State} (h : serviceWarned s t)
    (monitors : t.monitor.monitors = s.monitor.monitors)
    (config : ∀ k : Fin 6, t.service[k].config = s.service[k].config) : WarnedKept s t := fun warned => by
  obtain ⟨claim, others, -, chime, -⟩ := h
  have monitor (i : Fin 16) : s.monitor.monitors[i].Stands t.monitor.monitors[i] := .of_eq (by rw [monitors])
  refine ⟨fun l c hc => ?_, fun r hr => ?_⟩
  · by_cases item : ∃ k : Fin 6, c = serviceClaim k
    · obtain ⟨k, rfl⟩ := item
      refine State.mayClaim_service ?_
      rw [claim] at hc
      split at hc
      · next changed => exact ⟨dueState_of_claim hc, (config k) ▸ changed.2⟩
      · next stays =>
        obtain ⟨due, own⟩ := (warned.claims l _ hc).2 k rfl
        have same : t.service[k].state = s.service[k].state := not_not.mp fun changed => stays ⟨changed, own⟩
        exact ⟨same ▸ due, (config k) ▸ own⟩
    · rw [others l c fun k e => item ⟨k, e⟩] at hc
      exact (warned.claims l c hc).mono (fun i _ => monitor i) fun k e => absurd ⟨k, e⟩ item
  · rw [chime] at hr
    obtain leaving | ⟨mem, stays⟩ := mem_withdrawWhere (q := requestEnds s t) hr
    · exact .inl leaving
    · refine (warned.requests r mem).imp_right fun may => ⟨fun i e => (monitor i).2 (may.1 i e), fun k e => ?_⟩
      by_contra ended
      have changed : serviceChanged s t k := fun same => ended (same ▸ may.2 k e)
      exact stays ⟨k, e, changed, not_not.mp fun due => ended ((dueState_iff _).mpr due)⟩

theorem State.serviceDu_warned (s : State) : WarnedKept s s.serviceDu :=
  s.serviceDu_result.2.1.warned (by simp) fun k => by rw [s.serviceDu_result.1 k]; rfl

theorem State.serviceKr_warned (s : State) : WarnedKept s s.serviceKr :=
  s.serviceKr_result.2.1.warned (by simp) fun k => by rw [s.serviceKr_result.1 k]; rfl

theorem State.serviceDay_warned (s : State) : WarnedKept s s.serviceDay :=
  s.serviceDay_result.2.1.warned (by simp) fun k => by rw [s.serviceDay_result.1 k]; rfl

theorem State.keyOnChimes_warned (s : State) : WarnedKept s s.keyOnChimes := by
  refine .foldl (fun t k => ?_) _ s
  split
  · exact keeps_ite' (fun due => .postChime (State.mayRequest_service due) _ _ _) id
  · exact id

theorem State.restartItem_warned (s : State) (k : Fin 6) : WarnedKept s (s.restartItem k) :=
  (s.restartItem_takenBack k).warned_item (fun j hj => (s.restartItem_item k j).trans (if_neg hj))
    (by simp [State.restartItem])

theorem State.resetItem_warned (s : State) (k : Fin 6) : WarnedKept s (s.resetItem k) := by
  have back : TakenBack (fun l c => c = serviceClaim k ∧ s.service[k].config.lamp.toNat = l.val)
      (· = serviceSource k) s (s.resetItem k) := by
    rw [State.resetItem_eq]
    exact ⟨fun l c => (s.setItemClaim_claim k s.service[k] none l c).trans (if_congr and_comm rfl rfl), rfl, rfl⟩
  exact back.warned_item (fun j hj => (s.resetItem_item k j).trans (if_neg hj)) (by rw [State.resetItem_eq])

/-- Service Configure moves the item's claim to its new lamp, and keeps the request of an item that stays due (R148). -/
theorem State.configureItem_warned (s : State) (k : Fin 6) (f : ServiceFields) :
    WarnedKept s (s.configureItem k f) := fun warned => by
  let new := s.service[k].configured f
  have items (j : Fin 6) : (s.configureItem k f).service[j] = if j = k then new else s.service[j] := by
    rw [State.configureItem_eq]
    exact set_get _ _ _ _
  have monitors : (s.configureItem k f).monitor = s.monitor := by simp
  have lamp : (s.configureItem k f).lamp = (s.moveItemClaim k s.service[k] new).lamp := by rw [State.configureItem_eq]
  have chime : (s.configureItem k f).chime = if s.service[k].chime? = new.chime? ∧ dueState new.state then s.chime
      else s.chime.withdraw (serviceSource k) := by rw [State.configureItem_eq]
  generalize s.configureItem k f = t at items monitors lamp chime ⊢
  have own : t.service[k] = new := (items k).trans (if_pos rfl)
  have other (j : Fin 6) (hj : j ≠ k) : s.service[j].Stands t.service[j] := .of_eq ((items j).trans (if_neg hj))
  have monitor (i : Fin 16) : s.monitor.monitors[i].Stands t.monitor.monitors[i] := .of_eq (by rw [monitors])
  refine ⟨fun l c hc => ?_, ?_⟩
  · rw [lamp, State.moveItemClaim_claim] at hc
    split at hc
    · next mine =>
      rw [mine.2]
      exact State.mayClaim_service ⟨own ▸ dueState_of_claim hc, own ▸ mine.1⟩
    split at hc
    · exact absurd rfl hc
    · next kept =>
      have may := warned.claims l c hc
      refine may.mono (fun i _ => monitor i) fun j e => other j ?_
      rintro rfl
      exact kept ⟨(may.2 j e).2, e⟩
  · rw [chime]
    split
    · next same =>
      refine warned.requests.mono fun x may => ⟨fun i e => (monitor i).2 (may.1 i e), fun j e => ?_⟩
      by_cases hj : j = k
      · rw [hj, own]
        exact same.2
      · exact (other j hj).2 (may.2 j e)
    · refine warned.requests.withdraw (sources := (· = serviceSource k)) fun x stays may =>
        may.mono (fun i _ => monitor i) fun j e => other j ?_
      rintro rfl
      exact stays e

end Sys2Proof.Machine
end

section
/-!
SUPPORT and proof: every step keeps the law of warning actions, command by command.
-/
namespace Sys2Proof.Machine

/-! ## The clocks that a wake starts -/

@[simp] theorem State.startClocks_claims (s : State) : s.startClocks.lamp.claims = s.lamp.claims := rfl

@[simp] theorem State.startClocks_monitors (s : State) : s.startClocks.monitor.monitors = s.monitor.monitors := rfl

@[simp] theorem State.wake_claims (s : State) (cause : Nat) : (s.wake cause).lamp.claims = s.lamp.claims := rfl

@[simp] theorem State.wake_monitors (s : State) (cause : Nat) :
    (s.wake cause).monitor.monitors = s.monitor.monitors := rfl

theorem State.wake_warned (s : State) (cause : Nat) : WarnedKept s (s.wake cause) := .of_eq (by simp)

theorem State.changeDiscrete_warned (s : State) (k : Fin 12) (d : Discrete) :
    WarnedKept s (s.changeDiscrete k d) := by
  have set : WarnedKept s (s.setDiscrete k d) := .of_eq (by simp)
  unfold State.changeDiscrete State.reportDiscrete
  split
  · exact set
  split
  · exact set.trans (.of_eq (by simp))
  · split
    · exact set.trans (State.wake_warned _ 2)
    · exact set
  · exact set

theorem State.frameActivity_warned (s : State) : WarnedKept s s.frameActivity := by
  unfold State.frameActivity
  split
  · exact s.wake_warned 3
  · exact .of_eq (by simp)

theorem State.runEntry_warned (s : State) : WarnedKept s s.runEntry := by
  refine .of_eq ?_
  unfold State.runEntry
  split
  · split <;> simp [State.enterRun]
  · simp

theorem State.endInit_warned (s : State) : WarnedKept s s.endInit := by
  refine .of_eq ?_
  unfold State.endInit State.enterFirst
  split
  · dsimp only
    split <;> simp [State.enterRun]
  · simp

/-! ## Time -/

theorem State.tick_warned {s : State} (h : s.power.state ≠ .held) (di : BitVec 12) (ign : Bool) (pulse : BitVec 5) :
    WarnedKept s (s.tick di ign pulse) := fun warned => by
  rw [State.tick_eq h]
  refine warned.stands rfl ?_ (fun i => ?_) fun k => .of_eq rfl
  · dsimp only
    split
    · exact s.chime.tick_queue
    · rfl
  · exact s.monitor.tick_monitors i ▸ ⟨rfl, id⟩

theorem State.asleepEntry_warned (s : State) : WarnedKept s s.asleepEntry := by
  refine keeps_ite' (fun _ warned => warned.stands rfl rfl (fun i => ?_) fun k => .of_eq rfl) id
  have stopped : s.fallAsleep.monitor.monitors[i] = { s.monitor.monitors[i] with due := false } :=
    vmap_get _ s.monitor.monitors i
  exact stopped ▸ ⟨rfl, id⟩

theorem State.dutySetting_warned (s : State) : WarnedKept s s.dutySetting := by
  unfold State.dutySetting
  exact keeps_ite' (fun _ => .of_eq ⟨rfl, rfl, rfl, rfl⟩) id

theorem State.flashHalf_warned (s : State) : WarnedKept s s.flashHalf := by
  have claims : s.lamp.turn.claims = s.lamp.claims := by
    unfold LampUnit.turn
    split
    · split <;> rfl
    · rfl
  exact .of_eq ⟨claims, rfl, rfl, rfl⟩

/-! ## The counts -/

theorem State.addDistance_warned (s : State) : WarnedKept s s.addDistance := by
  unfold State.addDistance
  refine keeps_ite' (fun _ => ?_) (.of_eq ⟨rfl, rfl, rfl, rfl⟩)
  let u : State := { s with accum := { s.accum with rd := s.accum.rd + 100 - s.consts.kvss } }
  have before : WarnedKept s u.countDu := .of_eq (by simp [u])
  have after : WarnedKept u.countDu.serviceDu u.emitDu := .of_eq (by rw [State.emitDu_eq]; simp)
  exact (before.trans u.countDu.serviceDu_warned).trans after

theorem State.addRevolution_warned (s : State) : WarnedKept s s.addRevolution := by
  unfold State.addRevolution
  refine keeps_ite' (fun _ => ?_) (.of_eq ⟨rfl, rfl, rfl, rfl⟩)
  exact (WarnedKept.of_eq (by simp)).trans (State.serviceKr_warned { s with accum := { s.accum with rr := 0 } })

theorem State.takeSpd_warned (s : State) (sub : BitVec 8) : WarnedKept s (s.takeSpd sub) := by
  unfold State.takeSpd
  exact keeps_ite' (fun _ => (WarnedKept.of_eq (by simp)).trans (s.advancePulse sub).spdEdge.addDistance_warned) id

theorem State.takeTac_warned (s : State) (sub : BitVec 8) : WarnedKept s (s.takeTac sub) := by
  unfold State.takeTac
  exact keeps_ite' (fun _ => (WarnedKept.of_eq (by simp)).trans (s.advancePulse sub).tacEdge.addRevolution_warned) id

theorem State.dayEnd_warned (s : State) : WarnedKept s s.dayEnd :=
  keeps_ite' (fun _ => (WarnedKept.of_eq (by simp)).trans
    (State.serviceDay_warned { s with time := { s.time with dayEnds := s.time.dayEnds - 1 } })) id

theorem State.bulbCheckEnd_warned (s : State) : WarnedKept s s.bulbCheckEnd :=
  keeps_ite' (fun _ => (WarnedKept.of_eq (by simp)).trans (s.setBulbCheck none).keyOnChimes_warned) id

/-! ## Reset, RUN exit and Soft Restart -/

theorem State.powerOnReset_warned (s : State) (di : BitVec 12) (ign : Bool) (pulse : BitVec 5)
    (lrate drumfit : Bool) : (s.powerOnReset di ign pulse lrate drumfit).Warned :=
  ⟨fun l c h => absurd (reset_noClaims l c) h, nofun⟩

/-- The counts that INIT reads move no item's state (R151). -/
theorem State.release_item {s : State} (held : s.power.state = .held) (k : Fin 6) :
    s.release.service[k] = s.service[k].load s.eeprom.memory (serviceBlockValid s.eeprom.memory) k.val := by
  rw [State.release, if_pos held]
  exact loadService_get s.loadHeader.loadRing k

theorem State.release_warned (s : State) : WarnedKept s s.release := by
  by_cases held : s.power.state = .held
  · refine fun warned => warned.stands (by simp) (by simp) (fun _ => .of_eq (by simp)) fun k => ?_
    obtain ⟨config, state⟩ := s.service[k].load_keeps s.eeprom.memory (serviceBlockValid s.eeprom.memory) k.val
    rw [State.release_item held]
    exact ⟨config, fun due => (congrArg dueState state).trans due⟩
  · rw [State.release, if_neg held]
    exact id

theorem State.runExit_warned (s : State) (serviceFirst : Bool) : WarnedKept s (s.runExit serviceFirst) := by
  unfold State.runExit
  refine keeps_ite' (fun _ => ?_) id
  let u := (s.setPower .awakeOff .full).pulseExit
  let v := ((State.clearHolds { u with sampler := u.sampler.runExit }).tripExit.exitPosts serviceFirst).gaugeExit
  have before : WarnedKept s v := .of_eq (by simp [v, u])
  have exited : WarnedKept v v.monitorsExit := .foldl State.monitorExit_warned _ v
  have after : WarnedKept v.monitorsExit ((s.exitRun serviceFirst).notifyPower 1) :=
    .of_eq (by simp [State.exitRun, v, u])
  exact (before.trans exited).trans after

theorem State.restartLamps_warned (s : State) : WarnedKept s s.restartLamps := fun warned => by
  refine ⟨fun l c h => ?_, warned.requests⟩
  rw [State.restartLamps_claim] at h
  split at h
  · exact absurd rfl h
  · exact warned.claims l c h

theorem State.restartSignals_warned (s : State) : WarnedKept s s.restartSignals := by
  have monitors : WarnedKept s s.restartMonitors := .foldl State.restartMonitor_warned _ s
  unfold State.restartSignals
  generalize s.restartMonitors = u at monitors ⊢
  have chimes : WarnedKept u { u with chime := u.chime.restart } := fun warned => ⟨warned.claims, .restart _ _⟩
  exact (monitors.trans chimes).trans (State.restartLamps_warned _)

theorem State.restoredInputs_warned (s : State) : WarnedKept s s.restoredInputs := by
  let u : State :=
    { s with curves := Vector.replicate 12 [], pulse := s.pulse.restart s.inRun s.now, sampler := s.sampler.restart }
  have discretes : WarnedKept u u.restartDiscretes := .foldl (fun t k => t.changeDiscrete_warned k _) _ u
  have rest : WarnedKept u.restartDiscretes s.restoredInputs := .of_eq (by simp [u, State.restoredInputs])
  exact ((WarnedKept.of_eq (by simp [u])).trans discretes).trans rest

theorem State.restartWarnings_warned (s : State) : WarnedKept s s.restartWarnings :=
  s.restartSignals_warned.trans (.foldl State.restartItem_warned _ _)

theorem State.restore_warned (s : State) : WarnedKept s s.restore := by
  have warnings := s.restoredInputs_warned.trans s.restoredInputs.restartWarnings_warned
  rw [State.restore_eq]
  generalize s.restoredInputs.restartWarnings = u at warnings ⊢
  exact warnings.trans (.of_eq ⟨rfl, rfl, rfl, rfl⟩)

/-! ## Services -/

theorem State.clearSnapshot_warned (s : State) (i : Fin 16) : WarnedKept s (s.clearSnapshot i) :=
  .setMonitor ⟨rfl, id⟩

/-- The monitors that are acknowledged one after another warn until their turn. -/
theorem foldl_acknowledge_warned (named : List (Fin 16)) (distinct : named.Nodup) (s : State)
    (warn : ∀ i ∈ named, (s.monitorAt i).warning = true) : WarnedKept s (named.foldl State.acknowledge s) := by
  induction named generalizing s with
  | nil => exact id
  | cons i named ih =>
    obtain ⟨fresh, distinct⟩ := List.nodup_cons.mp distinct
    refine (State.acknowledge_warned (warn i List.mem_cons_self)).trans (ih distinct _ fun j hj => ?_)
    have ne : j ≠ i := fun e => fresh (e ▸ hj)
    rw [State.monitorAt, s.acknowledge_get, if_neg ne]
    exact warn j (List.mem_cons_of_mem i hj)

theorem serveMonitorConfigure_warned (monitor : Byte) (f : MonitorFields) (s : State) :
    WarnedKept s (serveMonitorConfigure monitor f s).state := by
  unfold serveMonitorConfigure
  split
  · exact id
  · split
    · exact id
    · exact s.configureMonitor_warned _ f

theorem serveMonitorAcknowledge_warned (monitor : Byte) (s : State) :
    WarnedKept s (serveMonitorAcknowledge monitor s).state := by
  unfold serveMonitorAcknowledge
  split
  · exact foldl_acknowledge_warned _ ((List.nodup_finRange 16).filter _) s fun i hi => (List.mem_filter.mp hi).2
  split
  · exact id
  · split
    · next warns => exact State.acknowledge_warned warns
    · exact id

theorem serveMonitorClearSnapshot_warned (monitor : Byte) (s : State) :
    WarnedKept s (serveMonitorClearSnapshot monitor s).state := by
  unfold serveMonitorClearSnapshot
  split
  · exact .foldl State.clearSnapshot_warned _ s
  split
  · exact id
  · exact s.clearSnapshot_warned _

theorem serveChimePost_warned (slot pattern priority passes : Byte) (s : State) :
    WarnedKept s (serveChimePost slot pattern priority passes s).state := by
  unfold serveChimePost
  split
  · split
    · exact id
    · exact .postChime (s.mayRequest_link _) _ _ _
  · exact id

theorem serveChimeWithdraw_warned (slot : Byte) (s : State) :
    WarnedKept s (serveChimeWithdraw slot s).state := by
  unfold serveChimeWithdraw
  split
  · exact id
  · exact .foldl (fun t j => .withdrawChime t (linkSource j)) _ s

theorem servePatternLoad_warned (pattern count : Byte) (steps : List (Byte × Byte)) (s : State) :
    WarnedKept s (servePatternLoad pattern count steps s).state := by
  unfold servePatternLoad
  split
  · exact id
  split
  · exact id
  split
  · exact id
  split
  · exact .of_eq ⟨rfl, rfl, rfl, rfl⟩
  · exact id

/-- The link may claim any lamp (R137). -/
theorem State.setClaim_link_warned (s : State) (l : Fin 12) (c : Option LampMode) :
    WarnedKept s (s.setClaim l linkClaim c) := fun warned => by
  refine ⟨fun l' x hx => ?_, warned.requests⟩
  rw [State.setClaim_claim] at hx
  split at hx
  · next own =>
    rw [own.2]
    exact State.mayClaim_link _ l'
  · exact warned.claims l' x hx

theorem serveLampSet_warned (lamp mode : Byte) (s : State) : WarnedKept s (serveLampSet lamp mode s).state := by
  unfold serveLampSet
  split
  · exact .foldl (fun t l => t.setClaim_link_warned l _) _ s
  · exact id

theorem serveLampConfigure_warned (discrete : Byte) (s : State) :
    WarnedKept s (serveLampConfigure discrete s).state := by
  unfold serveLampConfigure
  split
  · exact id
  · exact .of_eq ⟨rfl, rfl, rfl, rfl⟩

theorem serveDiscreteInputConfigure_warned (input polarity debounce wake : Byte) (s : State) :
    WarnedKept s (serveDiscreteInputConfigure input polarity debounce wake s).state := by
  unfold serveDiscreteInputConfigure
  split
  · exact id
  split
  · exact id
  · exact s.changeDiscrete_warned _ _

theorem serveServiceConfigure_warned (item : Byte) (f : ServiceFields) (s : State) :
    WarnedKept s (serveServiceConfigure item f s).state := by
  unfold serveServiceConfigure
  split
  · exact id
  · split
    · exact id
    · exact s.configureItem_warned _ f

theorem serveServiceReset_warned (item : Byte) (s : State) : WarnedKept s (serveServiceReset item s).state := by
  unfold serveServiceReset
  split
  · exact id
  · split
    · exact (WarnedKept.foldl State.resetItem_warned _ s).trans (.of_eq ⟨rfl, rfl, rfl, rfl⟩)
    · exact id

theorem serveSoftRestart_warned (s : State) : WarnedKept s (serveSoftRestart s).state := by
  have served : (serveSoftRestart s).state = { s.restore with notices := [] } := rfl
  have restored := s.restore_warned
  rw [served]
  generalize s.restore = u at restored ⊢
  exact restored.trans (.of_eq ⟨rfl, rfl, rfl, rfl⟩)

theorem service_warned {c : Instr} {f : Service} (hc : service? c = some f) (s : State) :
    WarnedKept s (f s).state := by
  cases c <;> simp only [service?, reduceCtorEq, Option.some.injEq] at hc <;> subst hc
  case softRestart => exact serveSoftRestart_warned s
  case discreteInputConfigure input polarity debounce wake =>
    exact serveDiscreteInputConfigure_warned input polarity debounce wake s
  case monitorConfigure monitor fields => exact serveMonitorConfigure_warned monitor fields s
  case monitorAcknowledge monitor => exact serveMonitorAcknowledge_warned monitor s
  case monitorClearSnapshot monitor => exact serveMonitorClearSnapshot_warned monitor s
  case chimePost slot pattern priority passes => exact serveChimePost_warned slot pattern priority passes s
  case chimeWithdraw slot => exact serveChimeWithdraw_warned slot s
  case patternLoad pattern count steps => exact servePatternLoad_warned pattern count steps s
  case lampSet lamp mode => exact serveLampSet_warned lamp mode s
  case lampConfigure discrete => exact serveLampConfigure_warned discrete s
  case serviceConfigure item fields => exact serveServiceConfigure_warned item fields s
  case serviceReset item => exact serveServiceReset_warned item s
  all_goals exact .of_eq (by simp)

/-! ## The law -/

/-- The law of the chime queue and the law of warning actions. -/
def State.WarnedSound (s : State) : Prop := s.chime.Sound ∧ s.Warned

theorem ChimeKept.both {s t : State} (h : ChimeKept s t) (g : WarnedKept s t) : s.WarnedSound → t.WarnedSound :=
  And.imp h g

/-- An operation of none of the parts that either law speaks of. -/
theorem warnedSound_of_eq {s t : State} (h : t.chime = s.chime ∧ t.lamp.claims = s.lamp.claims ∧
    t.monitor.monitors = s.monitor.monitors ∧ t.service = s.service) : s.WarnedSound → t.WarnedSound :=
  (ChimeKept.of_eq h.1).both (.of_eq ⟨h.2.1, by rw [h.1], h.2.2⟩)

theorem warnedSound_step : StepKeeps State.WarnedSound where
  link s _ := warnedSound_of_eq (s := s) ⟨rfl, rfl, rfl, rfl⟩
  reach s _ := warnedSound_of_eq (s := s) (by simp)
  wake s := (ChimeKept.of_eq (by simp)).both s.frameActivity_warned
  serve _ _ s hc := (service_chimeKept hc s).both (service_warned hc s)
  pending s _ := warnedSound_of_eq (s := s) ⟨rfl, rfl, rfl, rfl⟩
  powerOnReset s di ign pulse lrate drumfit h :=
    ⟨chimeKept_step.powerOnReset s di ign pulse lrate drumfit h.1, s.powerOnReset_warned di ign pulse lrate drumfit⟩
  resetnRelease s := ChimeKept.both (chimeKept_step.resetnRelease s) s.release_warned
  initEnd s held := ChimeKept.both (chimeKept_step.initEnd s held) s.endInit_warned
  tick s di ign pulse held := (s.tick_kept di ign pulse).both (State.tick_warned held di ign pulse)
  discreteChange s k held := ChimeKept.both (chimeKept_step.discreteChange s k held)
    (keeps_ite' (fun _ => s.changeDiscrete_warned k _) id)
  runEntry s held := ChimeKept.both (chimeKept_step.runEntry s held) s.runEntry_warned
  runExit s serviceFirst _ := (s.runExit_kept serviceFirst).both (s.runExit_warned serviceFirst)
  secondEnd s _ := warnedSound_of_eq (s := s) (by simp)
  dayEnd s _ := s.dayEnd_kept.both s.dayEnd_warned
  freshnessExpiry s _ _ := warnedSound_of_eq (s := s) (by simp)
  lingerExpiry s _ := warnedSound_of_eq (s := s) (by simp)
  asleepEntry s _ := s.asleepEntry_kept.both s.asleepEntry_warned
  spdEdge s sub _ := (s.takeSpd_kept sub).both (s.takeSpd_warned sub)
  tacEdge s sub _ := (s.takeTac_kept sub).both (s.takeTac_warned sub)
  injLevelChange s _ _ := warnedSound_of_eq (s := s) (by simp)
  idxEdge s _ := warnedSound_of_eq (s := s) (by simp)
  windowClose s _ _ := warnedSound_of_eq (s := s) (by simp)
  analogSample s _ _ _ := warnedSound_of_eq (s := s) (by simp)
  tripSecond s _ := warnedSound_of_eq (s := s) (by simp)
  gaugeMotionStep s _ := warnedSound_of_eq (s := s) (by simp)
  sweepDelayExpiry s _ := warnedSound_of_eq (s := s) (by simp)
  sweepTimeoutExpiry s _ := warnedSound_of_eq (s := s) (by simp)
  syncFallingEdge s _ := warnedSound_of_eq (s := s) (by simp)
  syncPulseEnd s _ := warnedSound_of_eq (s := s) (by simp)
  monitorEvaluation s i _ := (s.monitorEvaluation_kept i).both (s.monitorEvaluation_warned i)
  assertTimerExpiry s i _ := (s.assertExpiry_kept i).both (s.assertExpiry_warned i)
  releaseTimerExpiry s i _ := (s.releaseExpiry_kept i).both (s.releaseExpiry_warned i)
  reminderExpiry s i _ := (s.reminderExpiry_kept i).both (s.reminderExpiry_warned i)
  chimeStepEnd _ _ h := ⟨h.1.stepEnd, h.2.claims, h.2.requests.stepEnd h.1⟩
  gapEnd _ _ h := ⟨h.1.gapEnd, h.2.claims, h.2.requests.gapEnd⟩
  bulbCheckEnd s _ := s.bulbCheckEnd_kept.both s.bulbCheckEnd_warned
  flashHalfChange s held := ChimeKept.both (chimeKept_step.flashHalfChange s held) s.flashHalf_warned
  dutySetting s held := ChimeKept.both (chimeKept_step.dutySetting s held) s.dutySetting_warned
  drumStep s _ := warnedSound_of_eq (s := s) (by simp)
  drumIndexMiss s _ := warnedSound_of_eq (s := s) (by simp)
  drumCoilOff s _ := warnedSound_of_eq (s := s) (by simp)
  eepromWriteBegin s _ := warnedSound_of_eq (s := s) (by simp)
  eepromWordComplete s _ := warnedSound_of_eq (s := s) (by simp)
  eepromWordFail s _ := warnedSound_of_eq (s := s) (by simp)

/-- Settles O9: what every operation of a command keeps of the claims and requests every step keeps. -/
theorem warningActionsLaw : Obligations.WarningActionsLaw := by
  intro s t sound warned he
  have kept := warnedSound_step.step ⟨s.chimeSound_iff.mp sound, s.warningsSound_iff.mp warned⟩ he
  exact t.warningsSound_iff.mpr kept.2

end Sys2Proof.Machine
end

section
/-!
SUPPORT. Monitor Configure, Monitor Read and the removal of snapshots (R114 to R117, R182).
-/
namespace Sys2Proof.Machine

/-! ## Monitor Configure -/

theorem qualifierRefused_iff (own : Nat) (kind index : Byte) :
    qualifierRefused own kind index = true ↔
      4 < kind.toNat ∨ ((kind = 1 ∨ kind = 2) ∧ 11 < index.toNat) ∨
        (kind = 3 ∧ (15 < index.toNat ∨ index.toNat = own)) := by
  simp only [← BitVec.toNat_inj]
  unfold qualifierRefused
  generalize kind.toNat = n
  match n with
  | 0 => simp
  | 1 => simp
  | 2 => simp
  | 3 => simp
  | 4 => simp
  | n + 5 => simp

/-- The source and method that R114 and R180 refuse, by the kind of the source and the method. -/
theorem methodRefused_iff (f : MonitorFields) :
    methodRefused f = true ↔
      1 < f.srcKind.toNat ∨ 4 < f.method.toNat ∨
      (f.srcKind = 0 ∧ (15 < f.srcIndex.toNat ∨ f.method = 3 ∨ f.method = 4)) ∨
      (f.srcKind = 1 ∧ (11 < f.srcIndex.toNat ∨ f.method = 0 ∨ f.method = 1 ∨ f.method = 2)) ∨
      (f.method = 0 ∧ f.setLo.toNat < f.hyst.toNat) ∨ (f.method = 1 ∧ 65535 < f.setLo.toNat + f.hyst.toNat) ∨
      (f.method = 2 ∧ f.setHi.toNat < f.setLo.toNat + 2 * f.hyst.toNat) := by
  simp only [← BitVec.toNat_inj]
  unfold methodRefused
  simp only [← BitVec.toNat_inj]
  generalize f.srcKind.toNat = kind
  generalize f.method.toNat = method
  match kind with
  | 0 =>
    match method with
    | 0 => simp
    | 1 => simp
    | 2 => simp
    | 3 => simp
    | 4 => simp
    | n + 5 => simp
  | 1 =>
    simp
    omega
  | n + 2 => simp

theorem lampRefused_iff (f : MonitorFields) :
    lampRefused f = true ↔ (12 ≤ f.lamp.toNat ∧ f.lamp.toNat ≤ 254) ∨ (f.lamp.toNat < 12 ∧ 1 < f.lampMode.toNat) := by
  have bad := optionalIndex_isNone 12 f.lamp
  unfold lampRefused
  cases h : optionalIndex 12 f.lamp with
  | none =>
    have refused := bad.mp (by rw [h]; rfl)
    simp [refused]
  | some lamp =>
    cases lamp with
    | none => simp [optionalIndex_absent h]
    | some l =>
      have own := optionalIndex_some h
      have small := l.isLt
      simp [own, small]

theorem chimeRefused_iff (f : MonitorFields) (s : State) :
    chimeRefused f s = true ↔ (12 ≤ f.pattern.toNat ∧ f.pattern.toNat ≤ 254) ∨
      ∃ p : Fin 12, f.pattern.toNat = p.val ∧
        (7 < f.priority.toNat ∨ 15 < f.passes.toNat ∨ s.chime.steps p = []) := by
  have bad := optionalIndex_isNone 12 f.pattern
  unfold chimeRefused
  cases h : optionalIndex 12 f.pattern with
  | none =>
    have refused := bad.mp (by rw [h]; rfl)
    simp [refused]
  | some pattern =>
    cases pattern with
    | none =>
      have unnamed : ∀ p : Fin 12, ¬ 255 = p.val := fun p => by omega
      simp [optionalIndex_absent h, unnamed]
    | some p =>
      have small : ¬ 12 ≤ p.val := Nat.not_le.mpr p.isLt
      simp [optionalIndex_some h, Fin.val_inj, small, or_assoc]

theorem monitorRefused_iff (i : Fin 16) (f : MonitorFields) (s : State) :
    monitorRefused i.val f s = true ↔ monitorUnsound i f s := by
  unfold monitorRefused monitorUnsound
  simp only [Bool.or_eq_true, decide_eq_true_eq, methodRefused_iff, qualifierRefused_iff, lampRefused_iff,
    chimeRefused_iff, or_and_right, exists_or, exists_eq_left, or_assoc, gt_iff_lt]

theorem serveMonitorConfigure_bad {monitor : Byte} (f : MonitorFields) (s : State) (h : 15 < monitor.toNat) :
    serveMonitorConfigure monitor f s = refuse s .badArgument := by
  rw [serveMonitorConfigure, index?_none h]

theorem serveMonitorConfigure_unsound {monitor : Byte} {f : MonitorFields} (s : State) (i : Fin 16)
    (hi : monitor.toNat = i.val) (h : monitorUnsound i f s) :
    serveMonitorConfigure monitor f s = refuse s .badArgument := by
  rw [serveMonitorConfigure, index?_some i hi]
  exact if_pos ((monitorRefused_iff i f s).mpr h)

theorem serveMonitorConfigure_sound {monitor : Byte} {f : MonitorFields} (s : State) (i : Fin 16)
    (hi : monitor.toNat = i.val) (h : ¬ monitorUnsound i f s) :
    serveMonitorConfigure monitor f s = accepted (s.configureMonitor i f) := by
  rw [serveMonitorConfigure, index?_some i hi]
  exact if_neg ((monitorRefused_iff i f s).not.mpr h)

/-- A monitor that its settings set going afresh (R115). -/
def Monitor.configured (m : Monitor) (f : MonitorFields) : Monitor :=
  Monitor.cleared { m with config := f } (if f.enabled = 0 then .off else .clear)

/-- What an accepted Monitor Configure leaves: the monitor afresh, its claim and request taken back (R115). -/
theorem State.configureMonitor_result (s : State) (i : Fin 16) (f : MonitorFields) :
    TakenBack (fun l c => c = monitorClaim i ∧ s.monitor.monitors[i].config.lamp.toNat = l.val) (· = monitorSource i) s
      (s.configureMonitor i f) ∧
    s.configureMonitor i f = { s.setMonitor i (s.monitor.monitors[i].configured f) with
      lamp := (s.configureMonitor i f).lamp, chime := s.chime.withdraw (monitorSource i) } := by
  obtain ⟨claim, lamp, chime⟩ := s.takeBackMonitor i
  refine ⟨⟨claim, lamp, chime⟩, ?_⟩
  apply State.ext_fields <;> simp [State.configureMonitor, Monitor.configured, State.monitorAt]

/-! ## Monitor Read -/

theorem flagByte_triple (a b c : Bool) :
    flagByte [a, b, c] = BitVec.ofNat 8 ((if a then 1 else 0) + (if b then 2 else 0) + (if c then 4 else 0)) := by
  revert a b c
  decide

/-- The settings' claim of a monitor, none when it has no lamp (R116). -/
theorem State.monitorClaimOf_eq (s : State) (i : Fin 16) :
    s.monitorClaimOf i =
      if h : s.monitor.monitors[i].config.lamp.toNat < 12 then
        s.lamp.claim ⟨s.monitor.monitors[i].config.lamp.toNat, h⟩ (monitorClaim i)
      else none := by
  unfold State.monitorClaimOf Monitor.lamp? index? State.monitorAt
  by_cases h : s.monitor.monitors[i].config.lamp.toNat < 12
  · simp only [dif_pos h]
  · simp only [dif_neg h]

theorem serveMonitorRead_bad {monitor part : Byte} (s : State) (h : 15 < monitor.toNat ∨ 1 < part.toNat) :
    serveMonitorRead monitor part s = refuse s .badArgument := by
  unfold serveMonitorRead
  obtain big | big := h
  · rw [index?_none big]
  · split
    · next zero => omega
    · next one => omega
    · rfl

theorem serveMonitorRead_settings {monitor : Byte} (s : State) (i : Fin 16) (hi : monitor.toNat = i.val) :
    serveMonitorRead monitor 0 s = reading s (monitorBytes s.monitor.monitors[i].config) := by
  rw [serveMonitorRead, index?_some i hi]
  rfl

theorem serveMonitorRead_status {monitor : Byte} (s : State) (i : Fin 16) (hi : monitor.toNat = i.val) :
    serveMonitorRead monitor 1 s = reading s (monitorStateBytes s i) := by
  rw [serveMonitorRead, index?_some i hi]
  rfl

/-- The state fields of Monitor Read, spelled out (R182). -/
theorem monitorStateBytes_eq (s : State) (i : Fin 16) :
    monitorStateBytes s i =
      (let m := s.monitor.monitors[i]
       let r := s.chime.queue.find? fun q => q.source = monitorSource i
       let claim := if h : m.config.lamp.toNat < 12 then
         s.lamp.claim ⟨m.config.lamp.toNat, h⟩ (monitorClaim i) else none
       [byte (monitorCode m.state),
        BitVec.ofNat 8 ((if m.acked then 1 else 0) + (if m.raw then 2 else 0) +
          (if m.snapshot = none then 0 else 4))] ++
       bytes2 (m.assertTimer.getD 65535) ++ bytes2 (m.releaseTimer.getD 65535) ++
       bytes4 (m.reminderTimer.getD 4294967295) ++
       [match claim with | none => (0 : Byte) | some .on => 1 | some .flash => 2] ++
       (match r with | none => [(0 : Byte), 255] | some q => [if q.playing then 2 else 1, byte q.passes]) ++
       (match m.snapshot with
        | none => [(0 : Byte), 0, 0, 0, 0, 0, 0]
        | some x => bytes4 x.total ++ bytes2 x.value ++ [byte (validityCode x.validity)])) := by
  have held (x : Option Snapshot) : (if x.isSome = true then 4 else 0) = if x = none then 0 else 4 := by
    cases x <;> rfl
  rw [monitorStateBytes, flagByte_triple, held, byte_claimCode, State.monitorClaimOf_eq]
  rfl

/-! ## Monitor Clear Snapshot -/

theorem State.clearSnapshot_get (s : State) (i k : Fin 16) :
    (s.clearSnapshot i).monitor.monitors[k] =
      if k = i then { s.monitor.monitors[i] with snapshot := none } else s.monitor.monitors[k] :=
  s.setMonitor_get i _ k

/-- Snapshots removed one after another: those of the monitors named, and nothing else (R117). -/
theorem foldl_clearSnapshot (named : List (Fin 16)) (s : State) :
    (∀ k : Fin 16, (named.foldl State.clearSnapshot s).monitor.monitors[k] =
      if k ∈ named then { s.monitor.monitors[k] with snapshot := none } else s.monitor.monitors[k]) ∧
    named.foldl State.clearSnapshot s = { s with
      monitor := { s.monitor with monitors := (named.foldl State.clearSnapshot s).monitor.monitors } } := by
  induction named generalizing s with
  | nil => exact ⟨fun k => by simp, rfl⟩
  | cons i named ih =>
    obtain ⟨items, frame⟩ := ih (s.clearSnapshot i)
    rw [List.foldl_cons]
    refine ⟨fun k => ?_, frame⟩
    rw [items, s.clearSnapshot_get]
    by_cases e : k = i
    · subst e
      simp
    · simp [e]

end Sys2Proof.Machine
end

section
/-!
SUPPORT. The acknowledgement of several monitors one after another (R109).
-/
namespace Sys2Proof.Machine

/-- An acknowledgement takes the monitor to CLEAR at once (R109). -/
abbrev Monitor.Clears (m : Monitor) : Prop := m.acked = false ∧ m.Lets ∧ m.config.releaseDelay = 0

/-- An acknowledgement posts the monitor's notice (R106, R107). -/
abbrev Monitor.Reports (m : Monitor) : Prop := m.Clears ∧ m.config.notice ≠ 0

/-- What MONITOR carries for a monitor that an acknowledgement takes to CLEAR (R107). -/
def Monitor.clearedWord (m : Monitor) : Word := BitVec.ofNat 16 (1 + if m.snapshot = none then 0 else 512)

theorem Monitor.released_value (m : Monitor) : monitorValue m.acknowledged.released = m.clearedWord := by
  rw [Monitor.acknowledged, Monitor.remind_eq]
  rfl

/-- The acknowledgement of the monitors of `named` turns `s` into `u`: the monitors, their claims, their requests and
their notices (R109). -/
structure Acknowledged (named : List (Fin 16)) (s u : State) : Prop where
  monitors : ∀ k : Fin 16, u.monitor.monitors[k] =
    if k ∈ named then s.monitor.monitors[k].afterAck else s.monitor.monitors[k]
  own : ∀ (i : Fin 16) (l : Fin 12), u.lamp.claim l (monitorClaim i) =
    if i ∈ named ∧ s.monitor.monitors[i].acked = false ∧ s.monitor.monitors[i].config.lamp.toNat = l.val then
      (if s.monitor.monitors[i].Clears then none else some .on)
    else s.lamp.claim l (monitorClaim i)
  others : ∀ (l : Fin 12) (c : Fin 23), (∀ i : Fin 16, c ≠ monitorClaim i) → u.lamp.claim l c = s.lamp.claim l c
  chime : u.chime = { s.chime with
    queue := withdrawWhere (fun r => ∃ i ∈ named, r.source = monitorSource i ∧ s.monitor.monitors[i].acked = false)
      s.chime.queue }
  posted : ∀ i ∈ named, s.monitor.monitors[i].Reports → u.posted (.monitor i) s.monitor.monitors[i].clearedWord
  notices : ∀ p : Notice → Bool,
    (∀ i ∈ named, s.monitor.monitors[i].Reports → ∀ n : Notice, n.key = .monitor i → p n = false) →
      u.notices.filter p = s.notices.filter p
  frame : u = { s with
    monitor := { s.monitor with monitors := u.monitor.monitors }, lamp := { s.lamp with claims := u.lamp.claims },
    chime := u.chime, notices := u.notices }

theorem Acknowledged.nil (s : State) : Acknowledged [] s s where
  monitors _ := by simp
  own _ _ := by simp
  others _ _ _ := rfl
  chime := by simp [withdrawWhere]
  posted _ h := absurd h List.not_mem_nil
  notices _ _ := rfl
  frame := rfl

/-- The acknowledgement of one monitor, by what it does to the claims, the requests and the notices. -/
theorem Acknowledged.single {s : State} {i : Fin 16}
    (claim : ∀ (l : Fin 12) (c : Fin 23), (s.acknowledge i).lamp.claim l c =
      if c = monitorClaim i ∧ s.monitor.monitors[i].acked = false ∧ s.monitor.monitors[i].config.lamp.toNat = l.val then
        (if s.monitor.monitors[i].Clears then none else some .on)
      else s.lamp.claim l c)
    (chime : (s.acknowledge i).chime =
      if s.monitor.monitors[i].acked = false then s.chime.withdraw (monitorSource i) else s.chime)
    (notices : (s.acknowledge i).notices =
      if s.monitor.monitors[i].Reports then postNotice (.monitor i) s.monitor.monitors[i].clearedWord s.notices
      else s.notices)
    (frame : s.acknowledge i = { s with
      monitor := (s.acknowledge i).monitor, lamp := { s.lamp with claims := (s.acknowledge i).lamp.claims },
      chime := (s.acknowledge i).chime, notices := (s.acknowledge i).notices }) :
    Acknowledged [i] s (s.acknowledge i) where
  monitors k := by
    rw [s.acknowledge_get]
    by_cases e : k = i
    · rw [if_pos e, if_pos (List.mem_singleton.mpr e), e]
    · rw [if_neg e, if_neg fun h => e (List.mem_singleton.mp h)]
  own j l := by
    rw [claim]
    by_cases e : j = i
    · subst e
      simp
    · rw [if_neg fun h => e (monitorClaim_inj h.1), if_neg fun h => e (List.mem_singleton.mp h.1)]
  others l c h := (claim l c).trans (if_neg fun g => h i g.1)
  chime := by
    rw [chime]
    split
    · next fresh =>
      refine congrArg (fun q => ({ s.chime with queue := q } : ChimeUnit))
        (List.filterMap_congr fun r _ => if_congr ?_ rfl rfl)
      simp only [List.mem_singleton, exists_eq_left, fresh, and_true]
    · next acked =>
      refine congrArg (fun q => ({ s.chime with queue := q } : ChimeUnit))
        (List.filterMap_some.symm.trans (List.filterMap_congr fun r _ => (if_neg ?_).symm))
      exact fun ⟨j, hj, _, fresh⟩ => acked (List.mem_singleton.mp hj ▸ fresh)
  posted j hj reports := by
    obtain rfl := List.mem_singleton.mp hj
    exact State.posted_of_notices_eq (notices.trans (if_pos reports)) (s.notify_posted _ _)
  notices p hp := by
    rw [notices]
    split
    · next reports => exact filter_postNotice (hp i (List.mem_singleton_self i) reports) _ _
    · rfl
  frame := by
    have table : (s.acknowledge i).monitor =
        { s.monitor with monitors := (s.acknowledge i).monitor.monitors } := by
      rw [s.acknowledge_monitor]
      rfl
    rw [← table]
    exact frame

/-- What an acknowledgement that clears its monitor leaves (R106, R109). -/
theorem Acknowledged.of_clears {s : State} {i : Fin 16} (clears : s.monitor.monitors[i].Clears) :
    Acknowledged [i] s (s.acknowledge i) := by
  obtain ⟨fresh, lets, delay⟩ := clears
  obtain ⟨-, claim, lamp, chime, notices, frame⟩ := State.acknowledge_clears (s := s) fresh lets delay
  have config : (s.monitorAt i).acknowledged.released.config = s.monitor.monitors[i].config :=
    Monitor.acknowledged_config _
  refine .single (fun l c => ?_) (chime.trans (if_pos fresh).symm) ?_ ?_
  · rw [claim, config, if_pos (show s.monitor.monitors[i].Clears from ⟨fresh, lets, delay⟩)]
    simp only [fresh, true_and]
  · rw [notices, config, Monitor.released_value]
    by_cases off : s.monitor.monitors[i].config.notice = 0
    · rw [if_pos off, if_neg fun h => h.2 off]
    · rw [if_neg off, if_pos ⟨⟨fresh, lets, delay⟩, off⟩]
      rfl
  · rw [← lamp]
    exact frame

/-- What an acknowledgement that leaves its monitor warning leaves (R109). -/
theorem Acknowledged.of_silenced {s : State} {i : Fin 16} {m : Monitor}
    (silenced : Silenced s i m (s.acknowledge i)) (config : m.config = s.monitor.monitors[i].config)
    (fresh : s.monitor.monitors[i].acked = false) (stays : ¬ s.monitor.monitors[i].Clears) :
    Acknowledged [i] s (s.acknowledge i) := by
  have quiet : (s.acknowledge i).notices = s.notices := by rw [silenced.frame]
  refine .single (fun l c => ?_) (silenced.chime.trans (if_pos fresh).symm) ?_ ?_
  · rw [silenced.claim, config, if_neg stays]
    simp only [fresh, true_and]
  · rw [if_neg fun h => stays h.1]
    exact quiet
  · rw [← silenced.lamp, quiet]
    exact silenced.frame

/-- What an acknowledgement of one acknowledged before leaves (R109). -/
theorem Acknowledged.of_acked {s : State} {i : Fin 16} (acked : s.monitor.monitors[i].acked = true) :
    Acknowledged [i] s (s.acknowledge i) := by
  have again : s.acknowledge i = _ := State.acknowledge_again acked
  have old : ¬ s.monitor.monitors[i].acked = false := fun fresh => Bool.false_ne_true (fresh.symm.trans acked)
  refine .single (fun l c => ?_) ?_ ?_ ?_
  · rw [if_neg fun h => old h.2.1, again]
    rfl
  · rw [if_neg old, again]
    rfl
  · rw [if_neg fun h => old h.1.1, again]
    rfl
  · rw [again]
    rfl

theorem State.acknowledge_single (s : State) (i : Fin 16) : Acknowledged [i] s (s.acknowledge i) := by
  by_cases acked : s.monitor.monitors[i].acked = true
  · exact .of_acked acked
  have fresh : s.monitor.monitors[i].acked = false := Bool.eq_false_iff.mpr acked
  by_cases lets : s.monitor.monitors[i].Lets
  · by_cases delay : s.monitor.monitors[i].config.releaseDelay = 0
    · exact .of_clears ⟨fresh, lets, delay⟩
    · exact .of_silenced (State.acknowledge_releases fresh lets delay) (Monitor.acknowledged_config _) fresh
        fun clears => delay clears.2.2
  · exact .of_silenced (State.acknowledge_keeps fresh lets) (Monitor.acknowledged_config _) fresh
      fun clears => lets clears.2.1

/-- The acknowledgement of one monitor and then of others. -/
theorem Acknowledged.cons {i : Fin 16} {named : List (Fin 16)} (hi : i ∉ named) {s t u : State}
    (h : Acknowledged [i] s t) (g : Acknowledged named t u) : Acknowledged (i :: named) s u := by
  have other : ∀ k ∈ named, t.monitor.monitors[k] = s.monitor.monitors[k] := fun k hk =>
    (h.monitors k).trans (if_neg fun e => hi ((List.mem_singleton.mp e : k = i) ▸ hk))
  refine ⟨fun k => ?_, fun k l => ?_, fun l c e => (g.others l c e).trans (h.others l c e), ?_, fun k hk reports => ?_,
    fun p hp => ?_, ?_⟩
  · rw [g.monitors]
    by_cases hk : k ∈ named
    · rw [if_pos hk, if_pos (List.mem_cons_of_mem i hk), other k hk]
    · rw [if_neg hk, h.monitors]
      simp [hk]
  · rw [g.own]
    by_cases hk : k ∈ named
    · have ne : ¬ k = i := fun e => hi (e ▸ hk)
      simp only [other k hk, h.own, hk, List.mem_cons, ne, List.not_mem_nil, true_and, or_true, or_false, false_and,
        if_false]
    · simp only [hk, h.own, List.mem_cons, false_and, or_false, if_false, List.not_mem_nil]
  · rw [g.chime, h.chime]
    refine congrArg (fun q => ({ s.chime with queue := q } : ChimeUnit))
      ((withdrawWhere_withdrawWhere _).trans (List.filterMap_congr fun r _ => if_congr ?_ rfl rfl))
    simp only [List.exists_mem_cons_iff, List.not_mem_nil, false_and, exists_false, or_false]
    exact or_congr_right (exists_congr fun k => and_congr_right fun hk => by rw [other k hk])
  · obtain rfl | hk := List.mem_cons.mp hk
    · refine State.posted_of_filter (p := fun n => decide (n.key = .monitor k)) (by simp) ?_
        (h.posted k (List.mem_singleton_self k) reports)
      refine g.notices _ fun j hj _ n hn => ?_
      have ne : j ≠ k := fun e => hi (e ▸ hj)
      simpa [hn] using ne
    · rw [← other k hk] at reports ⊢
      exact g.posted k hk reports
  · rw [g.notices p fun k hk reports => hp k (List.mem_cons_of_mem i hk) (other k hk ▸ reports)]
    exact h.notices p fun k hk => hp k (List.mem_singleton.mp hk ▸ List.mem_cons_self)
  · refine g.frame.trans ?_
    rw [h.frame]

theorem foldl_acknowledge (named : List (Fin 16)) (distinct : named.Nodup) (s : State) :
    Acknowledged named s (named.foldl State.acknowledge s) := by
  induction named generalizing s with
  | nil => exact .nil s
  | cons i named ih =>
    obtain ⟨fresh, distinct⟩ := List.nodup_cons.mp distinct
    exact .cons fresh (s.acknowledge_single i) (ih distinct (s.acknowledge i))

end Sys2Proof.Machine
end

section
/-!
SUPPORT and proof: the monitor requests, served at once (R109, R114 to R117, R182).
-/
namespace Sys2Proof.Machine

/-! ## Monitor Acknowledge and Monitor Clear Snapshot -/

theorem serveMonitorAcknowledge_bad {monitor : Byte} (s : State) (h : 15 < monitor.toNat) (single : monitor ≠ 255) :
    serveMonitorAcknowledge monitor s = refuse s .badArgument := by
  rw [serveMonitorAcknowledge, if_neg single, index?_none h]

theorem serveMonitorAcknowledge_cold {monitor : Byte} {s : State} {i : Fin 16} (hi : monitor.toNat = i.val)
    (h : ¬ (s.monitorAt i).warning = true) : serveMonitorAcknowledge monitor s = refuse s .conditions := by
  have single : monitor ≠ 255 := by bv_omega
  rw [serveMonitorAcknowledge, if_neg single, index?_some i hi]
  exact if_neg h

theorem serveMonitorAcknowledge_warm {monitor : Byte} {s : State} {i : Fin 16} (hi : monitor.toNat = i.val)
    (h : (s.monitorAt i).warning = true) : serveMonitorAcknowledge monitor s = accepted (s.acknowledge i) := by
  have single : monitor ≠ 255 := by bv_omega
  rw [serveMonitorAcknowledge, if_neg single, index?_some i hi]
  exact if_pos h

theorem serveMonitorAcknowledge_all (s : State) :
    serveMonitorAcknowledge 255 s =
      reading (s.warnings.foldl State.acknowledge s) [byte s.warnings.length] := if_pos rfl

theorem serveMonitorClearSnapshot_all (s : State) :
    serveMonitorClearSnapshot 255 s = accepted ((List.finRange 16).foldl State.clearSnapshot s) := if_pos rfl

theorem serveMonitorClearSnapshot_bad {monitor : Byte} (s : State) (h : 15 < monitor.toNat)
    (single : monitor ≠ 255) : serveMonitorClearSnapshot monitor s = refuse s .badArgument := by
  rw [serveMonitorClearSnapshot, if_neg single, index?_none h]

theorem serveMonitorClearSnapshot_one {monitor : Byte} (s : State) (i : Fin 16) (hi : monitor.toNat = i.val) :
    serveMonitorClearSnapshot monitor s = accepted (s.clearSnapshot i) := by
  have single : monitor ≠ 255 := by bv_omega
  rw [serveMonitorClearSnapshot, if_neg single, index?_some i hi]

theorem Monitor.acknowledged_eq (m : Monitor) :
    m.acknowledged = { m with
      acked := true,
      reminderTimer := if m.config.reminder = 0 then m.reminderTimer else some (m.config.reminder.toNat * 600) } := by
  rw [Monitor.acknowledged, Monitor.remind_eq]

/-- A monitor as an acknowledgement leaves it, acknowledged before or not (R109). -/
theorem Monitor.afterAck_eq (m : Monitor) :
    m.afterAck = if m.Clears then m.acknowledged.released
      else if m.acked = false ∧ m.Lets then m.acknowledged.releasing
      else m.acknowledged := by
  unfold Monitor.afterAck
  by_cases acked : m.acked = true
  · have old : ¬ m.acked = false := fun fresh => Bool.false_ne_true (fresh.symm.trans acked)
    rw [if_pos acked, if_neg fun h => old h.1, if_neg fun h => old h.1, Monitor.acknowledged, Monitor.remind_eq, ← acked]
  have fresh : m.acked = false := Bool.eq_false_iff.mpr acked
  rw [if_neg acked]
  by_cases lets : m.Lets
  · rw [if_neg (not_not.mpr lets)]
    by_cases delay : m.config.releaseDelay = 0
    · rw [if_pos delay, if_pos ⟨fresh, lets, delay⟩]
    · rw [if_neg delay, if_neg fun h => delay h.2.2, if_pos ⟨fresh, lets⟩]
  · rw [if_pos lets, if_neg fun h => lets h.2.1, if_neg fun h => lets h.2]

theorem State.mem_warnings {s : State} {i : Fin 16} :
    i ∈ s.warnings ↔ s.monitor.monitors[i].state = .active ∨ s.monitor.monitors[i].state = .releasing := by
  simp only [State.warnings, List.mem_filter, List.mem_finRange, true_and, Monitor.warning_eq, decide_eq_true_eq,
    State.monitorAt]

/-- Every monitor that warns acknowledged (R109). -/
theorem State.acknowledge_warnings (s : State) : Acknowledged s.warnings s (s.warnings.foldl State.acknowledge s) :=
  foldl_acknowledge _ ((List.nodup_finRange 16).filter _) s

/-! ## The requests -/

/-- A frame's arrival leaves the monitors alone (R162). -/
theorem State.frameActivity_monitors (s : State) : s.frameActivity.monitor.monitors = s.monitor.monitors := by
  unfold State.frameActivity
  split
  · rfl
  · simp

/-- Settles O57: each request is served at once, refused or carried out by its service's lemmas. -/
theorem monitorRequests : Obligations.MonitorRequests := by
  intro s hs t setting claims
  have hmonitors : t.monitor.monitors = s.monitor.monitors := s.frameActivity_monitors
  have hchime : t.chime = s.chime := by simp [t]
  have hclaim : ∀ (l : Fin 12) (c : Fin 23), t.lamp.claim l c = s.lamp.claim l c := s.frameActivity_claim
  have hset : ∀ (i : Fin 16) (m : Monitor), t.setMonitor i m = setting i m := fun i m => by
    simp only [setting, ← hmonitors]
    rfl
  refine ⟨fun monitor f => ⟨fun h => ?_, fun i hi => ⟨fun h => ?_, fun h => ?_⟩⟩,
    fun monitor part => ⟨fun h => ?_, fun i hi => ⟨?_, ?_⟩⟩,
    fun monitor => ⟨fun h single => ?_, fun i hi => ?_⟩, ?_,
    fun monitor => ⟨fun h single => ?_, fun i hi => ?_⟩, ?_⟩
  · exact exec_badArgument hs rfl rfl (serveMonitorConfigure_bad f t h)
  · have unsound : monitorUnsound i f t := by unfold monitorUnsound; rw [hchime]; exact h
    exact exec_badArgument hs rfl rfl (serveMonitorConfigure_unsound t i hi unsound)
  · have sound : ¬ monitorUnsound i f t := by unfold monitorUnsound; rw [hchime]; exact h
    obtain ⟨taken, frame⟩ := t.configureMonitor_result i f
    refine ⟨_, exec_accepted hs rfl rfl (serveMonitorConfigure_sound t i hi sound), ⟨fun l c => ?_, ?_⟩, ?_⟩
    · rw [taken.claim, hclaim, hmonitors]
    · exact taken.lamp
    · rw [hset, hmonitors, hchime] at frame
      exact frame
  · exact exec_badArgument hs rfl rfl (serveMonitorRead_bad t h)
  · rintro rfl
    have served := serveMonitorRead_settings t i hi
    rw [hmonitors] at served
    exact exec_reading hs rfl rfl served
  · rintro rfl
    have served := serveMonitorRead_status t i hi
    simp only [monitorStateBytes_eq, hmonitors, hchime, hclaim] at served
    exact exec_reading hs rfl rfl served
  · exact exec_badArgument hs rfl rfl (serveMonitorAcknowledge_bad t h single)
  · intro m timer acked warns releases acts
    have hm : t.monitorAt i = m := by rw [State.monitorAt, hmonitors]
    have hacked : m.acknowledged = acked := m.acknowledged_eq
    have silences {m' : Monitor} (h : Silenced t i m' (t.acknowledge i)) (config : m'.config = m.config) :
        acts m' (t.acknowledge i) := by
      have frame := h.frame
      refine ⟨⟨fun l c => ?_, h.lamp⟩, ?_⟩
      · rw [h.claim, hclaim, config]
      · rw [h.monitor, h.chime, hmonitors, hchime] at frame
        exact frame
    have taken (warm : warns) :
        exec (.monitorAcknowledge monitor) s = .next ((t.acknowledge i).replied 0x2A 0 []) :=
      have warm : (t.monitorAt i).warning = true := by rwa [hm, Monitor.warning_eq, decide_eq_true_eq]
      exec_accepted hs rfl rfl (serveMonitorAcknowledge_warm hi warm)
    refine ⟨fun cold => ?_, fun warm old => ?_, fun warm fresh keeps => ?_, fun warm fresh lets delay => ?_,
      fun warm fresh lets delay => ?_⟩
    · have cold : ¬ (t.monitorAt i).warning = true := by rwa [hm, Monitor.warning_eq, decide_eq_true_eq]
      exact exec_refused (r := .conditions) hs rfl rfl (serveMonitorAcknowledge_cold hi cold)
    · rw [taken warm, State.acknowledge_again (hm ▸ old), hm, Monitor.remind_eq, hset]
    · have silenced := State.acknowledge_keeps (s := t) (hm ▸ fresh) (hm ▸ keeps)
      rw [hm, hacked] at silenced
      exact ⟨_, taken warm, silences silenced rfl⟩
    · have silenced := State.acknowledge_releases (s := t) (hm ▸ fresh) (hm ▸ lets) (hm ▸ delay)
      rw [hm, hacked] at silenced
      exact ⟨_, taken warm, silences silenced rfl⟩
    · have clears := State.acknowledge_clears (s := t) (hm ▸ fresh) (hm ▸ lets) (hm ▸ delay)
      rw [hm, hacked] at clears
      exact ⟨_, taken warm, clears⟩
  · intro warns fresh releases clears reports
    have named : t.warnings = (List.finRange 16).filter warns := by
      simp only [State.warnings, State.monitorAt, hmonitors, Monitor.warning_eq, warns]
    have mem (i : Fin 16) : i ∈ t.warnings ↔ warns i = true := by
      rw [named, List.mem_filter]
      exact and_iff_right (List.mem_finRange i)
    have mem_fresh (i : Fin 16) : fresh i = true ↔ i ∈ t.warnings ∧ s.monitor.monitors[i].acked = false := by
      simp only [fresh, mem, Bool.and_eq_true, Bool.not_eq_true']
    have mem_releases (i : Fin 16) :
        releases i = true ↔ i ∈ t.warnings ∧ s.monitor.monitors[i].acked = false ∧ s.monitor.monitors[i].Lets := by
      simp only [releases, mem_fresh, Bool.and_eq_true, decide_eq_true_eq, and_assoc]
    have mem_clears (i : Fin 16) : clears i = true ↔ i ∈ t.warnings ∧ s.monitor.monitors[i].Clears := by
      simp only [clears, mem_releases, Monitor.Clears, Bool.and_eq_true, decide_eq_true_eq, and_assoc]
    have mem_reports (i : Fin 16) : reports i = true ↔ i ∈ t.warnings ∧ s.monitor.monitors[i].Reports := by
      simp only [reports, mem_clears, Monitor.Reports, Bool.and_eq_true, decide_eq_true_eq, and_assoc]
    have served := serveMonitorAcknowledge_all t
    have acknowledged := t.acknowledge_warnings
    generalize t.warnings.foldl State.acknowledge t = u at served acknowledged
    rw [named] at served
    obtain ⟨monitors, own, others, chime, posted, notices, frame⟩ := acknowledged
    rw [hmonitors] at monitors own posted notices chime
    refine ⟨u, exec_reading hs rfl rfl served, fun i => ?_, fun i l => ?_, fun l c h => ?_, ?_, fun i h => ?_, ?_, ?_⟩
    · rw [monitors]
      by_cases warm : i ∈ t.warnings
      · simp only [warm, if_true, Monitor.afterAck_eq, Monitor.acknowledged_eq, mem_clears, mem_releases, ← mem, true_and]
        rfl
      · simp only [warm, if_false, mem_clears, mem_releases, ← mem, false_and]
    · rw [own, hclaim]
      by_cases warm : i ∈ t.warnings
      · simp only [warm, mem_fresh, mem_clears, true_and]
      · simp only [warm, mem_fresh, false_and, if_false]
    · exact (others l c h).trans (hclaim l c)
    · rw [chime, hchime]
      refine congrArg (fun q => ({ s.chime with queue := q } : ChimeUnit))
        (List.filterMap_congr fun r _ => if_congr (exists_congr fun i => ?_) rfl rfl)
      rw [mem_fresh]
      exact and_left_comm
    · obtain ⟨warm, report⟩ := (mem_reports i).mp h
      exact posted i warm report
    · exact notices _ fun i warm report n key =>
        decide_eq_false fun apart => apart i ((mem_reports i).mpr ⟨warm, report⟩) key
    · exact frame
  · exact exec_badArgument hs rfl rfl (serveMonitorClearSnapshot_bad t h single)
  · have served := serveMonitorClearSnapshot_one t i hi
    rw [State.clearSnapshot, hset, State.monitorAt, hmonitors] at served
    exact exec_accepted hs rfl rfl served
  · obtain ⟨items, frame⟩ := foldl_clearSnapshot (List.finRange 16) t
    refine ⟨_, exec_accepted hs rfl rfl (serveMonitorClearSnapshot_all t), fun i => ?_, frame⟩
    rw [items, if_pos (List.mem_finRange i), hmonitors]

end Sys2Proof.Machine
end
